-- ==== Sys2Proof/Word.lean ====
section
/-!
DEFINITION. The word types of the hub: registers are 32-bit words (00_scope.md, Registers and access codes), memory is
addressed in bytes and stores are little-endian (R14).
-/

namespace Sys2Proof

/-- A register or memory word. -/
abbrev Word := BitVec 32

/-- One byte of a memory window. -/
abbrev Byte := BitVec 8

end Sys2Proof
end

