-- ==== Sys2Proof/Syntax.lean ====
section
/-!
DEFINITION. The commands of the hub: one constructor for each row of the table of operations and events, with what comes from
outside as its operands. Index operands are natural numbers; WellFormed.lean says which are in range.
-/

namespace Sys2Proof

/-- The paths over which registers are reached (R413). -/
inductive Path where
  | mc | downlink | ethernet | jtag
  deriving DecidableEq, Repr

/-- The registers of a digital threshold (R157). -/
inductive DtReg where
  | cfg | hi | lo
  deriving DecidableEq, Repr

/-- What comes in on MMSG (R21, R22): the bits of a word, bit 0 sampled `slots` slots after the current one. -/
structure MmsgIn (n : Nat) where
  slots : Nat
  word : BitVec n
  deriving DecidableEq, Repr

/-- The open-detect comparator of an input's ball, and the frames for which it has read the same (R94). -/
structure OpenRun where
  input : Nat
  frames : Nat
  deriving DecidableEq, Repr

/-- An RX lane as its TRAIN blocks number it, and whether its sync headers come inverted (R278, R280). -/
structure RxLane where
  lane : Nat
  inv : Bool
  deriving DecidableEq, Repr

/-- The last field of a frame of the twin link as it arrives, and the CRC that its EOF carries (R421). -/
structure Checked (α : Type) where
  val : α
  eof : Nat
  deriving DecidableEq, Repr

/-- FEED_A and FEED_B in mV. -/
structure Feeds where
  a : Nat
  b : Nat
  deriving DecidableEq, Repr

/-- A word in error that the scrubber reads: the memory, the word's address, its row, and whether ECC cannot correct it. -/
structure EccFind where
  mem : Nat
  addr : Nat
  row : Nat
  fatal : Bool
  deriving DecidableEq, Repr

/-- The codes that FADC[0]-FADC[3] give of one instant (R168): X-I, X-Q, Y-I, Y-Q. -/
structure FadcSample where
  xi : Int
  xq : Int
  yi : Int
  yq : Int
  deriving DecidableEq, Repr

/-- What comes back from a launch: the measured place of the strobe edge after the slot edge in 1/1,024 slot (R169), and the
codes of the instants 12.5 ps apart, the first of them 60 fibre-clock periods before the launch edge: each FADC samples at the
instants its skew tap selects (R183). -/
structure Trace where
  fine : Nat
  samples : List FadcSample
  deriving DecidableEq, Repr

/-- What comes back from a DTS launch: the codes of the Stokes and anti-Stokes RADC from the strobe edge on, and from T_dwin
before it on (R195). -/
structure DtsTrace where
  fine : Nat
  stokes : List Nat
  anti : List Nat
  stokesBg : List Nat
  antiBg : List Nat
  deriving DecidableEq, Repr

/-- The header of a PTP message as it arrives (R311): its destination address, clockIdentity and port number of its sender,
domainNumber, majorSdoId and minorSdoId as one number, sequence number, and the logarithm of the interval it names. -/
structure PtpHdr where
  dest : Nat := 0x011B19000000
  clock : Nat
  port : Nat
  domain : Nat
  sdo : Nat
  seq : Nat
  logInterval : Int
  deriving DecidableEq, Repr

/-- A service frame as it arrives (R319, R320): destination (the broadcast address unless it says otherwise) and source address, whether its FCS is good, the fields of its header word, whether its
length fits the word count, and its words. -/
structure EthFrame where
  dest : Nat := 2 ^ 48 - 1
  source : Nat
  fcsOk : Bool
  magic : Nat
  version : Nat
  kind : Nat
  seq : Nat
  lengthOk : Bool
  words : List (BitVec 64)
  deriving DecidableEq, Repr

/-- What a visit measures of a cell (R362, R363): offset, gain in Q2.22, Q_R, aperture tap, comparator trims. -/
structure CellMeas where
  offset : Int
  gain : Nat
  qr : Nat
  tap : Nat
  trimHi : Int
  trimLo : Int
  deriving DecidableEq, Repr

/-- A measurement that ends: of the visit of the group, of an input in place on the fallback path, of the group's REF or EXC trim, of
the voltage across its R_REF in µV.
`code` is the failure the conversions themselves show: 3 NOISE, 4 TRIM_LIMIT, 5 NO_RESPONSE, 6 STUCK, or 0 (R375). -/
inductive CalMeas where
  | visit (m : CellMeas) (code : Nat)
  | inPlace (input : Nat) (offset : Int) (gain qr code : Nat)
  | ref (trim : Int)
  | exc (trim : Int)
  | rref (uv : Nat)
  deriving DecidableEq, Repr

/-- The commands, in the order of the table. -/
inductive Instr where
  /-- REV_MARKER (R28): The edge at which the flywheel gives `slot` carries a REV marker. -/
  | revMarker (slot : Nat)
  /-- FLYWHEEL_WRAP (R26): The count runs on to its next wrap, whose edge carries no REV marker. -/
  | flywheelWrap
  /-- MMSG_WORD (R23): The 32 bits of an ordinary word come in. -/
  | mmsgWord (word : MmsgIn 32)
  /-- TURN_WORD (R37): The 64 bits of a turn word come in. -/
  | turnWord (word : MmsgIn 64)
  /-- PASS_TO_UNANCHORED (R30): BCLK has met R18 for 10 µs. -/
  | passToUnanchored
  /-- BCLK_MEAS_WINDOW (R39): A window ends; `freq` is its mean frequency in units of 100 Hz. -/
  | bclkMeasWindow (freq : Nat)
  /-- BCLK_LOST (R39): No edge for 100 ns; the last BCLK edge lies `slots` slots back. -/
  | bclkLost (slots : Nat)
  /-- BCLK_RELOCK (R41): BCLK has met R18 for 10 µs after a loss. -/
  | bclkRelock
  /-- FRAME_TICK (R49): The next instance of FRAME_SERIES `entry` falls due. -/
  | frameTick (entry : Nat)
  /-- LAUNCH_TICK (R169): The next instance of LAUNCH_SERIES `entry` falls due; `trace` is what the fibre answers. -/
  | launchTick (entry : Nat) (trace : Trace)
  /-- DTS_LAUNCH (R195): The next instance of DTS_LAUNCH `entry` falls due; `trace` is what the fibre answers. -/
  | dtsLaunch (entry : Nat) (trace : DtsTrace)
  /-- QUIET_WINDOW (R370): The next instance of QUIET_WINDOW `entry` falls due. -/
  | quietWindow (entry : Nat)
  /-- TRIGGER_ARM (R209): The next instance of TRIGGER_ARM `entry` falls due. -/
  | triggerArm (entry : Nat)
  /-- TRIGGER_DISARM (R209): The next instance of TRIGGER_DISARM `entry` falls due. -/
  | triggerDisarm (entry : Nat)
  /-- STREAM_START (R256): The next instance of STREAM_START `entry` falls due. -/
  | streamStart (entry : Nat)
  /-- STREAM_STOP (R256): The next instance of STREAM_STOP `entry` falls due. -/
  | streamStop (entry : Nat)
  /-- USER_MARK (R217): The next instance of USER_MARK `entry` falls due. -/
  | userMark (entry : Nat)
  /-- CHECKPOINT (R427): The next instance of CHECKPOINT `entry` falls due. -/
  | checkpoint (entry : Nat)
  /-- TT_OVERFLOW (R51): The first instance carried over is executed. -/
  | ttOverflow
  /-- TT_COMMIT (R56): `index` is written to MT.TT_COMMIT over `path`. -/
  | ttCommit (path : Path) (index : Nat)
  /-- TT_COMMIT_APPLY (R55): The next slot boundary comes with a commit pending. -/
  | ttCommitApply
  /-- TT_LATE_NOW (R53): Slot W + 1 of the late one-shot `entry` comes; `trace` is what the fibre answers to a DTS launch. -/
  | ttLateNow (entry : Nat) (trace : DtsTrace)
  /-- ON_EVENT_FIRE (R57): The effective slot of a waiting FIRE action of ON_EVENT entry `entry` comes. -/
  | onEventFire (entry : Nat)
  /-- ON_EVENT_ENABLE (R57): The effective slot of a waiting ENABLE action of ON_EVENT entry `entry` comes. -/
  | onEventEnable (entry : Nat)
  /-- ON_EVENT_DISABLE (R57): The effective slot of a waiting DISABLE action of ON_EVENT entry `entry` comes. -/
  | onEventDisable (entry : Nat)
  /-- ON_EVENT_ARM (R57): The effective slot of a waiting ARM action of ON_EVENT entry `entry` comes. -/
  | onEventArm (entry : Nat)
  /-- ON_EVENT_DISARM (R57): The effective slot of a waiting DISARM action of ON_EVENT entry `entry` comes. -/
  | onEventDisarm (entry : Nat)
  /-- ON_EVENT_CLEAR_TRIPS (R232): The effective slot of a waiting CLEAR_TRIPS action of ON_EVENT entry `entry` comes. -/
  | onEventClearTrips (entry : Nat)
  /-- ON_EVENT_MARK (R217): The effective slot of a waiting MARK action of ON_EVENT entry `entry` comes. -/
  | onEventMark (entry : Nat)
  /-- CELL_CFG_WRITE (R75): `value` is written to AFE.CELL_CFG[input]. -/
  | cellCfgWrite (path : Path) (input : Nat) (value : Word)
  /-- QCUM_ZERO (R70): `mask` is written to AFE.QCUM_ZERO[group]. -/
  | qcumZero (path : Path) (group mask : Nat)
  /-- EXC_LIMIT (R77): The load reaches 40 mA; `load` is in 1/1024 mA. -/
  | excLimit (group load : Nat)
  /-- EXC_LIMIT_END (R77): The load has stayed below 38 mA for 16 frames. -/
  | excLimitEnd (group : Nat)
  /-- EXC_SENSE_OPEN (R77): The sensed voltage, in mV, has fallen below 50 % at compliance. -/
  | excSenseOpen (group mv : Nat)
  /-- SENSE_RESTORED (R77): The sense has been restored for 16 frames. -/
  | senseRestored (group : Nat)
  /-- STRING_OPEN (R82): The voltage across R_REF is measured, in mV. -/
  | stringOpen (group mv : Nat)
  /-- RREF_BASELINE (R82): EXC has been driven for 500 µs; the voltage across R_REF in µV. -/
  | rrefBaseline (group uv : Nat)
  /-- COMPARATOR_CROSSING (R83): The high or low comparator of the cell serving the input rises or falls, `fine`/1024 slot after the last frame tick. -/
  | comparatorCrossing (input : Nat) (high rises : Bool) (fine : Nat)
  /-- DIP_PERIOD_END (R90): A tone period ends; the products summed over it, in phase and quadrature, scaled so that 2^15 stands for ρ = 1. -/
  | dipPeriodEnd (input : Nat) (inPhase quad : Int)
  /-- DIP_CAPTURE (R102): `mask` is written to AFE.DIP_CAPTURE[group]. -/
  | dipCapture (path : Path) (group mask : Nat)
  /-- FAULT_SUSPECT (R94): The open-detect comparator of the ball has read high at so many consecutive ticks. -/
  | faultSuspect (ball : OpenRun)
  /-- SUSPECT_CLEAR (R95): The open-detect comparator of the ball has read low for so many frames. -/
  | suspectClear (ball : OpenRun)
  /-- FAULT_CLR (R98): `mask` is written to AFE.FAULT_CLR[group]. -/
  | faultClr (path : Path) (group mask : Nat)
  /-- SPARE_HANDOVER (R100): The tick comes at which the spare, settled, takes its input over, or hands it back. -/
  | spareHandover (group : Nat)
  /-- RESULT_WORD (R124): A conversion of the input completes with the signed 16-bit `code`. -/
  | resultWord (input : Nat) (urgent : Bool) (code : Int)
  /-- MAP_COMMIT (R115): CNV.MAP_COMMIT is written. -/
  | mapCommit (path : Path) (adc : Nat)
  /-- SPARE_FIX (R129): CNV.SPARE_FIX[group] is written. -/
  | spareFix (path : Path) (group : Nat) (en : Bool) (input : Nat)
  /-- ENGINE_FAIL (R160): The hub declares the engine failed (16 is SE_SPARE) for the cause of R160. -/
  | engineFail (engine cause : Nat)
  /-- SE_TAKEOVER (R162): The turn boundary of the takeover that waits comes. -/
  | seTakeover
  /-- SE_SWAP (R163): SE.SWAP is written with EN = 1. -/
  | seSwap (path : Path) (engine : Nat)
  /-- SE_HAND_BACK (R163): SE.SWAP is written with EN = 0. -/
  | seHandBack (path : Path) (engine : Nat)
  /-- SWAP_DONE (R163): The turn boundary of the planned swap or hand-back comes. -/
  | swapDone
  /-- BANK_SEL (R156): `bank` is written to SE.BANK_SEL[recipe]. -/
  | bankSel (path : Path) (recipe bank : Nat)
  /-- BANK_SWITCH (R156): The turn boundary of the requested bank switch comes. -/
  | bankSwitch (recipe : Nat)
  /-- DT_CFG (R157): `value` is written to SE.DT_CFG, SE.DT_TH_HI or SE.DT_TH_LO of the input. -/
  | dtCfg (path : Path) (which : DtReg) (input : Nat) (value : Word)
  /-- MOD_STATUS (R172): A change of the module status pins has held for 1 µs; MOD_PRESENT_N low, MOD_READY high, MOD_ALARM_N low. -/
  | modStatus (present ready alarm : Bool)
  /-- LASER_EN (R170): LASER_EN is written to FI.LASER. -/
  | laserEn (path : Path) (on : Bool)
  /-- GAUGE_WRITE (R200): `value` is written to FI.GAUGE, or to FI.TRACK. -/
  | gaugeWrite (path : Path) (track : Bool) (value : Word)
  /-- DTS_CYCLE (R196): The trace window of the last launch of the cycle ends. -/
  | dtsCycle
  /-- WEAK_SUMMARY (R201): 1,024 launches of group 0 have passed. -/
  | weakSummary
  /-- TRIG_IN (R205): TRIG_IN[input] is sampled at a slot-clock edge. -/
  | trigIn (input : Nat) (high : Bool)
  /-- TRIGGER_EVALUATION (R206): The evaluation instant of the oldest frame not yet evaluated comes. -/
  | triggerEvaluation
  /-- FORCED_FIRE (R211): The evaluation instant comes of a frame in which auto mode fires the trigger. -/
  | forcedFire (trg : Nat)
  /-- BURST_CLOSE (R222): The evaluation instant of frame E of the open burst comes. -/
  | burstClose
  /-- STANDPIPE_REARM (R223): Frame E + PRE has been recorded. -/
  | standpipeRearm
  /-- TRG_ARM (R209): The ARM half of TRG.ARM is written. -/
  | trgArm (path : Path) (mask : Nat)
  /-- TRG_DISARM (R209): The DISARM half of TRG.ARM is written. -/
  | trgDisarm (path : Path) (mask : Nat)
  /-- PAT_COMMIT (R236): TRG.PAT_COMMIT is written. -/
  | patCommit (path : Path) (trg : Nat)
  /-- TRIPPED (R231): The vote of TRIP[trip] reaches K; `flag` is the number of the flag that completes it. -/
  | tripped (trip flag : Nat)
  /-- TRIP_CLR (R232): TRG.TRIP_CLR is written. -/
  | tripClr (path : Path) (mask : Nat)
  /-- PERMIT (R233): 1 µs of evaluation has found the condition false. -/
  | permit (trip : Nat)
  /-- PACKET_CLOSE (R242): The packet the stream is filling closes: its age limit, or the 2 µs of a RECORDS packet, has run out. -/
  | packetClose (stream : Nat)
  /-- STREAM_CTL_START (R256): A start is written to CIS.STREAM_CTL. -/
  | streamCtlStart (path : Path) (stream : Nat)
  /-- STREAM_CTL_STOP (R256): A stop is written to CIS.STREAM_CTL. -/
  | streamCtlStop (path : Path) (stream : Nat)
  /-- CIS_FLUSH (R257): CIS.FLUSH is written. -/
  | cisFlush (path : Path) (stream : Nat)
  /-- FLUSHED (R257): The packet boundary of a requested flush comes. -/
  | flushed (stream : Nat)
  /-- ECC_SUMMARY (R272): A second ends. -/
  | eccSummary
  /-- SIPHON_BLOCK (R270): A block of the stream is coded; `first` and `second` say whether the output of the unit that codes it, and then of the other unit, verifies. -/
  | siphonBlock (stream : Nat) (first second : Bool)
  /-- HIST_COMMIT (R269): SIP.HIST_COMMIT is written. -/
  | histCommit (path : Path) (stream : Nat)
  /-- BLOCK_LOCK (R279): The RX lane has shown 64 consecutive valid sync headers. -/
  | blockLock (lane : RxLane)
  /-- LOCK_LOSS (R279): RX lane `lane` has shown 16 invalid sync headers within 64 blocks. -/
  | lockLoss (lane : Nat)
  /-- TRAIN_ACK (R280): A TRAIN_ACK block with the bitmaps LOCK and INV, REV and ALIGN_OK. -/
  | trainAck (lock inv : Nat) (rev align : Bool)
  /-- TRAIN (R278): 16 consecutive TRAIN blocks on the active RX lane. -/
  | train
  /-- DOWNLINK_FRAME (R291): A downlink frame: WORDS of its SOF, the CRC of its EOF, its DLSN and its content blocks. -/
  | downlinkFrame (count crc dlsn : Nat) (words : List (BitVec 64))
  /-- NOP (R291): A NOP word of a downlink frame. -/
  | nop
  /-- CREDIT (R292): A CREDIT word of a downlink frame. -/
  | credit (stream grant : Nat)
  /-- ACK (R293): An ACK word of a downlink frame. -/
  | ack (lsn : Nat)
  /-- RETX (R294): A RETX word of a downlink frame. -/
  | retx (lsn : Nat)
  /-- LANE_STATUS (R296): A LANE_STATUS word of a downlink frame. -/
  | laneStatus (lock inv : Nat) (rev : Bool)
  /-- LANE_SWAP (R296): The spare has sent 128 TRAIN blocks; the time since the LANE_STATUS, in 10 ns units. -/
  | laneSwap (t10ns : Nat)
  /-- FLUSH (R257): A FLUSH word of a downlink frame. -/
  | flush (stream : Nat)
  /-- READ (R295): A READ word of a downlink frame. -/
  | read (tag addr : Nat)
  /-- WRITE (R295): A WRITE command of a downlink frame. -/
  | write (tag addr : Nat) (data : Word)
  /-- PRBS_REPORT (R301): A PRBS_REPORT word of a downlink frame. -/
  | prbsReport (lane errors : Nat)
  /-- SPARE_READY (R298): A failed physical lane has shown lock without new errors for 1 s. -/
  | spareReady (lane : Nat)
  /-- DOWNLINK_LOST (R299): Both RX lanes, or the RX clock, have been out for 10 µs. -/
  | downlinkLost
  /-- DOWNLINK_OK (R299): Block lock returns on RX lane `lane` without TRAIN blocks. -/
  | downlinkOk (lane : Nat)
  /-- ELECTRICAL_IDLE (R300): Logical lane `lane` has had nothing to send for IDLE_US. -/
  | electricalIdle (lane : Nat)
  /-- DATA_FRAME (R287): Logical lane `lane` is free at a block boundary. -/
  | dataFrame (lane : Nat)
  /-- INTERLOCK_FRAME (R288): A block boundary at which an INTERLOCK packet is ready. -/
  | interlockFrame
  /-- LANE_REPORT (R290): A millisecond ends. -/
  | laneReport
  /-- AM (R281): 16,384 blocks have passed. -/
  | am
  /-- SYNC (R311): A Sync arrives with t₁ (where it is one-step) and its correction, both in ps; `ns` is the part of its LT below 10 ns. -/
  | sync (hdr : PtpHdr) (twoStep : Bool) (t1 corr : Int) (ns : Nat)
  /-- FOLLOW_UP (R311): A Follow_Up arrives with t₁ and its correction in ps. -/
  | followUp (hdr : PtpHdr) (t1 corr : Int)
  /-- DELAY_REQ (R312): The hub sends a Delay_Req; `ns` is the part of its LT of departure below 10 ns. -/
  | delayReq (ns : Nat)
  /-- DELAY_RESP (R313): A Delay_Resp arrives with t₄ and its correction in ps. -/
  | delayResp (hdr : PtpHdr) (t4 corr : Int)
  /-- ANNOUNCE (R311): An Announce arrives with its clockClass, the data set compared between masters, and currentUtcOffset. -/
  | announce (hdr : PtpHdr) (cls : Nat) (dataset : List Nat) (utc : Int) (utcValid : Bool)
  /-- LOSS_INTERVALS (R314): LOSS_INTERVALS intervals have passed without a Sync or Delay_Resp, or, in FROZEN, without an exchange. -/
  | lossIntervals
  /-- TIME_CORRESPONDENCE (R309): The next slot-clock edge that calls for a record comes; `ns` is the part of its LT below 10 ns. -/
  | timeCorrespondence (ns : Nat)
  /-- ASYM_ACK (R317): ASYM_ACK is written to FT.CTRL. -/
  | asymAck (path : Path)
  /-- XCHK_REBASE (R318): XCHK_REBASE is written to FT.CTRL. -/
  | xchkRebase (path : Path)
  /-- COMMAND (R321): A frame of EtherType 0x88B5 arrives. -/
  | command (frame : EthFrame)
  /-- SUMMARY (R322): SUMMARY_MS has passed since the last SUMMARY frame. -/
  | summary
  /-- ETH_LINK (R323): Auto-negotiation completes with the link up, or the link goes down. -/
  | ethLink (up : Bool)
  /-- SCRUB_PASS (R328): A pass ends; `found` lists the words in error that it read. -/
  | scrubPass (found : List EccFind)
  /-- ROW_REPAIRED (R329): The copy of the row into a spare row completes. -/
  | rowRepaired (mem rowIdx : Nat)
  /-- ECC_CORRECTED (R350): A second ends. -/
  | eccCorrected
  /-- FILL_DONE (R328): The zero-fill of the memory of a powered-up domain ends. -/
  | fillDone (mem : Nat)
  /-- START (R339): START is written to DMA.CH_CMD, with USE_HEAD and HEAD where given. -/
  | start (path : Path) (chan : Nat) (head : Option Nat)
  /-- ABORT (R341): ABORT is written to DMA.CH_CMD. -/
  | abort (path : Path) (chan : Nat)
  /-- ABORTED (R341): The abort is taken at a burst boundary, when `bursts` bursts of the transfer have been written. -/
  | aborted (chan bursts : Nat)
  /-- PACE_IGNORE (R356): PACE_CTL = 1 is written to DMA.CH_CMD. -/
  | paceIgnore (path : Path) (chan : Nat)
  /-- PACE_ACCEPT (R356): PACE_CTL = 2 is written to DMA.CH_CMD. -/
  | paceAccept (path : Path) (chan : Nat)
  /-- PACE (R339): A due pace starts the channel. -/
  | pace (chan : Nat)
  /-- COMPLETE (R340): The current descriptor completes. -/
  | complete (chan : Nat)
  /-- DUMP (R343): ADDR is written to DMA.DUMP and GO with the length `words`. -/
  | dump (path : Path) (addr words : Nat)
  /-- DUMP_DONE (R343): The last word of the service dump has entered stream 0. -/
  | dumpDone
  /-- EVENT_RECORD (R346): The producer of stream 0 takes a waiting record. -/
  | eventRecord
  /-- EVT_MERGED (R346): A second ends. -/
  | evtMerged
  /-- PEND_CLEAR (R357): `mask` is written to EVT.PEND[word]. -/
  | pendClear (path : Path) (word : Nat) (mask : Word)
  /-- PMC_WINDOW (R354): A window of PMC.WINDOW.US ends; `cycles` gives what counters 0-67, counter 186 and counter 191 counted in it. -/
  | pmcWindow (cycles : List Nat)
  /-- COUNTER_SAMPLE (R355): The sampled counter crosses a multiple of its period while the engine runs the step named. -/
  | counterSample (recipe stage kernel : Nat)
  /-- VISIT_DUE (R365): The visit of the input falls due. -/
  | visitDue (input : Nat)
  /-- CAL_VISIT (R365): `input` is written to CAL.VISIT. -/
  | calVisit (path : Path) (input : Nat)
  /-- MEASUREMENT_END (R362): A measurement in the group ends with the values measured. -/
  | measurementEnd (group : Nat) (meas : CalMeas)
  /-- CAL_APPLIED (R362): The tick comes at which what was measured is applied: 0 the hand-back of a visit, 1 the boundary of a fallback set, 2 the first tick of a quiet window with a trim. -/
  | calApplied (group path : Nat)
  /-- ADC_STAGE_UPDATE (R361): 1,024 stage conversions have been made; the trims become `trims`, or show the failure `code`. -/
  | adcStageUpdate (adc code : Nat) (trims : List Word)
  /-- CAL_STALE (R372): The age of the item passes CAL_AGE_LIMIT; `blocked` says that no room was offered for its measurement. -/
  | calStale (item index : Nat) (blocked : Bool)
  /-- CAL_PASS_DONE (R371): Every input has been visited since the catch-up pass began. -/
  | calPassDone
  /-- FADC_SKEW_MEASUREMENT (R374): A skew measurement ends with the tap found, or with a failure code. -/
  | fadcSkewMeasurement (fadc tap code : Nat)
  /-- IQ_UPDATE (R374): 1,024 launches of group 0 have passed; the correction of polarisation `pol` becomes `w0`, `w1`. -/
  | iqUpdate (pol : Nat) (w0 w1 : Word)
  /-- RANGE_ZERO_UPDATE (R374): Eight measurements in a row agree on these taps. -/
  | rangeZeroUpdate (das dts : Nat)
  /-- RESET_N (R398): RESET_N has been low at `edges` consecutive REFCLK edges. -/
  | resetN (edges : Nat)
  /-- POWER_ON_RESET (R448): Power-on reset ends, 10 ms after a feed became good; the feeds stand at these voltages in mV. -/
  | powerOnReset (va vb : Nat)
  /-- BOOT (R399): Boot runs from reset release; the flash has the features of R385, UNIT_SEL reads `unit`, and boot and its step 3 take the times given in µs. -/
  | boot (flashOk unit : Bool) (us nvmUs : Nat)
  /-- BEGIN (R406): BEGIN is written to BOOT.UPD_CTRL, with BANK. -/
  | begin (path : Path) (bank : Bool)
  /-- ERASE_COMPLETE (R406): The erase of the target bank completes. -/
  | eraseComplete
  /-- PROGRAM (R406): PROGRAM is written to BOOT.UPD_CTRL. -/
  | program (path : Path) (bank : Bool)
  /-- PROGRAM_COMPLETE (R406): The page program ends; the bytes listed, by place in the page, read back as given in place of what was programmed. -/
  | programComplete (flips : List (Nat × Byte))
  /-- COMMIT (R407): COMMIT is written to BOOT.UPD_CTRL. -/
  | commit (path : Path) (bank : Bool)
  /-- UPD_COMMITTED (R407): The dry run of the target bank ends. -/
  | updCommitted
  /-- UPD_ABORT (R406): ABORT is written to BOOT.UPD_CTRL. -/
  | updAbort (path : Path) (bank : Bool)
  /-- LC_REQ (R411): `value` is written to DEV.LC_REQ; `burns` says that a fuse burned for it reads back. -/
  | lcReq (path : Path) (value : Word) (burns : Bool)
  /-- MC_RESTART (R404): The lockstep pair of management cores disagrees. -/
  | mcRestart
  /-- REG_ACCESS (R414): Update-DR comes with REG_ACCESS in force and GO = 1. -/
  | regAccess (write : Bool) (addr : Nat) (data : Word)
  /-- IDCODE (R414): IDCODE is shifted into the instruction register. -/
  | idcode
  /-- BYPASS (R414): BYPASS, or a code without an instruction, is shifted into the instruction register. -/
  | bypass
  /-- EXTEST (R414): EXTEST is shifted into the instruction register. -/
  | extest
  /-- SAMPLE_PRELOAD (R414): SAMPLE/PRELOAD is shifted into the instruction register, and `boundary` into the boundary register. -/
  | samplePreload (boundary : List Bool)
  /-- HEARTBEAT (R422): A HEARTBEAT arrives; `back` is the partner LT minus own LT, modulo 2^64, that its departure, its receipt and the round trip give before asymmetry. -/
  | heartbeat (role state : Nat) (unit : Bool) (epoch ckpt mt lt : Nat) (back : Checked Nat)
  /-- HELLO (R422): A HELLO arrives. -/
  | hello (serial : Nat) (digest : Checked (List Word))
  /-- CKPT_SEG (R429): A CKPT_SEG arrives. -/
  | ckptSeg (slice : Bool) (number offset : Nat) (content : Checked (List Byte))
  /-- CKPT_END (R429): A CKPT_END arrives. -/
  | ckptEnd (number size crc mt : Nat) (slice : Checked Nat)
  /-- CKPT_ACK (R422): A CKPT_ACK arrives. -/
  | ckptAck (number : Nat) (result : Checked Nat)
  /-- CHECKPOINT_CAPTURE (R427): The first frame tick at or after a due checkpoint comes, or the slot edge where no FRAME_SERIES runs. -/
  | checkpointCapture
  /-- CKPT_SUMMARY (R443): A second ends. -/
  | ckptSummary
  /-- TWIN_LINK (R423): 100 µs have passed without a valid heartbeat. -/
  | twinLink
  /-- ALIVE (R420): ALIVE_IN has shown no rising edge for 2 µs. -/
  | alive
  /-- TAKEOVER_DONE (R433): The resume point R comes. -/
  | takeoverDone
  /-- START_WAIT_MS (R425): START_WAIT_MS have passed in JOINING without a heartbeat. -/
  | startWaitMs
  /-- MIRROR (R431): 4 × CKPT_MS + 10 ms have passed without a complete checkpoint. -/
  | mirror
  /-- PAIR_CONFLICT (R437): ALIVE_IN shows the active duty while this hub is ACTIVE. -/
  | pairConflict
  /-- TWN_SWAP_GO (R440): GO is written to TWN.SWAP. -/
  | twnSwapGo (path : Path)
  /-- TWN_SWAP_ABORT (R442): ABORT is written to TWN.SWAP. -/
  | twnSwapAbort (path : Path)
  /-- SWAP_REQUEST (R440): A SWAP frame of phase REQUEST arrives, its CRC good; one with a bad CRC does what any such frame of the twin link does (R421). -/
  | swapRequest
  /-- PREPARE (R440): PREPARE ends; `ok` says that it found no ADC, FADC or RADC failed and no engine lost with the spare unavailable. -/
  | prepare (ok : Bool)
  /-- SWAP_READY (R440): A SWAP frame of phase READY arrives, its CRC good. -/
  | swapReady
  /-- SWAP_FAIL (R442): A SWAP frame of phase FAIL arrives. -/
  | swapFail (cause : Checked Nat)
  /-- SWAP_SCHEDULE (R440): A SWAP frame of phase SCHEDULE arrives with the packed MT of H. -/
  | swapSchedule (mt : Checked Nat)
  /-- SWAP_ABORT (R442): A SWAP frame of phase ABORT arrives. -/
  | swapAbort (cause : Checked Nat)
  /-- HANDOVER_POINT (R440): Tick H comes. -/
  | handoverPoint
  /-- HANDOVER (R440): The HANDOVER frame arrives with the latch bitmap and the packed MT of H. -/
  | handover (latches : Nat) (mt : Checked Nat)
  /-- FEED_SWITCH (R446): The selected feed fails at `mv`; the other feed stands at `other`. -/
  | feedSwitch (mv other : Nat)
  /-- FEED_REVERT (R446): FEED_A has stayed in its window for REVERT_MS while FEED_B is selected, and stands at `mv`. -/
  | feedRevert (mv : Nat)
  /-- FEED_B_STATE (R449): The feeds are measured: FEED_B enters or leaves its window. -/
  | feedBState (mv : Feeds)
  /-- FEED_TEST (R450): GO is written to PWR.FEED_TEST with TEST_MS. -/
  | feedTest (path : Path) (ms : Nat)
  /-- FEED_TEST_END (R450): TEST_MS ends; the lowest voltage of FEED_B under load was `vbMin`. -/
  | feedTestEnd (vbMin : Nat)
  /-- RAIL_FAULT (R451): The rail of that bit of PWR.RAIL_STAT has been out of tolerance for 1 µs. -/
  | railFault (rail : Nat)
  /-- DOM_CTL (R453): `value` is written to a word of PWR.DOM_CTL. -/
  | domCtl (path : Path) (word : Nat) (value : Word)
  /-- QUIESCE (R454): PWR.QUIESCE is written. -/
  | quiesce (path : Path) (key : Nat) (go : Bool)
  /-- QUIESCENT_ENTRY (R454): Turn boundary B comes. -/
  | quiescentEntry
  /-- DRAIN_END (R454): DRAIN_MS has expired. -/
  | drainEnd
  /-- WAKE (R455): WAKE_N has been low for 1 µs, or the wake timer expires. -/
  | wake (timer : Bool)
  /-- THERMAL_WARN (R457): Tj rises above WARN, or falls below WARN − 5 °C, to `tj` in 0.1 °C. -/
  | thermalWarn (tj : Int)
  /-- THERMAL_SHUTDOWN (R458): Tj reaches 115 °C; `tj` is in 0.1 °C. -/
  | thermalShutdown (tj : Int)
  /-- HARDWARE_CUT (R457): Tj reaches 125 °C, or a sensor is unreadable. -/
  | hardwareCut
  /-- THERMAL_RECOVERY (R458): Tj has stayed below 90 °C for 1 s after a shutdown. -/
  | thermalRecovery
  /-- REGISTER_WRITE (R12): `value` is written to a register that has no row of its own for the write. -/
  | registerWrite (path : Path) (addr : Nat) (value : Word)
  /-- SERIES_END_GRID_INSTANCE (R123): The grid instance comes at which the next tick of the ended series would have fallen. -/
  | seriesEndGridInstance
  /-- QUALIFIED_MASTER_LOSS (R314): The last qualified master loses its qualification. -/
  | qualifiedMasterLoss
  /-- JUMP_RAMP_END (R317): The ramp of y ends. -/
  | jumpRampEnd
  /-- MANAGEMENT_PLANE_RESUME (R4): The management plane resumes. -/
  | managementPlaneResume
  /-- ALIVE_RESTORED (R437): ALIVE_IN has shown four consecutive periods of one duty, the active one or the standby one. -/
  | aliveRestored (active : Bool)
  /-- FINAL_CHECKPOINT (R440): The old hub has written every set whose MT lies before H. -/
  | finalCheckpoint
  /-- FEED_OVERVOLTAGE (R446): A feed (0 FEED_A, 1 FEED_B) has been above 3.80 V for 1 µs, at `mv`; the other feed stands at `other`. -/
  | feedOvervoltage (feed mv other : Nat)
  deriving DecidableEq, Repr

end Sys2Proof
end

