-- ==== Sys2Proof/Config.lean ====
section
/-!
DEFINITION. What the spec leaves open: constants without a body, so that no proof can see their value. Each is a free value
of the assumption log.
-/

namespace Sys2Proof.Config

/-- Nanoseconds by which LT has advanced when the hub next acts, in steps of 10 (R306): the n-th time it is asked
(DESIGN CHOICE, log entry 3). -/
opaque ltStep : Nat → Nat

/-- A byte of a memory window whose layout the spec does not give: engine local memory, the packets inside a ring of the
Cistern, the containers of the Standpipe. By address and by how often free values were taken (DESIGN CHOICE, log entry 55). -/
opaque windowByte : Nat → Nat → Byte

/-- Which of the two phase codes next to the phase of a Dipstick estimate is shown, from its sums in phase and quadrature: the spec
gives no rounding (R90); where both sums are 0, the code (DESIGN CHOICE, log entry 28). -/
opaque dipPhase : Int → Int → Nat

/-- The load current of an excitation source in 1/1,024 mA, by group and free-value count (DESIGN CHOICE, log entry 128). -/
opaque excLoad : Nat → Nat → Nat

/-- The error of an amplitude of BAND_POWER, of which the residue decides within the limit that R152 states: by bin and inputs of the
block, oldest first (DESIGN CHOICE, log entry 36). -/
opaque bandError : Nat → List Int → Nat

/-- MIN, MAX or MEAN of a TURN_WINDOW whose inputs were all left out, by the sample asked for (DESIGN CHOICE, log entry 36). -/
opaque emptyWindow : Nat → Int

/-- E / 256 of a ZONE_ENERGY block in which the zone has no sample, by zone number (DESIGN CHOICE, log entry 36). -/
opaque emptyZone : Nat → Int

/-- The error of a temperature of DTS_TEMP, of which the residue decides which of the two next m°C it takes; where the formula divides
by 0, the temperature. By K, the bin, and its Stokes and anti-Stokes sums (DESIGN CHOICE, log entry 36). -/
opaque dtsError : Int → Nat → Nat → Nat → Nat

/-- Outputs to be marked SETTLING after a restart where the chain holds a stage whose rate is no ratio of counts
(DESIGN CHOICE, log entry 37). -/
opaque settleCount : Nat → Nat

/-- LOAD of an engine: the cycles it used in the last turn. By engine and free-value count (DESIGN CHOICE, log entry 37). -/
opaque engineLoad : Nat → Nat → Nat

/-- Whether a DATA frame is still being sent on a lane when it has to be cut short: by physical lane and free-value count
(DESIGN CHOICE, log entry 60). -/
opaque frameRunning : Nat → Nat → Bool

/-- The first 60 of the 120 coefficients of the DDC filter in units of 2^-30; the others mirror them, as the group delay of 59.5
periods asks (DESIGN CHOICE, log entry 42). -/
opaque ddcTap : Nat → Int

/-- The fibre-clock periods that the DDC's oscillators have run at the launch edge of a slot (DESIGN CHOICE, log entry 42). -/
opaque mixStart : Int → Nat

/-- The error of a CORDIC amplitude, of which the residue decides between the codes at most 1 from it. By the sum of squares
(DESIGN CHOICE, log entry 42). -/
opaque ampError : Nat → Nat

/-- The error of arg P of a gauge product, of which the residue decides between the codes at most 2 units of 2π/65,536 from it; where
the product is 0, its phase. From its real and imaginary parts (DESIGN CHOICE, log entry 42). -/
opaque argCode : Int → Int → Nat

/-- The log-magnitude m of a gauge product that is 0 (DESIGN CHOICE, log entry 42). -/
opaque logZero : Nat

/-- The error of the phase of a weighted sum of unit vectors, of which the residue decides between the codes next to it; where the
sum is 0, its phase. From (log₂ of the weight, increment) of each live line (DESIGN CHOICE, log entry 42). -/
opaque cordicError : List (Int × Int) → Nat

/-- The reading of a lead measurement in Q0.24, by free-value count (DESIGN CHOICE, log entry 33). -/
opaque leadReading : Nat → Nat

/-- A signed quotient that is no whole number and whose rounding the spec does not state: times, delays and rates of Facility
Time in the unit of their register or record. By numerator and denominator (DESIGN CHOICE, log entry 65). -/
opaque ratio : Int → Nat → Int

/-- The SEQ of a SUMMARY frame, by free-value count (DESIGN CHOICE, log entry 65). -/
opaque frameSeq : Nat → Nat

/-- The PI servo: the frequency estimate after an exchange, from TAU, the estimate before, the offset in ps
(DESIGN CHOICE, log entry 64). -/
opaque servoFreq : Nat → Int → Int → Int

/-- The part of y that corrects phase, from TAU and the offset in ps (DESIGN CHOICE, log entry 64). -/
opaque servoPhase : Nat → Int → Int

/-- The filtered offset in ns, from TAU, the last one in ns and the new offset in ps (DESIGN CHOICE, log entry 64). -/
opaque servoFilter : Nat → Int → Int → Int

/-- The estimated FT error at an edge in ns, by free-value count (DESIGN CHOICE, log entry 64). -/
opaque ftError : Nat → Nat

/-- A gain in Q2.22 after the reference of its group was trimmed: from the trim before and after and the gain before
(DESIGN CHOICE, log entry 77). -/
opaque refGain : Int → Int → Nat → Nat

/-- A quotient that is no whole number and whose rounding the spec does not state: bandwidths, shares of cycles. By numerator
and denominator (DESIGN CHOICE, log entry 56). -/
opaque quotient : Nat → Nat → Nat

/-- Transactions and bytes of masters whose traffic the spec does not count out: by counter and free-value count
(DESIGN CHOICE, log entry 70). -/
opaque traffic : Nat → Nat → Nat

/-- IDLE blocks sent between two AM blocks, by free-value count (DESIGN CHOICE, log entry 60). -/
opaque idleBlocks : Nat → Nat

/-- Block offset of a TRAIN block within the AM period, by free-value count (DESIGN CHOICE, log entry 107). -/
opaque blockOffset : Nat → Nat

/-- Where a word in error lies among the packets of a ring or the frames of the Standpipe, whose placement the spec does not
give: by address and free-value count (DESIGN CHOICE, log entry 55). -/
opaque wordPlace : Nat → Nat → Nat

/-- What the spare measured of itself for the setting of the next input due (R364): by which value of its set, 0 offset, 1 gain, 2 Q_R,
and by cell and free-value count (DESIGN CHOICE, log entry 131). -/
opaque spareCoef : Nat → Nat → Nat → Nat

/-- The trims that step 5 of boot and the wake measure, as numbers modulo 2^16: by item, unit and free-value count
(DESIGN CHOICE, log entry 132). -/
opaque bootTrim : Nat → Nat → Nat → Nat

/-- The words of the stage trims that they measure for an ADC: by ADC and free-value count (DESIGN CHOICE, log entry 132). -/
opaque bootStages : Nat → Nat → List Word

/-- How long the wipe takes in µs, by free-value count; the spec gives 1 ms at most (DESIGN CHOICE, log entry 132). -/
opaque wipeUs : Nat → Nat

/-- Bursts a DMA channel has written when it is stopped for a domain, by channel and free-value count
(DESIGN CHOICE, log entry 70). -/
opaque burstsDone : Nat → Nat → Nat

/-- Transactions in flight on the fabric, and the most since arm: by which of the two, and by free-value count
(DESIGN CHOICE, log entry 70). -/
opaque inFlight : Nat → Nat → Nat

/-- The instant within its slot at which a trip latches, in 1/1024 slot to 5 ns, by free-value count
(DESIGN CHOICE, log entry 48). -/
opaque fineNow : Nat → Nat

/-- Whether a life-cycle fuse burns that a register write asks for, by free-value count (DESIGN CHOICE, log entry 88). -/
opaque fuseBurns : Nat → Bool

/-- Errors counted in the PRBS31 blocks of an RX lane, by lane and free-value count (DESIGN CHOICE, log entry 60). -/
opaque prbsErrors : Nat → Nat → Nat

/-- What PWR.POWER measures: by which of its two fields, and by free-value count (DESIGN CHOICE, log entry 102). -/
opaque power : Nat → Nat → Nat

/-- Whether a microcode patch passes its check against the vendor key in mask ROM, by its payload: the spec gives neither the key
nor the scheme (DESIGN CHOICE, log entry 41). -/
opaque patchSigned : List Byte → Bool

/-- The mask-ROM microcode version (DESIGN CHOICE, log entry 41). -/
opaque romVersion : Nat

/-- The patch level that the patches applied give (DESIGN CHOICE, log entry 41). -/
opaque patchLevel : List (List Byte) → Nat

end Sys2Proof.Config
end

