-- ==== Sys2Proof/Machine/SMap.lean ====
section
/-!
DEFINITION. Sparse tables in one canonical form, and the types that describe registers. A table is a list of (key, value)
pairs with strictly rising keys and no pair whose value is the one an unlisted key reads as, so equal tables are equal data.
-/

namespace Sys2Proof.Machine

/-- A table by number: registers by address, memory by byte address, cells, streams, entries by index. -/
abbrev SMap (α : Type) := List (Nat × α)

namespace SMap

variable {α : Type}

/-- The listed value of a key. -/
def find? (m : SMap α) (k : Nat) : Option α :=
  match m with
  | [] => none
  | (k', v) :: rest => if k' = k then some v else find? rest k

/-- The value of a key, where `d` says what an unlisted key reads as. -/
def get (d : Nat → α) (m : SMap α) (k : Nat) : α := (find? m k).getD (d k)

/-- List a value, keeping the keys rising. -/
def insert (m : SMap α) (k : Nat) (v : α) : SMap α :=
  match m with
  | [] => [(k, v)]
  | (k', v') :: rest =>
    if k < k' then (k, v) :: (k', v') :: rest
    else if k = k' then (k, v) :: rest
    else (k', v') :: insert rest k v

/-- Unlist a key. -/
def erase (m : SMap α) (k : Nat) : SMap α := m.filter fun p => decide (p.1 ≠ k)

/-- Write a value; the value an unlisted key reads as is stored by unlisting the key. -/
def set [DecidableEq α] (d : Nat → α) (m : SMap α) (k : Nat) (v : α) : SMap α :=
  if v = d k then erase m k else insert m k v

/-- Change every listed value, keeping the canonical form. -/
def update [DecidableEq α] (d : Nat → α) (f : Nat → α → α) (m : SMap α) : SMap α :=
  (m.map fun p => (p.1, f p.1 p.2)).filter fun p => decide (p.2 ≠ d p.1)

/-- The values of rising keys, in one pass along the table. -/
def column (d : Nat → α) (ks : List Nat) (m : SMap α) : List α :=
  match ks with
  | [] => []
  | k :: ks =>
    match m.dropWhile fun p => decide (p.1 < k) with
    | (k', v) :: rest => if k' = k then v :: column d ks rest else d k :: column d ks ((k', v) :: rest)
    | [] => d k :: column d ks []

/-- The table of the values of keys 0 to n − 1 that no unlisted key reads as. -/
def ofColumn [DecidableEq α] (d : Nat → α) (vs : List α) : SMap α :=
  ((List.range vs.length).zip vs).filter fun p => decide (p.2 ≠ d p.1)

/-- Every key of the table lies at or above `lo`, and the keys rise. -/
def rising (lo : Nat) (m : SMap α) : Bool :=
  match m with
  | [] => true
  | (k, _) :: rest => decide (lo ≤ k) && rising (k + 1) rest

/-- The canonical form: keys strictly rising, no value that an unlisted key reads as. -/
def wf [DecidableEq α] (d : Nat → α) (m : SMap α) : Bool :=
  rising 0 m && m.all (fun p => decide (p.2 ≠ d p.1))

end SMap

/-- The access codes of R11. -/
inductive Access where
  | RO | RW | W1C | WO | LK | LV | RL
  deriving DecidableEq, Repr

/-- The place of a field: the register's address, the least bit and the width. -/
structure Fld where
  addr : Nat
  lo : Nat
  width : Nat
  deriving DecidableEq, Repr

/-- A register card: name, address of index 0, (stride, count) of each index, reset value, fields as
(least bit, width, access). -/
structure Card where
  name : String
  base : Nat
  dims : List (Nat × Nat)
  reset : Nat
  fields : List (Nat × Nat × Access)
  deriving DecidableEq, Repr

end Sys2Proof.Machine
end

