-- ==== Sys2Proof/Machine/RegMap.lean ====
section
/-!
DEFINITION. The register map: one row for every register (or register word) of the cards of the spec, with its address,
its index strides and counts, its reset value and the access code of every field (R11). Rows of one block stand together.
-/

namespace Sys2Proof.Machine


def cardsDEV : List Card := [
  ⟨"DEV.ID", 0x0, [], 0x5120b100, [(0, 4, .RO), (8, 8, .RO), (16, 16, .RO)]⟩,
  ⟨"DEV.SERIAL_LO", 0x4, [], 0, [(0, 32, .RO)]⟩,
  ⟨"DEV.SERIAL_HI", 0x8, [], 0, [(0, 32, .RO)]⟩,
  ⟨"DEV.STATE", 0x10, [], 0, [(16, 1, .RO), (17, 1, .RO), (18, 1, .RO), (19, 1, .RO), (20, 4, .RO), (24, 4, .RO), (28, 4, .RO)]⟩,
  ⟨"DEV.LC_FUSE", 0x14, [], 0, [(0, 8, .RO), (16, 8, .RO), (31, 1, .RO)]⟩,
  ⟨"DEV.LC_REQ", 0x18, [], 0, [(0, 24, .LV), (24, 4, .LV), (28, 4, .LV)]⟩,
  ⟨"DEV.RESET_CAUSE", 0x1c, [], 0, [(0, 4, .RO)]⟩,
  ⟨"DEV.MC_STAT", 0x20, [], 0, [(0, 16, .RO)]⟩,
  ⟨"DEV.KEY_HASH", 0x40, [(4, 8)], 0, [(0, 32, .RO)]⟩]

def cardsMT : List Card := [
  ⟨"MT.CTRL", 0x10000, [], 0x401, [(0, 1, .LK), (1, 1, .LK), (2, 1, .LK), (8, 8, .LK)]⟩,
  ⟨"MT.TURN_CFG", 0x10004, [], 0xfff, [(0, 12, .LK), (16, 12, .LK)]⟩,
  ⟨"MT.BCLK_NOM", 0x10008, [], 0x9c40, [(0, 16, .LK)]⟩,
  ⟨"MT.TURN_PRESET_LO", 0x10010, [], 0, [(0, 32, .LK)]⟩,
  ⟨"MT.TURN_PRESET_HI", 0x10014, [], 0, [(0, 8, .LK)]⟩,
  ⟨"MT.STATE", 0x10020, [], 0, [(0, 4, .RO), (4, 1, .RO), (5, 1, .RO), (6, 1, .RO), (7, 1, .RO)]⟩,
  ⟨"MT.NOW_LO", 0x10030, [], 0, [(0, 10, .RL), (10, 12, .RL), (22, 10, .RL)]⟩,
  ⟨"MT.NOW_HI", 0x10034, [], 0, [(0, 30, .RL)]⟩,
  ⟨"MT.NOW_SNAP", 0x10038, [], 0, [(0, 8, .RO)]⟩,
  ⟨"MT.BCLK_MEAS", 0x10040, [], 0, [(0, 20, .RO)]⟩,
  ⟨"MT.LAST_ANCHOR", 0x10044, [], 0, [(0, 13, .RO), (31, 1, .RO)]⟩,
  ⟨"MT.HOLD_TURNS", 0x10048, [], 0, [(0, 32, .RO)]⟩,
  ⟨"MT.REV_ERR_CNT", 0x1004c, [], 0, [(0, 16, .RO), (16, 16, .RO)]⟩,
  ⟨"MT.MMSG_ERR_CNT", 0x10050, [], 0, [(0, 32, .RO)]⟩,
  ⟨"MT.MMSG_LAST", 0x10054, [], 0, [(0, 32, .RO)]⟩,
  ⟨"MT.MMSG_BITSEL", 0x10080, [(4, 16)], 0, [(0, 8, .LK), (8, 1, .LK)]⟩,
  ⟨"MT.TT_STAGE", 0x10100, [(4, 4)], 0, [(0, 32, .LV)]⟩,
  ⟨"MT.TT_COMMIT", 0x10110, [], 0, [(0, 10, .LV)]⟩,
  ⟨"MT.TT_COMMIT_STATUS", 0x10114, [], 0, [(0, 10, .RO), (24, 4, .RO), (31, 1, .RO)]⟩,
  ⟨"MT.TT_ENTRY", 0x14000, [(4, 4096)], 0, [(0, 32, .RO)]⟩]

def cardsAFE : List Card := [
  ⟨"AFE.CELL_CFG", 0x20000, [(4, 512)], 0xe000, [(0, 3, .LV), (3, 3, .LV), (6, 2, .LV), (8, 2, .LV), (12, 1, .LV), (13, 1, .LV), (14, 1, .LV), (15, 1, .LV)]⟩,
  ⟨"AFE.CMP_TH", 0x20800, [(4, 512)], 0x7f80, [(0, 8, .LV), (8, 8, .LV)]⟩,
  ⟨"AFE.CELL_STAT", 0x21000, [(4, 512)], 0, [(0, 16, .RO), (22, 1, .RO), (23, 1, .RO), (24, 1, .RO), (25, 1, .RO), (26, 1, .RO), (27, 1, .RO), (28, 1, .RO), (29, 1, .RO), (30, 2, .RO)]⟩,
  ⟨"AFE.DIP_RESULT", 0x21800, [(4, 512)], 0, [(0, 1, .RO), (6, 10, .RO), (16, 16, .RO)]⟩,
  ⟨"AFE.DIP_BASE", 0x22000, [(4, 512)], 0, [(0, 8, .LV), (16, 16, .LV)]⟩,
  ⟨"AFE.LEAD_FIX", 0x22800, [(4, 512)], 0, [(0, 24, .LK)]⟩,
  ⟨"AFE.LEAD_MEAS", 0x23000, [(4, 512)], 0, [(0, 24, .RO), (31, 1, .RO)]⟩,
  ⟨"AFE.QCUM_LO", 0x24000, [(16, 512)], 0, [(0, 32, .RL)]⟩,
  ⟨"AFE.QCUM_HI", 0x24004, [(16, 512)], 0, [(0, 16, .RL), (31, 1, .RL)]⟩,
  ⟨"AFE.QCUM_SNAP", 0x24008, [(16, 512)], 0, [(0, 8, .RO)]⟩,
  ⟨"AFE.EXC_CFG", 0x26000, [(4, 32)], 0, [(0, 1, .LV), (1, 1, .LV)]⟩,
  ⟨"AFE.EXC_STAT", 0x26080, [(4, 32)], 0, [(0, 16, .RO), (29, 1, .RO), (30, 1, .RO), (31, 1, .RO)]⟩,
  ⟨"AFE.GRP_STAT", 0x26100, [(4, 32)], 0, [(0, 16, .RO), (16, 16, .RO)]⟩,
  ⟨"AFE.FAULT_CLR", 0x26180, [(4, 32)], 0, [(0, 16, .LV)]⟩,
  ⟨"AFE.QCUM_ZERO", 0x26200, [(4, 32)], 0, [(0, 16, .LV)]⟩,
  ⟨"AFE.DIP_CAPTURE", 0x26280, [(4, 32)], 0, [(0, 16, .LV)]⟩,
  ⟨"AFE.DIP_STAT", 0x26400, [], 0, [(0, 16, .RO), (31, 1, .RO)]⟩]

def cardsCNV : List Card := [
  ⟨"CNV.CTRL", 0x30000, [], 0x1, [(0, 1, .LV)]⟩,
  ⟨"CNV.FRAME_NUM", 0x30004, [], 0, [(0, 16, .RO)]⟩,
  ⟨"CNV.FRAME_PERIOD", 0x30008, [], 0, [(0, 20, .RO)]⟩,
  ⟨"CNV.MAP_COMMIT", 0x30010, [], 0, [(0, 4, .LV)]⟩,
  ⟨"CNV.MAP_STATUS", 0x30014, [], 0, [(0, 4, .RO), (8, 3, .RO), (31, 1, .RO)]⟩,
  ⟨"CNV.MAP_STAGE", 0x30020, [(4, 8)], 0, [(0, 5, .LV), (8, 5, .LV), (16, 5, .LV), (24, 5, .LV)]⟩,
  ⟨"CNV.SLOT_MAP", 0x30100, [(4, 128)], 0, [(0, 5, .RO), (8, 5, .RO), (16, 5, .RO), (24, 5, .RO)]⟩,
  ⟨"CNV.CH_CFG", 0x30400, [(4, 512)], 0, [(0, 2, .LV), (2, 1, .LK)]⟩,
  ⟨"CNV.APT_TAP", 0x30c00, [(4, 544)], 0x20, [(0, 6, .RO), (7, 1, .RO)]⟩,
  ⟨"CNV.APT_SKEW", 0x31800, [(4, 512)], 0, [(0, 7, .LV)]⟩,
  ⟨"CNV.URG_CNT.W0", 0x32000, [(16, 16)], 0, [(0, 32, .RO)]⟩,
  ⟨"CNV.URG_CNT.W1", 0x32004, [(16, 16)], 0, [(0, 32, .RO)]⟩,
  ⟨"CNV.URG_CNT.W2", 0x32008, [(16, 16)], 0, [(0, 32, .RO)]⟩,
  ⟨"CNV.URG_CNT.W3", 0x3200c, [(16, 16)], 0, [(0, 32, .RO)]⟩,
  ⟨"CNV.ADC_STAT", 0x32200, [(4, 16)], 0, [(0, 6, .RO), (16, 2, .RO), (31, 1, .RO)]⟩,
  ⟨"CNV.SPARE_FIX", 0x32400, [(4, 32)], 0, [(0, 4, .LV), (4, 1, .LV)]⟩,
  ⟨"CNV.SPARE_STAT", 0x32480, [(4, 32)], 0, [(0, 4, .RO), (28, 2, .RO), (30, 2, .RO)]⟩]

def cardsSE : List Card := [
  ⟨"SE.ENG_STAT", 0x40000, [(4, 17)], 0, [(0, 10, .RO), (20, 5, .RO), (25, 4, .RO), (29, 3, .RO)]⟩,
  ⟨"SE.CAP.W0", 0x40100, [(8, 16)], 0, [(0, 16, .RO), (16, 16, .RO)]⟩,
  ⟨"SE.CAP.W1", 0x40104, [(8, 16)], 0, [(0, 16, .RO), (16, 8, .RO), (24, 8, .RO)]⟩,
  ⟨"SE.SWAP", 0x40200, [], 0, [(0, 4, .LV), (4, 1, .LV)]⟩,
  ⟨"SE.UCODE", 0x40204, [], 0, [(0, 16, .RO), (16, 16, .RO)]⟩,
  ⟨"SE.DTS_REF_T", 0x40210, [], 0x61a8, [(0, 24, .LV)]⟩,
  ⟨"SE.RECIPE_STAT", 0x41000, [(4, 256)], 0, [(0, 16, .RO), (24, 5, .RO), (29, 1, .RO), (30, 1, .RO), (31, 1, .RO)]⟩,
  ⟨"SE.BANK_SEL", 0x41400, [(4, 256)], 0, [(0, 1, .LV)]⟩,
  ⟨"SE.DT_CFG", 0x42000, [(4, 512)], 0x18000, [(0, 8, .LV), (13, 1, .LV), (14, 1, .LV), (15, 1, .LV), (16, 8, .LV)]⟩,
  ⟨"SE.DT_TH_HI", 0x42800, [(4, 512)], 0x7fffff, [(0, 24, .LV)]⟩,
  ⟨"SE.DT_TH_LO", 0x43000, [(4, 512)], 0x800000, [(0, 24, .LV)]⟩,
  ⟨"SE.DT_FLAGS", 0x43800, [(4, 16)], 0, [(0, 32, .RO)]⟩]

def cardsFI1 : List Card := [
  ⟨"FI.CTRL", 0x50000, [], 0, [(0, 2, .LK), (5, 1, .LK), (6, 1, .LK), (7, 1, .LK)]⟩,
  ⟨"FI.LASER", 0x50004, [], 0, [(0, 1, .LV)]⟩,
  ⟨"FI.TONE_MAP", 0x50008, [], 0xe4, [(0, 2, .LK), (2, 2, .LK), (4, 2, .LK), (6, 2, .LK)]⟩,
  ⟨"FI.GEOM", 0x5000c, [], 0x4000400, [(0, 11, .LK), (16, 11, .LK)]⟩,
  ⟨"FI.PULSE", 0x50010, [], 0x1414, [(0, 8, .LK), (8, 8, .LK)]⟩,
  ⟨"FI.GAUGE", 0x50014, [], 0xc, [(0, 7, .LV)]⟩,
  ⟨"FI.TRACK", 0x50018, [], 0x1000006, [(0, 4, .LV), (16, 16, .LV)]⟩,
  ⟨"FI.FIBRE_N", 0x50020, [], 0x17800, [(0, 18, .LK)]⟩,
  ⟨"FI.FIBRE_LAMBDA", 0x50024, [], 0x17a6b0, [(0, 24, .LK)]⟩,
  ⟨"FI.FIBRE_XI", 0x50028, [], 0xc7ae, [(0, 16, .LK)]⟩,
  ⟨"FI.GATE_PITCH", 0x50030, [], 0, [(0, 24, .RO)]⟩,
  ⟨"FI.STRAIN_LSB", 0x50034, [], 0, [(0, 32, .RO)]⟩,
  ⟨"FI.RANGE_ZERO", 0x50040, [], 0, [(0, 10, .RO), (16, 8, .RO)]⟩,
  ⟨"FI.FADC_SKEW", 0x50050, [(4, 4)], 0x20, [(0, 6, .RO)]⟩,
  ⟨"FI.IQ_CORR.W0", 0x50060, [(8, 2)], 0x80000000, [(0, 16, .RO), (16, 16, .RO)]⟩,
  ⟨"FI.IQ_CORR.W1", 0x50064, [(8, 2)], 0, [(0, 12, .RO), (16, 12, .RO)]⟩,
  ⟨"FI.STAT", 0x50080, [], 0, [(0, 2, .RO), (16, 4, .RO), (20, 2, .RO), (22, 2, .RO), (24, 4, .RO), (28, 1, .RO), (29, 1, .RO), (30, 1, .RO), (31, 1, .RO)]⟩,
  ⟨"FI.LAUNCH_SEQ", 0x50090, [(4, 4)], 0, [(0, 32, .RO)]⟩,
  ⟨"FI.WEAK_GATES", 0x500a0, [(4, 4)], 0, [(0, 17, .RO)]⟩,
  ⟨"FI.CNT.W0", 0x500c0, [], 0, [(0, 32, .RO)]⟩]

def cardsFI2 : List Card := [
  ⟨"FI.CNT.W1", 0x500c4, [], 0, [(0, 32, .RO)]⟩,
  ⟨"FI.CNT.W2", 0x500c8, [], 0, [(0, 32, .RO)]⟩,
  ⟨"FI.CNT.W3", 0x500cc, [], 0, [(0, 32, .RO)]⟩,
  ⟨"FI.CNT.W4", 0x500d0, [], 0, [(0, 32, .RO)]⟩,
  ⟨"FI.CNT.W5", 0x500d4, [], 0, [(0, 32, .RO)]⟩,
  ⟨"FI.CNT.W6", 0x500d8, [], 0, [(0, 32, .RO)]⟩,
  ⟨"FI.CNT.W7", 0x500dc, [], 0, [(0, 32, .RO)]⟩,
  ⟨"FI.DTS_CFG", 0x50100, [], 0x3e8, [(0, 16, .LK)]⟩,
  ⟨"FI.DTS_STAT", 0x50104, [], 0, [(0, 16, .RO), (16, 16, .RO)]⟩]

def cardsFI : List Card := cardsFI1 ++ cardsFI2

def cardsTRG1 : List Card := [
  ⟨"TRG.SP_CFG", 0x60000, [], 0, [(0, 7, .LK), (31, 1, .LK)]⟩,
  ⟨"TRG.SP_DEPTH", 0x60004, [], 0x10001, [(0, 16, .LK), (16, 16, .LK)]⟩,
  ⟨"TRG.SP_SEL", 0x60010, [(4, 16)], 0, [(0, 32, .LK)]⟩,
  ⟨"TRG.SP_STAT", 0x60050, [], 0, [(0, 16, .RO), (16, 10, .RO), (29, 3, .RO)]⟩,
  ⟨"TRG.SP_INFO", 0x60054, [], 0, [(0, 21, .RO)]⟩,
  ⟨"TRG.SP_CNT.W0", 0x60060, [], 0, [(0, 32, .RO)]⟩,
  ⟨"TRG.SP_CNT.W1", 0x60064, [], 0, [(0, 32, .RO)]⟩,
  ⟨"TRG.SP_CNT.W2", 0x60068, [], 0, [(0, 32, .RO)]⟩,
  ⟨"TRG.SP_CNT.W3", 0x6006c, [], 0, [(0, 32, .RO)]⟩,
  ⟨"TRG.CFG.W0", 0x60100, [(8, 16)], 0, [(0, 7, .LK), (7, 1, .LK), (8, 8, .LV), (16, 16, .LV)]⟩,
  ⟨"TRG.CFG.W1", 0x60104, [(8, 16)], 0, [(0, 1, .LK), (1, 1, .LK)]⟩,
  ⟨"TRG.ARM", 0x60200, [], 0, [(0, 16, .LV), (16, 16, .LV)]⟩,
  ⟨"TRG.STAT", 0x60204, [], 0, [(0, 16, .RO), (16, 16, .RO)]⟩,
  ⟨"TRG.TRIG_IN", 0x60208, [], 0, [(0, 16, .RO)]⟩,
  ⟨"TRG.PAT_COMMIT", 0x6020c, [], 0, [(0, 4, .LV)]⟩,
  ⟨"TRG.PAT_STATUS", 0x60210, [], 0, [(0, 4, .RO), (8, 2, .RO), (31, 1, .RO)]⟩,
  ⟨"TRG.FIRE_CNT", 0x60280, [(4, 16)], 0, [(0, 32, .RO)]⟩,
  ⟨"TRG.TDC.W0", 0x60400, [(8, 32)], 0, [(0, 10, .RO), (10, 20, .RO), (31, 1, .RO)]⟩,
  ⟨"TRG.TDC.W1", 0x60404, [(8, 32)], 0, [(0, 12, .RO), (12, 4, .RO), (16, 16, .RO)]⟩,
  ⟨"TRG.TRIP_CFG", 0x60600, [(4, 16)], 0x100, [(8, 7, .LK), (16, 6, .LK), (30, 1, .LK), (31, 1, .LK)]⟩]

def cardsTRG2 : List Card := [
  ⟨"TRG.TRIP_CLR", 0x60640, [], 0, [(0, 16, .LV)]⟩,
  ⟨"TRG.TRIP_STAT", 0x60680, [(4, 16)], 0, [(0, 16, .RO), (16, 7, .RO), (28, 1, .RO), (29, 1, .RO), (30, 1, .RO), (31, 1, .RO)]⟩,
  ⟨"TRG.TRIP_FIRST", 0x606c0, [(4, 16)], 0, [(0, 12, .RO), (31, 1, .RO)]⟩,
  ⟨"TRG.MASK", 0x61000, [(128, 16), (4, 19)], 0, [(0, 32, .LV)]⟩,
  ⟨"TRG.VALUE", 0x62000, [(128, 16), (4, 19)], 0, [(0, 32, .LV)]⟩,
  ⟨"TRG.CH_SRC", 0x63000, [(4, 32)], 0, [(0, 32, .LV)]⟩,
  ⟨"TRG.TRIP_SEL", 0x64000, [(256, 16), (4, 64)], 0, [(0, 12, .LK), (30, 1, .LK), (31, 1, .LK)]⟩]

def cardsTRG : List Card := cardsTRG1 ++ cardsTRG2

def cardsCIS : List Card := [
  ⟨"CIS.RING_BASE", 0x70000, [(4, 128)], 0, [(0, 11, .LK)]⟩,
  ⟨"CIS.RING_SIZE", 0x70200, [(4, 128)], 0, [(0, 12, .LK)]⟩,
  ⟨"CIS.STREAM_CFG.W0", 0x70400, [(8, 128)], 0, [(0, 12, .LK), (16, 8, .LK), (24, 2, .LK), (26, 2, .LK), (28, 1, .LK), (29, 1, .LK), (30, 2, .LK)]⟩,
  ⟨"CIS.STREAM_CFG.W1", 0x70404, [(8, 128)], 0, [(0, 16, .LK)]⟩,
  ⟨"CIS.RING_STAT", 0x70800, [(4, 128)], 0, [(0, 16, .RO), (28, 1, .RO), (29, 3, .RO)]⟩,
  ⟨"CIS.RING_HOLD", 0x70a00, [(4, 128)], 0, [(0, 32, .RO)]⟩,
  ⟨"CIS.RING_RATE", 0x70c00, [(4, 128)], 0, [(0, 32, .RO)]⟩,
  ⟨"CIS.SEQ", 0x70e00, [(4, 128)], 0, [(0, 32, .RO)]⟩,
  ⟨"CIS.GAP_CNT", 0x71000, [(4, 128)], 0, [(0, 32, .RO)]⟩,
  ⟨"CIS.ECC_CNT", 0x71200, [(4, 128)], 0, [(0, 32, .RO)]⟩,
  ⟨"CIS.HOLDOVER", 0x71400, [], 0, [(0, 24, .RO), (24, 7, .RO)]⟩,
  ⟨"CIS.WRITE_RATE", 0x71404, [], 0, [(0, 32, .RO)]⟩,
  ⟨"CIS.STREAM_CTL", 0x71408, [], 0, [(0, 7, .LV), (8, 1, .LV)]⟩,
  ⟨"CIS.FLUSH", 0x7140c, [], 0, [(0, 7, .LV)]⟩]

def cardsSIP : List Card := [
  ⟨"SIP.UNIT_STAT.W0", 0x80000, [(8, 2)], 0, [(0, 16, .RO), (31, 1, .RO)]⟩,
  ⟨"SIP.UNIT_STAT.W1", 0x80004, [(8, 2)], 0, [(0, 32, .RO)]⟩,
  ⟨"SIP.CNT.W0", 0x80010, [], 0, [(0, 32, .RO)]⟩,
  ⟨"SIP.CNT.W1", 0x80014, [], 0, [(0, 32, .RO)]⟩,
  ⟨"SIP.CNT.W2", 0x80018, [], 0, [(0, 32, .RO)]⟩,
  ⟨"SIP.LOAD", 0x80020, [], 0, [(0, 16, .RO)]⟩,
  ⟨"SIP.STREAM_STAT", 0x80200, [(4, 128)], 0, [(0, 5, .RO), (28, 1, .RO), (29, 1, .RO), (30, 2, .RO)]⟩,
  ⟨"SIP.HIST.W0", 0x81000, [(16, 128)], 0, [(0, 32, .RL)]⟩,
  ⟨"SIP.HIST.W1", 0x81004, [(16, 128)], 0, [(0, 32, .RL)]⟩,
  ⟨"SIP.HIST.W2", 0x81008, [(16, 128)], 0, [(0, 32, .RL)]⟩,
  ⟨"SIP.HIST.W3", 0x8100c, [(16, 128)], 0, [(0, 32, .RL)]⟩,
  ⟨"SIP.HIST_STAGE", 0x81800, [(4, 4)], 0, [(0, 32, .LV)]⟩,
  ⟨"SIP.HIST_COMMIT", 0x81810, [], 0, [(0, 7, .LV)]⟩,
  ⟨"SIP.HIST_STATUS", 0x81814, [], 0, [(0, 7, .RO), (8, 3, .RO)]⟩]

def cardsWL1 : List Card := [
  ⟨"WL.CTRL", 0x90000, [], 0x80401, [(0, 1, .LK), (8, 3, .LK), (11, 1, .LK), (16, 8, .LK)]⟩,
  ⟨"WL.STAT", 0x90004, [], 0, [(22, 1, .RO), (23, 1, .RO), (24, 1, .RO), (25, 3, .RO), (28, 4, .RO)]⟩,
  ⟨"WL.LANE_MAP", 0x90008, [], 0x7fff, [(0, 3, .RO), (3, 3, .RO), (6, 3, .RO), (9, 3, .RO), (12, 3, .RO)]⟩,
  ⟨"WL.LANE_STAT", 0x90010, [(4, 5)], 0, [(0, 16, .RO), (26, 1, .RO), (27, 1, .RO), (28, 1, .RO), (29, 3, .RO)]⟩,
  ⟨"WL.TX_PRBS_ERR", 0x90030, [(4, 5)], 0, [(0, 32, .RO)]⟩,
  ⟨"WL.RX_STAT", 0x90050, [(4, 2)], 0, [(0, 16, .RO), (29, 1, .RO), (30, 1, .RO), (31, 1, .RO)]⟩,
  ⟨"WL.RX_PRBS_ERR", 0x90058, [(4, 2)], 0, [(0, 32, .RO)]⟩,
  ⟨"WL.LSN.W0", 0x90060, [], 0, [(0, 32, .RO)]⟩,
  ⟨"WL.LSN.W1", 0x90064, [], 0, [(0, 32, .RO)]⟩,
  ⟨"WL.CNT.W0", 0x90070, [], 0, [(0, 32, .RO)]⟩,
  ⟨"WL.CNT.W1", 0x90074, [], 0, [(0, 32, .RO)]⟩,
  ⟨"WL.CNT.W2", 0x90078, [], 0, [(0, 32, .RO)]⟩,
  ⟨"WL.CNT.W3", 0x9007c, [], 0, [(0, 32, .RO)]⟩,
  ⟨"WL.CNT.W4", 0x90080, [], 0, [(0, 32, .RO)]⟩,
  ⟨"WL.CNT.W5", 0x90084, [], 0, [(0, 32, .RO)]⟩,
  ⟨"WL.TEST", 0x90090, [], 0, [(0, 1, .RW), (1, 1, .RW)]⟩,
  ⟨"WL.BUDGET", 0x90094, [], 0, [(0, 16, .RO), (16, 16, .RO)]⟩,
  ⟨"WL.LAST_SWAP", 0x90098, [], 0, [(0, 16, .RO)]⟩,
  ⟨"WL.VLOG_CNT", 0x900a0, [], 0, [(0, 6, .RO), (16, 16, .RO)]⟩,
  ⟨"WL.CREDIT", 0x90400, [(4, 128)], 0, [(0, 25, .RO)]⟩]

def cardsWL2 : List Card := [
  ⟨"WL.VLOG.W0", 0x90800, [(16, 64)], 0, [(0, 16, .RO), (16, 8, .RO), (24, 6, .RO), (30, 2, .RO)]⟩,
  ⟨"WL.VLOG.W1", 0x90804, [(16, 64)], 0, [(0, 32, .RO)]⟩,
  ⟨"WL.VLOG.W2", 0x90808, [(16, 64)], 0, [(0, 32, .RO)]⟩,
  ⟨"WL.VLOG.W3", 0x9080c, [(16, 64)], 0, [(0, 32, .RO)]⟩]

def cardsWL : List Card := cardsWL1 ++ cardsWL2

def cardsFT1 : List Card := [
  ⟨"FT.CTRL", 0xa0000, [], 0, [(0, 1, .LV), (1, 1, .LV)]⟩,
  ⟨"FT.CFG", 0xa0004, [], 0x3e82000, [(0, 8, .LK), (13, 1, .LK), (14, 1, .LK), (16, 16, .LK)]⟩,
  ⟨"FT.SERVO", 0xa0008, [], 0x100808, [(0, 8, .LK), (8, 8, .LK), (16, 16, .LK)]⟩,
  ⟨"FT.JUMP_CFG", 0xa000c, [], 0xc81000a, [(0, 7, .LK), (12, 8, .LK), (20, 12, .LK)]⟩,
  ⟨"FT.ASYM", 0xa0010, [(4, 3)], 0, [(0, 32, .LK)]⟩,
  ⟨"FT.STAT", 0xa0020, [], 0, [(16, 8, .RO), (24, 1, .RO), (25, 1, .RO), (26, 1, .RO), (27, 1, .RO), (28, 1, .RO), (29, 3, .RO)]⟩,
  ⟨"FT.NOW_LO", 0xa0030, [], 0, [(0, 32, .RL)]⟩,
  ⟨"FT.NOW_HI", 0xa0034, [], 0, [(0, 32, .RL)]⟩,
  ⟨"FT.NOW_SNAP", 0xa0038, [], 0, [(0, 8, .RO)]⟩,
  ⟨"FT.LT_LO", 0xa0040, [], 0, [(0, 32, .RL)]⟩,
  ⟨"FT.LT_HI", 0xa0044, [], 0, [(0, 32, .RL)]⟩,
  ⟨"FT.LT_SNAP", 0xa0048, [], 0, [(0, 8, .RO)]⟩,
  ⟨"FT.OFFSET", 0xa0050, [], 0, [(0, 32, .RO)]⟩,
  ⟨"FT.PATH_DELAY", 0xa0054, [], 0, [(0, 32, .RO)]⟩,
  ⟨"FT.RATE", 0xa0058, [], 0, [(0, 32, .RO)]⟩,
  ⟨"FT.TWIN_LT_OFS", 0xa005c, [], 0, [(0, 32, .RO)]⟩,
  ⟨"FT.MASTER.W0", 0xa0060, [], 0, [(0, 32, .RO)]⟩,
  ⟨"FT.MASTER.W1", 0xa0064, [], 0, [(0, 32, .RO)]⟩,
  ⟨"FT.MASTER.W2", 0xa0068, [], 0, [(0, 16, .RO), (16, 8, .RO)]⟩,
  ⟨"FT.UTC_OFFSET", 0xa006c, [], 0, [(0, 16, .RO), (31, 1, .RO)]⟩]

def cardsFT2 : List Card := [
  ⟨"FT.XCHK.W0", 0xa0070, [], 0x17d7840, [(0, 27, .LK), (31, 1, .LK)]⟩,
  ⟨"FT.XCHK.W1", 0xa0074, [], 0x64, [(0, 16, .LK)]⟩,
  ⟨"FT.XCHK_DEV", 0xa0078, [], 0, [(0, 32, .RO)]⟩,
  ⟨"FT.CNT.W0", 0xa0080, [], 0, [(0, 32, .RO)]⟩,
  ⟨"FT.CNT.W1", 0xa0084, [], 0, [(0, 32, .RO)]⟩,
  ⟨"FT.CNT.W2", 0xa0088, [], 0, [(0, 32, .RO)]⟩,
  ⟨"FT.CNT.W3", 0xa008c, [], 0, [(0, 32, .RO)]⟩,
  ⟨"FT.CNT.W4", 0xa0090, [], 0, [(0, 32, .RO)]⟩,
  ⟨"FT.CNT.W5", 0xa0094, [], 0, [(0, 32, .RO)]⟩,
  ⟨"FT.ETH_CFG.W0", 0xa00a0, [], 0, [(0, 32, .LK)]⟩,
  ⟨"FT.ETH_CFG.W1", 0xa00a4, [], 0, [(0, 12, .LK), (12, 3, .LK), (15, 1, .LK), (16, 16, .LK)]⟩,
  ⟨"FT.ETH_CFG.W2", 0xa00a8, [], 0, [(0, 32, .LK)]⟩,
  ⟨"FT.ETH_CFG.W3", 0xa00ac, [], 0, [(0, 16, .LK), (16, 16, .LK)]⟩,
  ⟨"FT.ETH_STAT.W0", 0xa00b0, [], 0, [(0, 16, .RO), (30, 1, .RO), (31, 1, .RO)]⟩,
  ⟨"FT.ETH_STAT.W1", 0xa00b4, [], 0, [(0, 32, .RO)]⟩,
  ⟨"FT.ETH_STAT.W2", 0xa00b8, [], 0, [(0, 32, .RO)]⟩]

def cardsFT : List Card := cardsFT1 ++ cardsFT2

def cardsDMA : List Card := [
  ⟨"DMA.CH_CFG", 0xb0000, [(4, 32)], 0, [(0, 11, .LK), (18, 10, .LK), (28, 3, .LK), (31, 1, .LK)]⟩,
  ⟨"DMA.CH_CMD", 0xb0100, [(4, 32)], 0, [(0, 11, .LV), (12, 1, .LV), (28, 2, .LV), (30, 1, .LV), (31, 1, .LV)]⟩,
  ⟨"DMA.CH_STAT", 0xb0200, [(4, 32)], 0, [(0, 11, .RO), (16, 8, .RO), (24, 1, .RO), (25, 4, .RO), (29, 3, .RO)]⟩,
  ⟨"DMA.PRIV_RATE", 0xb0300, [], 0x40008, [(0, 8, .LK), (16, 8, .LK)]⟩,
  ⟨"DMA.FABRIC", 0xb0304, [], 0, [(0, 7, .RO), (16, 7, .RO)]⟩,
  ⟨"DMA.DUMP.W0", 0xb0310, [], 0, [(0, 32, .LV)]⟩,
  ⟨"DMA.DUMP.W1", 0xb0314, [], 0, [(0, 16, .LV), (30, 1, .RO), (31, 1, .LV)]⟩,
  ⟨"DMA.MEM_STAT.W0", 0xb0400, [(8, 22)], 0, [(0, 32, .RO)]⟩,
  ⟨"DMA.MEM_STAT.W1", 0xb0404, [(8, 22)], 0, [(0, 8, .RO), (8, 8, .RO), (16, 16, .RO)]⟩,
  ⟨"DMA.SCRUB", 0xb0500, [], 0, [(0, 32, .RO)]⟩,
  ⟨"DMA.REPAIR_LOG", 0xb0600, [(4, 16)], 0, [(0, 14, .RO), (25, 1, .RO), (26, 1, .RO), (27, 5, .RO)]⟩]

def cardsEVT : List Card := [
  ⟨"EVT.ROUTE", 0xc0000, [(4, 256)], 0x80000000, [(0, 5, .LK), (20, 8, .LK), (28, 1, .LK), (29, 1, .LK), (30, 1, .LK), (31, 1, .LK)]⟩,
  ⟨"EVT.PEND", 0xc0400, [(4, 8)], 0, [(0, 32, .W1C)]⟩,
  ⟨"EVT.COUNT", 0xc0800, [(4, 256)], 0, [(0, 8, .RO), (8, 24, .RO)]⟩,
  ⟨"EVT.QUEUE", 0xc0c00, [], 0, [(0, 10, .RO), (16, 16, .RO)]⟩]

def cardsPMC : List Card := [
  ⟨"PMC.CNT_LO", 0xd0000, [(16, 192)], 0, [(0, 32, .RL)]⟩,
  ⟨"PMC.CNT_HI", 0xd0004, [(16, 192)], 0, [(0, 16, .RL)]⟩,
  ⟨"PMC.CNT_SNAP", 0xd0008, [(16, 192)], 0, [(0, 8, .RO)]⟩,
  ⟨"PMC.FILT.W0", 0xd1000, [(16, 8)], 0, [(22, 2, .LV), (24, 1, .LV), (25, 3, .LV), (28, 1, .LV), (29, 2, .LV), (31, 1, .LV)]⟩,
  ⟨"PMC.FILT.W1", 0xd1004, [(16, 8)], 0, [(0, 32, .LV)]⟩,
  ⟨"PMC.FILT.W2", 0xd1008, [(16, 8)], 0xffffffff, [(0, 32, .LV)]⟩,
  ⟨"PMC.FILT.W3", 0xd100c, [(16, 8)], 0, []⟩,
  ⟨"PMC.WINDOW", 0xd1100, [], 0x3e8, [(0, 16, .LV)]⟩,
  ⟨"PMC.BW", 0xd1120, [(4, 8)], 0, [(0, 16, .RO), (16, 16, .RO)]⟩,
  ⟨"PMC.TD.W0", 0xd1200, [(8, 17)], 0, [(0, 16, .RO), (16, 16, .RO)]⟩,
  ⟨"PMC.TD.W1", 0xd1204, [(8, 17)], 0, [(0, 16, .RO), (16, 16, .RO)]⟩,
  ⟨"PMC.SAMPLE_CFG", 0xd1300, [], 0x20000000, [(0, 8, .LV), (20, 5, .LV), (25, 6, .LV), (31, 1, .LV)]⟩]

def cardsCAL : List Card := [
  ⟨"CAL.CTRL", 0xe0000, [], 0x3c0001, [(0, 1, .LK), (1, 1, .LK), (2, 1, .LK), (16, 16, .LK)]⟩,
  ⟨"CAL.AGE_LIMIT", 0xe0004, [], 0x78, [(0, 16, .LK)]⟩,
  ⟨"CAL.JOURNAL_CFG", 0xe0008, [], 0xe10005a, [(0, 8, .LK), (16, 16, .LK)]⟩,
  ⟨"CAL.JOURNAL_STAT.W0", 0xe0010, [], 0, [(0, 32, .RO)]⟩,
  ⟨"CAL.JOURNAL_STAT.W1", 0xe0014, [], 0, [(0, 16, .RO), (16, 15, .RO), (31, 1, .RO)]⟩,
  ⟨"CAL.JOURNAL_STAT.W2", 0xe0018, [], 0, [(0, 32, .RO)]⟩,
  ⟨"CAL.VISIT", 0xe0020, [], 0, [(0, 9, .LV)]⟩,
  ⟨"CAL.EXCLUDE", 0xe0100, [(4, 32)], 0, [(0, 16, .LV)]⟩,
  ⟨"CAL.GRP_STAT", 0xe0200, [(4, 32)], 0, [(0, 16, .RO), (24, 4, .RO), (28, 1, .RO), (29, 3, .RO)]⟩,
  ⟨"CAL.GRP_AGE", 0xe0280, [(4, 32)], 0, [(0, 32, .RO)]⟩,
  ⟨"CAL.CELL_STAT", 0xe0400, [(4, 544)], 0, [(0, 24, .RO), (24, 4, .RO), (29, 1, .RO), (30, 1, .RO), (31, 1, .RO)]⟩,
  ⟨"CAL.CMP_TRIM", 0xe1000, [(4, 544)], 0, [(0, 5, .RO), (8, 5, .RO)]⟩,
  ⟨"CAL.COEF.W0", 0xe2000, [(16, 544)], 0, [(0, 24, .RO)]⟩,
  ⟨"CAL.COEF.W1", 0xe2004, [(16, 544)], 0x400000, [(0, 24, .RO)]⟩,
  ⟨"CAL.COEF.W2", 0xe2008, [(16, 544)], 0x200000, [(0, 24, .RO)]⟩,
  ⟨"CAL.ADC_STAT", 0xe4400, [(4, 16)], 0, [(0, 8, .RO), (8, 23, .RO), (31, 1, .RO)]⟩,
  ⟨"CAL.FIBRE_STAT.W0", 0xe4800, [], 0, [(0, 32, .RO)]⟩,
  ⟨"CAL.FIBRE_STAT.W1", 0xe4804, [], 0, [(0, 32, .RO)]⟩,
  ⟨"CAL.FIBRE_STAT.W2", 0xe4808, [], 0, [(0, 10, .RO), (16, 8, .RO), (31, 1, .RO)]⟩]

def cardsBOOT : List Card := [
  ⟨"BOOT.BANK_STAT.W0", 0xf0000, [(8, 2)], 0, [(16, 8, .RO), (30, 1, .RO), (31, 1, .RO)]⟩,
  ⟨"BOOT.BANK_STAT.W1", 0xf0004, [(8, 2)], 0, [(0, 32, .RO)]⟩,
  ⟨"BOOT.DIGEST", 0xf0020, [(4, 8)], 0, [(0, 32, .RO)]⟩,
  ⟨"BOOT.IMAGE.W0", 0xf0040, [], 0, [(0, 32, .RO)]⟩,
  ⟨"BOOT.IMAGE.W1", 0xf0044, [], 0, [(0, 32, .RO)]⟩,
  ⟨"BOOT.TIME.W0", 0xf0048, [], 0, [(0, 32, .RO)]⟩,
  ⟨"BOOT.TIME.W1", 0xf004c, [], 0, [(0, 32, .RO)]⟩,
  ⟨"BOOT.REFUSAL.W0", 0xf0080, [(8, 8)], 0, [(0, 16, .RO), (16, 8, .RO), (29, 1, .RO), (30, 1, .RO), (31, 1, .RO)]⟩,
  ⟨"BOOT.REFUSAL.W1", 0xf0084, [(8, 8)], 0, [(0, 32, .RO)]⟩,
  ⟨"BOOT.UPD_CTRL", 0xf0100, [], 0, [(0, 3, .LV), (8, 1, .LV)]⟩,
  ⟨"BOOT.UPD_OFFSET", 0xf0104, [], 0, [(0, 24, .LV)]⟩,
  ⟨"BOOT.UPD_STAT", 0xf0108, [], 0, [(0, 16, .RO), (16, 8, .RO), (28, 1, .RO), (29, 3, .RO)]⟩,
  ⟨"BOOT.UPD_PAGE", 0xf0200, [(4, 64)], 0, [(0, 32, .LV)]⟩]

def cardsTWN1 : List Card := [
  ⟨"TWN.CFG", 0x100000, [], 0x4007d00a, [(0, 10, .LK), (10, 16, .LK), (30, 1, .LK), (31, 1, .LK)]⟩,
  ⟨"TWN.STAT", 0x100004, [], 0, [(17, 1, .RO), (18, 3, .RO), (21, 1, .RO), (22, 1, .RO), (23, 1, .RO), (24, 3, .RO), (27, 2, .RO), (29, 3, .RO)]⟩,
  ⟨"TWN.EPOCH", 0x100008, [], 0, [(0, 32, .RO)]⟩,
  ⟨"TWN.CKPT_STAT.W0", 0x100010, [], 0, [(0, 31, .RO)]⟩,
  ⟨"TWN.CKPT_STAT.W1", 0x100014, [], 0, [(0, 32, .RO)]⟩,
  ⟨"TWN.CKPT_STAT.W2", 0x100018, [], 0, [(0, 16, .RO), (16, 16, .RO)]⟩,
  ⟨"TWN.CKPT_STAT.W3", 0x10001c, [], 0, [(16, 16, .RO)]⟩,
  ⟨"TWN.CKPT_MT_LO", 0x100020, [], 0, [(0, 32, .RL)]⟩,
  ⟨"TWN.CKPT_MT_HI", 0x100024, [], 0, [(0, 32, .RL)]⟩,
  ⟨"TWN.CKPT_MT_SNAP", 0x100028, [], 0, [(0, 8, .RO)]⟩,
  ⟨"TWN.GATE_COVER", 0x10002c, [], 0, [(0, 16, .RO), (16, 16, .RO)]⟩,
  ⟨"TWN.PARTNER.W0", 0x100030, [], 0, [(0, 32, .RO)]⟩,
  ⟨"TWN.PARTNER.W1", 0x100034, [], 0, [(0, 32, .RO)]⟩,
  ⟨"TWN.SWAP", 0x100040, [], 0, [(30, 1, .LV), (31, 1, .LV)]⟩,
  ⟨"TWN.SWAP_STAT", 0x100044, [], 0, [(0, 24, .RO), (24, 5, .RO), (29, 3, .RO)]⟩,
  ⟨"TWN.LINK_STAT", 0x100048, [], 0, [(0, 16, .RO), (31, 1, .RO)]⟩,
  ⟨"TWN.CNT.W0", 0x100050, [], 0, [(0, 32, .RO)]⟩,
  ⟨"TWN.CNT.W1", 0x100054, [], 0, [(0, 32, .RO)]⟩,
  ⟨"TWN.CNT.W2", 0x100058, [], 0, [(0, 32, .RO)]⟩,
  ⟨"TWN.CNT.W3", 0x10005c, [], 0, [(0, 32, .RO)]⟩]

def cardsTWN2 : List Card := [
  ⟨"TWN.TAKE_TIME", 0x100060, [], 0, [(0, 32, .RO)]⟩]

def cardsTWN : List Card := cardsTWN1 ++ cardsTWN2

def cardsPWR : List Card := [
  ⟨"PWR.FEED_STAT", 0x110000, [], 0, [(0, 12, .RO), (12, 12, .RO), (28, 1, .RO), (29, 1, .RO), (30, 1, .RO), (31, 1, .RO)]⟩,
  ⟨"PWR.FEED_CFG", 0x110004, [], 0x64, [(0, 16, .LK)]⟩,
  ⟨"PWR.FEED_TEST", 0x110008, [], 0x64, [(0, 16, .LV), (31, 1, .LV)]⟩,
  ⟨"PWR.FEED_TEST_STAT", 0x11000c, [], 0, [(0, 12, .RO), (30, 2, .RO)]⟩,
  ⟨"PWR.DOM_CTL.W0", 0x110010, [], 0xffffffff, [(0, 32, .LV)]⟩,
  ⟨"PWR.DOM_CTL.W1", 0x110014, [], 0x3ffff, [(0, 17, .LV), (17, 1, .LV)]⟩,
  ⟨"PWR.DOM_STAT.W0", 0x110018, [], 0, [(0, 32, .RO)]⟩,
  ⟨"PWR.DOM_STAT.W1", 0x11001c, [], 0, [(0, 17, .RO), (17, 1, .RO)]⟩,
  ⟨"PWR.RAIL_STAT", 0x110020, [], 0, [(0, 6, .RO)]⟩,
  ⟨"PWR.TEMP", 0x110030, [], 0, [(0, 16, .RO), (16, 16, .RO)]⟩,
  ⟨"PWR.THERM_CFG", 0x110034, [], 0x3e8, [(0, 16, .LK)]⟩,
  ⟨"PWR.QUIESCE", 0x110040, [], 0, [(0, 1, .LV), (24, 8, .LV)]⟩,
  ⟨"PWR.QCFG", 0x110044, [], 0x5, [(0, 16, .LK)]⟩,
  ⟨"PWR.WAKE_S", 0x110048, [], 0, [(0, 32, .LV)]⟩,
  ⟨"PWR.POWER", 0x110050, [], 0, [(0, 16, .RO), (16, 16, .RO)]⟩]

/-- The cards of the block with number `b` (address bits [31:16]), by the block map of 12_image_boot.md. -/
def blockCards (b : Nat) : List Card :=
  match b with
  | 0 => cardsDEV
  | 1 => cardsMT
  | 2 => cardsAFE
  | 3 => cardsCNV
  | 4 => cardsSE
  | 5 => cardsFI
  | 6 => cardsTRG
  | 7 => cardsCIS
  | 8 => cardsSIP
  | 9 => cardsWL
  | 10 => cardsFT
  | 11 => cardsDMA
  | 12 => cardsEVT
  | 13 => cardsPMC
  | 14 => cardsCAL
  | 15 => cardsBOOT
  | 16 => cardsTWN
  | 17 => cardsPWR
  | _ => []

end Sys2Proof.Machine
end

