-- ==== Sys2Proof/Machine/Regs.lean ====
section
/-!
DEFINITION. The names of the registers and of their fields, from the register cards of the spec (R60, R102, R136,
R166, R202, R236, R238, R273, R274, R305, R324, R356, R357, R358, R384, R416, R443, R460 and the cards beside them; block
bases from the block map of 12_image_boot.md). BLOCK_NAME is the address of register BLOCK.NAME (Wk names word k of a
register of several words), BLOCK_NAME_FIELD the place of one of its fields.
-/

namespace Sys2Proof.Machine

/-! ### Block DEV -/

def DEV_ID : Nat := 0x0
def DEV_ID_PART : Fld := ⟨DEV_ID, 16, 16⟩
def DEV_ID_STEPPING : Fld := ⟨DEV_ID, 8, 8⟩
def DEV_ID_VARIANT : Fld := ⟨DEV_ID, 0, 4⟩
def DEV_SERIAL_LO : Nat := 0x4
def DEV_SERIAL_LO_SERIAL : Fld := ⟨DEV_SERIAL_LO, 0, 32⟩
def DEV_SERIAL_HI : Nat := 0x8
def DEV_SERIAL_HI_SERIAL : Fld := ⟨DEV_SERIAL_HI, 0, 32⟩
def DEV_STATE : Nat := 0x10
def DEV_STATE_LC : Fld := ⟨DEV_STATE, 28, 4⟩
def DEV_STATE_STEP : Fld := ⟨DEV_STATE, 24, 4⟩
def DEV_STATE_HALT_CAUSE : Fld := ⟨DEV_STATE, 20, 4⟩
def DEV_STATE_BANK : Fld := ⟨DEV_STATE, 19, 1⟩
def DEV_STATE_BANK_VALID : Fld := ⟨DEV_STATE, 18, 1⟩
def DEV_STATE_FALLBACK : Fld := ⟨DEV_STATE, 17, 1⟩
def DEV_STATE_SIGNED : Fld := ⟨DEV_STATE, 16, 1⟩
def DEV_LC_FUSE : Nat := 0x14
def DEV_LC_FUSE_RET : Fld := ⟨DEV_LC_FUSE, 31, 1⟩
def DEV_LC_FUSE_K : Fld := ⟨DEV_LC_FUSE, 16, 8⟩
def DEV_LC_FUSE_SERVICE_LEFT : Fld := ⟨DEV_LC_FUSE, 0, 8⟩
def DEV_LC_REQ : Nat := 0x18
def DEV_LC_REQ_TARGET : Fld := ⟨DEV_LC_REQ, 28, 4⟩
def DEV_LC_REQ_CHECK : Fld := ⟨DEV_LC_REQ, 24, 4⟩
def DEV_LC_REQ_SERIAL : Fld := ⟨DEV_LC_REQ, 0, 24⟩
def DEV_RESET_CAUSE : Nat := 0x1c
def DEV_RESET_CAUSE_CAUSE : Fld := ⟨DEV_RESET_CAUSE, 0, 4⟩
def DEV_MC_STAT : Nat := 0x20
def DEV_MC_STAT_RESTARTS : Fld := ⟨DEV_MC_STAT, 0, 16⟩
def DEV_KEY_HASH (i : Nat) : Nat := 0x40 + 4 * i
def DEV_KEY_HASH_HASH (i : Nat) : Fld := ⟨DEV_KEY_HASH i, 0, 32⟩

/-! ### Block MT -/

def MT_CTRL : Nat := 0x10000
def MT_CTRL_REV_MISS_LIMIT : Fld := ⟨MT_CTRL, 8, 8⟩
def MT_CTRL_TURN_FROM_MMSG : Fld := ⟨MT_CTRL, 2, 1⟩
def MT_CTRL_MMSG_EN : Fld := ⟨MT_CTRL, 1, 1⟩
def MT_CTRL_REV_EN : Fld := ⟨MT_CTRL, 0, 1⟩
def MT_TURN_CFG : Nat := 0x10004
def MT_TURN_CFG_REV_OFFSET : Fld := ⟨MT_TURN_CFG, 16, 12⟩
def MT_TURN_CFG_SPT_M1 : Fld := ⟨MT_TURN_CFG, 0, 12⟩
def MT_BCLK_NOM : Nat := 0x10008
def MT_BCLK_NOM_KHZ : Fld := ⟨MT_BCLK_NOM, 0, 16⟩
def MT_TURN_PRESET_LO : Nat := 0x10010
def MT_TURN_PRESET_LO_TURN : Fld := ⟨MT_TURN_PRESET_LO, 0, 32⟩
def MT_TURN_PRESET_HI : Nat := 0x10014
def MT_TURN_PRESET_HI_TURN : Fld := ⟨MT_TURN_PRESET_HI, 0, 8⟩
def MT_STATE : Nat := 0x10020
def MT_STATE_TURN_MISMATCH : Fld := ⟨MT_STATE, 7, 1⟩
def MT_STATE_MMSG_SEEN : Fld := ⟨MT_STATE, 6, 1⟩
def MT_STATE_REV_OK : Fld := ⟨MT_STATE, 5, 1⟩
def MT_STATE_HOLDOVER : Fld := ⟨MT_STATE, 4, 1⟩
def MT_STATE_STATE : Fld := ⟨MT_STATE, 0, 4⟩
def MT_NOW_LO : Nat := 0x10030
def MT_NOW_LO_TURN : Fld := ⟨MT_NOW_LO, 22, 10⟩
def MT_NOW_LO_SLOT : Fld := ⟨MT_NOW_LO, 10, 12⟩
def MT_NOW_LO_FINE : Fld := ⟨MT_NOW_LO, 0, 10⟩
def MT_NOW_HI : Nat := 0x10034
def MT_NOW_HI_TURN : Fld := ⟨MT_NOW_HI, 0, 30⟩
def MT_NOW_SNAP : Nat := 0x10038
def MT_NOW_SNAP_SNAP : Fld := ⟨MT_NOW_SNAP, 0, 8⟩
def MT_BCLK_MEAS : Nat := 0x10040
def MT_BCLK_MEAS_FREQ : Fld := ⟨MT_BCLK_MEAS, 0, 20⟩
def MT_LAST_ANCHOR : Nat := 0x10044
def MT_LAST_ANCHOR_VALID : Fld := ⟨MT_LAST_ANCHOR, 31, 1⟩
def MT_LAST_ANCHOR_D : Fld := ⟨MT_LAST_ANCHOR, 0, 13⟩
def MT_HOLD_TURNS : Nat := 0x10048
def MT_HOLD_TURNS_TURNS : Fld := ⟨MT_HOLD_TURNS, 0, 32⟩
def MT_REV_ERR_CNT : Nat := 0x1004c
def MT_REV_ERR_CNT_MISSING : Fld := ⟨MT_REV_ERR_CNT, 16, 16⟩
def MT_REV_ERR_CNT_MISCOUNT : Fld := ⟨MT_REV_ERR_CNT, 0, 16⟩
def MT_MMSG_ERR_CNT : Nat := 0x10050
def MT_MMSG_ERR_CNT_ERRORS : Fld := ⟨MT_MMSG_ERR_CNT, 0, 32⟩
def MT_MMSG_LAST : Nat := 0x10054
def MT_MMSG_LAST_WORD : Fld := ⟨MT_MMSG_LAST, 0, 32⟩
def MT_MMSG_BITSEL (n : Nat) : Nat := 0x10080 + 4 * n
def MT_MMSG_BITSEL_EN (n : Nat) : Fld := ⟨MT_MMSG_BITSEL n, 8, 1⟩
def MT_MMSG_BITSEL_CODE (n : Nat) : Fld := ⟨MT_MMSG_BITSEL n, 0, 8⟩
def MT_TT_STAGE (k : Nat) : Nat := 0x10100 + 4 * k
def MT_TT_STAGE_WORD (k : Nat) : Fld := ⟨MT_TT_STAGE k, 0, 32⟩
def MT_TT_COMMIT : Nat := 0x10110
def MT_TT_COMMIT_INDEX : Fld := ⟨MT_TT_COMMIT, 0, 10⟩
def MT_TT_COMMIT_STATUS : Nat := 0x10114
def MT_TT_COMMIT_STATUS_PENDING : Fld := ⟨MT_TT_COMMIT_STATUS, 31, 1⟩
def MT_TT_COMMIT_STATUS_RESULT : Fld := ⟨MT_TT_COMMIT_STATUS, 24, 4⟩
def MT_TT_COMMIT_STATUS_INDEX : Fld := ⟨MT_TT_COMMIT_STATUS, 0, 10⟩
def MT_TT_ENTRY (i k : Nat) : Nat := 0x14000 + 16 * i + 4 * k

/-! ### Block AFE -/

def AFE_CELL_CFG (c : Nat) : Nat := 0x20000 + 4 * c
def AFE_CELL_CFG_CMP_FAILSAFE (c : Nat) : Fld := ⟨AFE_CELL_CFG c, 15, 1⟩
def AFE_CELL_CFG_DIP_EN (c : Nat) : Fld := ⟨AFE_CELL_CFG c, 14, 1⟩
def AFE_CELL_CFG_BIAS_EN (c : Nat) : Fld := ⟨AFE_CELL_CFG c, 13, 1⟩
def AFE_CELL_CFG_FAULT_LATCH (c : Nat) : Fld := ⟨AFE_CELL_CFG c, 12, 1⟩
def AFE_CELL_CFG_WIRES (c : Nat) : Fld := ⟨AFE_CELL_CFG c, 8, 2⟩
def AFE_CELL_CFG_CA_RANGE (c : Nat) : Fld := ⟨AFE_CELL_CFG c, 6, 2⟩
def AFE_CELL_CFG_GAIN (c : Nat) : Fld := ⟨AFE_CELL_CFG c, 3, 3⟩
def AFE_CELL_CFG_MODE (c : Nat) : Fld := ⟨AFE_CELL_CFG c, 0, 3⟩
def AFE_CMP_TH (c : Nat) : Nat := 0x20800 + 4 * c
def AFE_CMP_TH_TH_HI (c : Nat) : Fld := ⟨AFE_CMP_TH c, 8, 8⟩
def AFE_CMP_TH_TH_LO (c : Nat) : Fld := ⟨AFE_CMP_TH c, 0, 8⟩
def AFE_CELL_STAT (c : Nat) : Nat := 0x21000 + 4 * c
def AFE_CELL_STAT_ROLE (c : Nat) : Fld := ⟨AFE_CELL_STAT c, 30, 2⟩
def AFE_CELL_STAT_SPARE_IN (c : Nat) : Fld := ⟨AFE_CELL_STAT c, 29, 1⟩
def AFE_CELL_STAT_FAULT (c : Nat) : Fld := ⟨AFE_CELL_STAT c, 28, 1⟩
def AFE_CELL_STAT_FAULT_SUSPECT (c : Nat) : Fld := ⟨AFE_CELL_STAT c, 27, 1⟩
def AFE_CELL_STAT_SETTLING (c : Nat) : Fld := ⟨AFE_CELL_STAT c, 26, 1⟩
def AFE_CELL_STAT_SW (c : Nat) : Fld := ⟨AFE_CELL_STAT c, 25, 1⟩
def AFE_CELL_STAT_CMP_HI (c : Nat) : Fld := ⟨AFE_CELL_STAT c, 24, 1⟩
def AFE_CELL_STAT_CMP_LO (c : Nat) : Fld := ⟨AFE_CELL_STAT c, 23, 1⟩
def AFE_CELL_STAT_FROZEN (c : Nat) : Fld := ⟨AFE_CELL_STAT c, 22, 1⟩
def AFE_CELL_STAT_SETTLE_LEFT (c : Nat) : Fld := ⟨AFE_CELL_STAT c, 0, 16⟩
def AFE_DIP_RESULT (c : Nat) : Nat := 0x21800 + 4 * c
def AFE_DIP_RESULT_MAG (c : Nat) : Fld := ⟨AFE_DIP_RESULT c, 16, 16⟩
def AFE_DIP_RESULT_PHASE (c : Nat) : Fld := ⟨AFE_DIP_RESULT c, 6, 10⟩
def AFE_DIP_RESULT_VALID (c : Nat) : Fld := ⟨AFE_DIP_RESULT c, 0, 1⟩
def AFE_DIP_BASE (c : Nat) : Nat := 0x22000 + 4 * c
def AFE_DIP_BASE_BASE_MAG (c : Nat) : Fld := ⟨AFE_DIP_BASE c, 16, 16⟩
def AFE_DIP_BASE_TOL (c : Nat) : Fld := ⟨AFE_DIP_BASE c, 0, 8⟩
def AFE_LEAD_FIX (c : Nat) : Nat := 0x22800 + 4 * c
def AFE_LEAD_FIX_RATIO (c : Nat) : Fld := ⟨AFE_LEAD_FIX c, 0, 24⟩
def AFE_LEAD_MEAS (c : Nat) : Nat := 0x23000 + 4 * c
def AFE_LEAD_MEAS_VALID (c : Nat) : Fld := ⟨AFE_LEAD_MEAS c, 31, 1⟩
def AFE_LEAD_MEAS_RATIO (c : Nat) : Fld := ⟨AFE_LEAD_MEAS c, 0, 24⟩
def AFE_QCUM_LO (c : Nat) : Nat := 0x24000 + 16 * c
def AFE_QCUM_LO_CHARGE (c : Nat) : Fld := ⟨AFE_QCUM_LO c, 0, 32⟩
def AFE_QCUM_HI (c : Nat) : Nat := 0x24004 + 16 * c
def AFE_QCUM_HI_INEXACT (c : Nat) : Fld := ⟨AFE_QCUM_HI c, 31, 1⟩
def AFE_QCUM_HI_CHARGE (c : Nat) : Fld := ⟨AFE_QCUM_HI c, 0, 16⟩
def AFE_QCUM_SNAP (c : Nat) : Nat := 0x24008 + 16 * c
def AFE_QCUM_SNAP_SNAP (c : Nat) : Fld := ⟨AFE_QCUM_SNAP c, 0, 8⟩
def AFE_EXC_CFG (g : Nat) : Nat := 0x26000 + 4 * g
def AFE_EXC_CFG_LEVEL (g : Nat) : Fld := ⟨AFE_EXC_CFG g, 1, 1⟩
def AFE_EXC_CFG_EN (g : Nat) : Fld := ⟨AFE_EXC_CFG g, 0, 1⟩
def AFE_EXC_STAT (g : Nat) : Nat := 0x26080 + 4 * g
def AFE_EXC_STAT_LIMIT (g : Nat) : Fld := ⟨AFE_EXC_STAT g, 31, 1⟩
def AFE_EXC_STAT_SENSE_OPEN (g : Nat) : Fld := ⟨AFE_EXC_STAT g, 30, 1⟩
def AFE_EXC_STAT_STRING_OPEN (g : Nat) : Fld := ⟨AFE_EXC_STAT g, 29, 1⟩
def AFE_EXC_STAT_LOAD (g : Nat) : Fld := ⟨AFE_EXC_STAT g, 0, 16⟩
def AFE_GRP_STAT (g : Nat) : Nat := 0x26100 + 4 * g
def AFE_GRP_STAT_SUSPECT (g : Nat) : Fld := ⟨AFE_GRP_STAT g, 16, 16⟩
def AFE_GRP_STAT_FAULT (g : Nat) : Fld := ⟨AFE_GRP_STAT g, 0, 16⟩
def AFE_FAULT_CLR (g : Nat) : Nat := 0x26180 + 4 * g
def AFE_FAULT_CLR_CLR (g : Nat) : Fld := ⟨AFE_FAULT_CLR g, 0, 16⟩
def AFE_QCUM_ZERO (g : Nat) : Nat := 0x26200 + 4 * g
def AFE_QCUM_ZERO_ZERO (g : Nat) : Fld := ⟨AFE_QCUM_ZERO g, 0, 16⟩
def AFE_DIP_CAPTURE (g : Nat) : Nat := 0x26280 + 4 * g
def AFE_DIP_CAPTURE_CAPTURE (g : Nat) : Fld := ⟨AFE_DIP_CAPTURE g, 0, 16⟩
def AFE_DIP_STAT : Nat := 0x26400
def AFE_DIP_STAT_FULL : Fld := ⟨AFE_DIP_STAT, 31, 1⟩
def AFE_DIP_STAT_DIV : Fld := ⟨AFE_DIP_STAT, 0, 16⟩

/-! ### Block CNV -/

def CNV_CTRL : Nat := 0x30000
def CNV_CTRL_URG_EN : Fld := ⟨CNV_CTRL, 0, 1⟩
def CNV_FRAME_NUM : Nat := 0x30004
def CNV_FRAME_NUM_FRAME : Fld := ⟨CNV_FRAME_NUM, 0, 16⟩
def CNV_FRAME_PERIOD : Nat := 0x30008
def CNV_FRAME_PERIOD_SLOTS : Fld := ⟨CNV_FRAME_PERIOD, 0, 20⟩
def CNV_MAP_COMMIT : Nat := 0x30010
def CNV_MAP_COMMIT_ADC : Fld := ⟨CNV_MAP_COMMIT, 0, 4⟩
def CNV_MAP_STATUS : Nat := 0x30014
def CNV_MAP_STATUS_PENDING : Fld := ⟨CNV_MAP_STATUS, 31, 1⟩
def CNV_MAP_STATUS_RESULT : Fld := ⟨CNV_MAP_STATUS, 8, 3⟩
def CNV_MAP_STATUS_ADC : Fld := ⟨CNV_MAP_STATUS, 0, 4⟩
def CNV_MAP_STAGE (w : Nat) : Nat := 0x30020 + 4 * w
def CNV_MAP_STAGE_SLOT3 (w : Nat) : Fld := ⟨CNV_MAP_STAGE w, 24, 5⟩
def CNV_MAP_STAGE_SLOT2 (w : Nat) : Fld := ⟨CNV_MAP_STAGE w, 16, 5⟩
def CNV_MAP_STAGE_SLOT1 (w : Nat) : Fld := ⟨CNV_MAP_STAGE w, 8, 5⟩
def CNV_MAP_STAGE_SLOT0 (w : Nat) : Fld := ⟨CNV_MAP_STAGE w, 0, 5⟩
def CNV_SLOT_MAP (i : Nat) : Nat := 0x30100 + 4 * i
def CNV_SLOT_MAP_SLOT3 (i : Nat) : Fld := ⟨CNV_SLOT_MAP i, 24, 5⟩
def CNV_SLOT_MAP_SLOT2 (i : Nat) : Fld := ⟨CNV_SLOT_MAP i, 16, 5⟩
def CNV_SLOT_MAP_SLOT1 (i : Nat) : Fld := ⟨CNV_SLOT_MAP i, 8, 5⟩
def CNV_SLOT_MAP_SLOT0 (i : Nat) : Fld := ⟨CNV_SLOT_MAP i, 0, 5⟩
def CNV_CH_CFG (c : Nat) : Nat := 0x30400 + 4 * c
def CNV_CH_CFG_ILK (c : Nat) : Fld := ⟨CNV_CH_CFG c, 2, 1⟩
def CNV_CH_CFG_URG_SRC (c : Nat) : Fld := ⟨CNV_CH_CFG c, 0, 2⟩
def CNV_APT_TAP (n : Nat) : Nat := 0x30c00 + 4 * n
def CNV_APT_TAP_CLAMPED (n : Nat) : Fld := ⟨CNV_APT_TAP n, 7, 1⟩
def CNV_APT_TAP_TAP (n : Nat) : Fld := ⟨CNV_APT_TAP n, 0, 6⟩
def CNV_APT_SKEW (c : Nat) : Nat := 0x31800 + 4 * c
def CNV_APT_SKEW_SKEW (c : Nat) : Fld := ⟨CNV_APT_SKEW c, 0, 7⟩
def CNV_URG_CNT_W0 (a : Nat) : Nat := 0x32000 + 16 * a
def CNV_URG_CNT_SERVED (a : Nat) : Fld := ⟨CNV_URG_CNT_W0 a, 0, 32⟩
def CNV_URG_CNT_W1 (a : Nat) : Nat := 0x32004 + 16 * a
def CNV_URG_CNT_DEFERRED (a : Nat) : Fld := ⟨CNV_URG_CNT_W1 a, 0, 32⟩
def CNV_URG_CNT_W2 (a : Nat) : Nat := 0x32008 + 16 * a
def CNV_URG_CNT_REFUSED (a : Nat) : Fld := ⟨CNV_URG_CNT_W2 a, 0, 32⟩
def CNV_URG_CNT_W3 (a : Nat) : Nat := 0x3200c + 16 * a
def CNV_URG_CNT_MERGED (a : Nat) : Fld := ⟨CNV_URG_CNT_W3 a, 0, 32⟩
def CNV_ADC_STAT (a : Nat) : Nat := 0x32200 + 4 * a
def CNV_ADC_STAT_IN_SERVICE (a : Nat) : Fld := ⟨CNV_ADC_STAT a, 31, 1⟩
def CNV_ADC_STAT_SHIFT (a : Nat) : Fld := ⟨CNV_ADC_STAT a, 16, 2⟩
def CNV_ADC_STAT_PENDING (a : Nat) : Fld := ⟨CNV_ADC_STAT a, 0, 6⟩
def CNV_SPARE_FIX (g : Nat) : Nat := 0x32400 + 4 * g
def CNV_SPARE_FIX_EN (g : Nat) : Fld := ⟨CNV_SPARE_FIX g, 4, 1⟩
def CNV_SPARE_FIX_INPUT (g : Nat) : Fld := ⟨CNV_SPARE_FIX g, 0, 4⟩
def CNV_SPARE_STAT (g : Nat) : Nat := 0x32480 + 4 * g
def CNV_SPARE_STAT_STATE (g : Nat) : Fld := ⟨CNV_SPARE_STAT g, 30, 2⟩
def CNV_SPARE_STAT_REASON (g : Nat) : Fld := ⟨CNV_SPARE_STAT g, 28, 2⟩
def CNV_SPARE_STAT_INPUT (g : Nat) : Fld := ⟨CNV_SPARE_STAT g, 0, 4⟩

/-! ### Block SE -/

def SE_ENG_STAT (e : Nat) : Nat := 0x40000 + 4 * e
def SE_ENG_STAT_STATE (e : Nat) : Fld := ⟨SE_ENG_STAT e, 29, 3⟩
def SE_ENG_STAT_CAUSE (e : Nat) : Fld := ⟨SE_ENG_STAT e, 25, 4⟩
def SE_ENG_STAT_SERVES (e : Nat) : Fld := ⟨SE_ENG_STAT e, 20, 5⟩
def SE_ENG_STAT_LOAD (e : Nat) : Fld := ⟨SE_ENG_STAT e, 0, 10⟩
def SE_CAP_W0 (e : Nat) : Nat := 0x40100 + 8 * e
def SE_CAP_BURST (e : Nat) : Fld := ⟨SE_CAP_W0 e, 16, 16⟩
def SE_CAP_CYCLES (e : Nat) : Fld := ⟨SE_CAP_W0 e, 0, 16⟩
def SE_CAP_W1 (e : Nat) : Nat := 0x40104 + 8 * e
def SE_CAP_INTAKE (e : Nat) : Fld := ⟨SE_CAP_W1 e, 24, 8⟩
def SE_CAP_SHADOW (e : Nat) : Fld := ⟨SE_CAP_W1 e, 16, 8⟩
def SE_CAP_MEM (e : Nat) : Fld := ⟨SE_CAP_W1 e, 0, 16⟩
def SE_SWAP : Nat := 0x40200
def SE_SWAP_EN : Fld := ⟨SE_SWAP, 4, 1⟩
def SE_SWAP_ENGINE : Fld := ⟨SE_SWAP, 0, 4⟩
def SE_UCODE : Nat := 0x40204
def SE_UCODE_ROM_VER : Fld := ⟨SE_UCODE, 16, 16⟩
def SE_UCODE_PATCH : Fld := ⟨SE_UCODE, 0, 16⟩
def SE_DTS_REF_T : Nat := 0x40210
def SE_DTS_REF_T_TEMP : Fld := ⟨SE_DTS_REF_T, 0, 24⟩
def SE_RECIPE_STAT (r : Nat) : Nat := 0x41000 + 4 * r
def SE_RECIPE_STAT_ACTIVE (r : Nat) : Fld := ⟨SE_RECIPE_STAT r, 31, 1⟩
def SE_RECIPE_STAT_BANK (r : Nat) : Fld := ⟨SE_RECIPE_STAT r, 30, 1⟩
def SE_RECIPE_STAT_FILLING (r : Nat) : Fld := ⟨SE_RECIPE_STAT r, 29, 1⟩
def SE_RECIPE_STAT_ENGINE (r : Nat) : Fld := ⟨SE_RECIPE_STAT r, 24, 5⟩
def SE_RECIPE_STAT_SETTLE_LEFT (r : Nat) : Fld := ⟨SE_RECIPE_STAT r, 0, 16⟩
def SE_BANK_SEL (r : Nat) : Nat := 0x41400 + 4 * r
def SE_BANK_SEL_BANK (r : Nat) : Fld := ⟨SE_BANK_SEL r, 0, 1⟩
def SE_DT_CFG (c : Nat) : Nat := 0x42000 + 4 * c
def SE_DT_CFG_PERSIST (c : Nat) : Fld := ⟨SE_DT_CFG c, 16, 8⟩
def SE_DT_CFG_FAILSAFE (c : Nat) : Fld := ⟨SE_DT_CFG c, 15, 1⟩
def SE_DT_CFG_EN (c : Nat) : Fld := ⟨SE_DT_CFG c, 14, 1⟩
def SE_DT_CFG_SRC (c : Nat) : Fld := ⟨SE_DT_CFG c, 13, 1⟩
def SE_DT_CFG_RECIPE (c : Nat) : Fld := ⟨SE_DT_CFG c, 0, 8⟩
def SE_DT_TH_HI (c : Nat) : Nat := 0x42800 + 4 * c
def SE_DT_TH_HI_TH (c : Nat) : Fld := ⟨SE_DT_TH_HI c, 0, 24⟩
def SE_DT_TH_LO (c : Nat) : Nat := 0x43000 + 4 * c
def SE_DT_TH_LO_TH (c : Nat) : Fld := ⟨SE_DT_TH_LO c, 0, 24⟩
def SE_DT_FLAGS (w : Nat) : Nat := 0x43800 + 4 * w
def SE_DT_FLAGS_FLAG (w : Nat) : Fld := ⟨SE_DT_FLAGS w, 0, 32⟩

/-! ### Block FI -/

def FI_CTRL : Nat := 0x50000
def FI_CTRL_DTS_EN : Fld := ⟨FI_CTRL, 7, 1⟩
def FI_CTRL_DAS_EN : Fld := ⟨FI_CTRL, 6, 1⟩
def FI_CTRL_BIN2 : Fld := ⟨FI_CTRL, 5, 1⟩
def FI_CTRL_MODE : Fld := ⟨FI_CTRL, 0, 2⟩
def FI_LASER : Nat := 0x50004
def FI_LASER_LASER_EN : Fld := ⟨FI_LASER, 0, 1⟩
def FI_TONE_MAP : Nat := 0x50008
def FI_TONE_MAP_LINE3 : Fld := ⟨FI_TONE_MAP, 6, 2⟩
def FI_TONE_MAP_LINE2 : Fld := ⟨FI_TONE_MAP, 4, 2⟩
def FI_TONE_MAP_LINE1 : Fld := ⟨FI_TONE_MAP, 2, 2⟩
def FI_TONE_MAP_LINE0 : Fld := ⟨FI_TONE_MAP, 0, 2⟩
def FI_GEOM : Nat := 0x5000c
def FI_GEOM_DTS_NB64 : Fld := ⟨FI_GEOM, 16, 11⟩
def FI_GEOM_DAS_NG64 : Fld := ⟨FI_GEOM, 0, 11⟩
def FI_PULSE : Nat := 0x50010
def FI_PULSE_DTS_W : Fld := ⟨FI_PULSE, 8, 8⟩
def FI_PULSE_LAUNCH_W : Fld := ⟨FI_PULSE, 0, 8⟩
def FI_GAUGE : Nat := 0x50014
def FI_GAUGE_G : Fld := ⟨FI_GAUGE, 0, 7⟩
def FI_TRACK : Nat := 0x50018
def FI_TRACK_WEAK_TH : Fld := ⟨FI_TRACK, 16, 16⟩
def FI_TRACK_STITCH_K : Fld := ⟨FI_TRACK, 0, 4⟩
def FI_FIBRE_N : Nat := 0x50020
def FI_FIBRE_N_N_G : Fld := ⟨FI_FIBRE_N, 0, 18⟩
def FI_FIBRE_LAMBDA : Nat := 0x50024
def FI_FIBRE_LAMBDA_PM : Fld := ⟨FI_FIBRE_LAMBDA, 0, 24⟩
def FI_FIBRE_XI : Nat := 0x50028
def FI_FIBRE_XI_XI : Fld := ⟨FI_FIBRE_XI, 0, 16⟩
def FI_GATE_PITCH : Nat := 0x50030
def FI_GATE_PITCH_UM : Fld := ⟨FI_GATE_PITCH, 0, 24⟩
def FI_STRAIN_LSB : Nat := 0x50034
def FI_STRAIN_LSB_EPS : Fld := ⟨FI_STRAIN_LSB, 0, 32⟩
def FI_RANGE_ZERO : Nat := 0x50040
def FI_RANGE_ZERO_DTS_TAP : Fld := ⟨FI_RANGE_ZERO, 16, 8⟩
def FI_RANGE_ZERO_DAS_TAP : Fld := ⟨FI_RANGE_ZERO, 0, 10⟩
def FI_FADC_SKEW (n : Nat) : Nat := 0x50050 + 4 * n
def FI_FADC_SKEW_TAP (n : Nat) : Fld := ⟨FI_FADC_SKEW n, 0, 6⟩
def FI_IQ_CORR_W0 (p : Nat) : Nat := 0x50060 + 8 * p
def FI_IQ_CORR_GQ (p : Nat) : Fld := ⟨FI_IQ_CORR_W0 p, 16, 16⟩
def FI_IQ_CORR_KX (p : Nat) : Fld := ⟨FI_IQ_CORR_W0 p, 0, 16⟩
def FI_IQ_CORR_W1 (p : Nat) : Nat := 0x50064 + 8 * p
def FI_IQ_CORR_OQ (p : Nat) : Fld := ⟨FI_IQ_CORR_W1 p, 16, 12⟩
def FI_IQ_CORR_OI (p : Nat) : Fld := ⟨FI_IQ_CORR_W1 p, 0, 12⟩
def FI_STAT : Nat := 0x50080
def FI_STAT_LASER_ON : Fld := ⟨FI_STAT, 31, 1⟩
def FI_STAT_MOD_PRESENT : Fld := ⟨FI_STAT, 30, 1⟩
def FI_STAT_MOD_READY : Fld := ⟨FI_STAT, 29, 1⟩
def FI_STAT_MOD_ALARM : Fld := ⟨FI_STAT, 28, 1⟩
def FI_STAT_FADC_OK : Fld := ⟨FI_STAT, 24, 4⟩
def FI_STAT_RADC_OK : Fld := ⟨FI_STAT, 22, 2⟩
def FI_STAT_POL : Fld := ⟨FI_STAT, 20, 2⟩
def FI_STAT_LAS_REASON : Fld := ⟨FI_STAT, 16, 4⟩
def FI_STAT_STATE : Fld := ⟨FI_STAT, 0, 2⟩
def FI_LAUNCH_SEQ (r : Nat) : Nat := 0x50090 + 4 * r
def FI_LAUNCH_SEQ_SEQ (r : Nat) : Fld := ⟨FI_LAUNCH_SEQ r, 0, 32⟩
def FI_WEAK_GATES (r : Nat) : Nat := 0x500a0 + 4 * r
def FI_WEAK_GATES_COUNT (r : Nat) : Fld := ⟨FI_WEAK_GATES r, 0, 17⟩
def FI_CNT_W0 : Nat := 0x500c0
def FI_CNT_SUPPRESSED : Fld := ⟨FI_CNT_W0, 0, 32⟩
def FI_CNT_W1 : Nat := 0x500c4
def FI_CNT_SLIPS : Fld := ⟨FI_CNT_W1, 0, 32⟩
def FI_CNT_W2 : Nat := 0x500c8
def FI_CNT_FADC_CLIP_W2 : Fld := ⟨FI_CNT_W2, 0, 32⟩
def FI_CNT_W3 : Nat := 0x500cc
def FI_CNT_FADC_CLIP_W3 : Fld := ⟨FI_CNT_W3, 0, 32⟩
def FI_CNT_W4 : Nat := 0x500d0
def FI_CNT_FADC_CLIP_W4 : Fld := ⟨FI_CNT_W4, 0, 32⟩
def FI_CNT_W5 : Nat := 0x500d4
def FI_CNT_FADC_CLIP_W5 : Fld := ⟨FI_CNT_W5, 0, 32⟩
def FI_CNT_W6 : Nat := 0x500d8
def FI_CNT_DTS_CLIP : Fld := ⟨FI_CNT_W6, 0, 32⟩
def FI_CNT_W7 : Nat := 0x500dc
def FI_CNT_RESEEDS : Fld := ⟨FI_CNT_W7, 0, 32⟩
def FI_DTS_CFG : Nat := 0x50100
def FI_DTS_CFG_NACC : Fld := ⟨FI_DTS_CFG, 0, 16⟩
def FI_DTS_STAT : Nat := 0x50104
def FI_DTS_STAT_LAUNCHES : Fld := ⟨FI_DTS_STAT, 16, 16⟩
def FI_DTS_STAT_CYCLE : Fld := ⟨FI_DTS_STAT, 0, 16⟩

/-! ### Block TRG -/

def TRG_SP_CFG : Nat := 0x60000
def TRG_SP_CFG_EN : Fld := ⟨TRG_SP_CFG, 31, 1⟩
def TRG_SP_CFG_STREAM : Fld := ⟨TRG_SP_CFG, 0, 7⟩
def TRG_SP_DEPTH : Nat := 0x60004
def TRG_SP_DEPTH_POST : Fld := ⟨TRG_SP_DEPTH, 16, 16⟩
def TRG_SP_DEPTH_PRE : Fld := ⟨TRG_SP_DEPTH, 0, 16⟩
def TRG_SP_SEL (w : Nat) : Nat := 0x60010 + 4 * w
def TRG_SP_SEL_SEL (w : Nat) : Fld := ⟨TRG_SP_SEL w, 0, 32⟩
def TRG_SP_STAT : Nat := 0x60050
def TRG_SP_STAT_STATE : Fld := ⟨TRG_SP_STAT, 29, 3⟩
def TRG_SP_STAT_NCH : Fld := ⟨TRG_SP_STAT, 16, 10⟩
def TRG_SP_STAT_BURST_ID : Fld := ⟨TRG_SP_STAT, 0, 16⟩
def TRG_SP_INFO : Nat := 0x60054
def TRG_SP_INFO_DEPTH : Fld := ⟨TRG_SP_INFO, 0, 21⟩
def TRG_SP_CNT_W0 : Nat := 0x60060
def TRG_SP_CNT_BURSTS : Fld := ⟨TRG_SP_CNT_W0, 0, 32⟩
def TRG_SP_CNT_W1 : Nat := 0x60064
def TRG_SP_CNT_SHORT : Fld := ⟨TRG_SP_CNT_W1, 0, 32⟩
def TRG_SP_CNT_W2 : Nat := 0x60068
def TRG_SP_CNT_CAPPED : Fld := ⟨TRG_SP_CNT_W2, 0, 32⟩
def TRG_SP_CNT_W3 : Nat := 0x6006c
def TRG_SP_CNT_NO_BURST : Fld := ⟨TRG_SP_CNT_W3, 0, 32⟩
def TRG_CFG_W0 (t : Nat) : Nat := 0x60100 + 8 * t
def TRG_CFG_AUTO_TURNS (t : Nat) : Fld := ⟨TRG_CFG_W0 t, 16, 16⟩
def TRG_CFG_HOLDOFF (t : Nat) : Fld := ⟨TRG_CFG_W0 t, 8, 8⟩
def TRG_CFG_BURST_EN (t : Nat) : Fld := ⟨TRG_CFG_W0 t, 7, 1⟩
def TRG_CFG_MARK_STREAM (t : Nat) : Fld := ⟨TRG_CFG_W0 t, 0, 7⟩
def TRG_CFG_W1 (t : Nat) : Nat := 0x60104 + 8 * t
def TRG_CFG_ONESHOT (t : Nat) : Fld := ⟨TRG_CFG_W1 t, 1, 1⟩
def TRG_CFG_ARM_INIT (t : Nat) : Fld := ⟨TRG_CFG_W1 t, 0, 1⟩
def TRG_ARM : Nat := 0x60200
def TRG_ARM_DISARM : Fld := ⟨TRG_ARM, 16, 16⟩
def TRG_ARM_ARM : Fld := ⟨TRG_ARM, 0, 16⟩
def TRG_STAT : Nat := 0x60204
def TRG_STAT_FIRED : Fld := ⟨TRG_STAT, 16, 16⟩
def TRG_STAT_ARMED : Fld := ⟨TRG_STAT, 0, 16⟩
def TRG_TRIG_IN : Nat := 0x60208
def TRG_TRIG_IN_LEVEL : Fld := ⟨TRG_TRIG_IN, 0, 16⟩
def TRG_PAT_COMMIT : Nat := 0x6020c
def TRG_PAT_COMMIT_TRG : Fld := ⟨TRG_PAT_COMMIT, 0, 4⟩
def TRG_PAT_STATUS : Nat := 0x60210
def TRG_PAT_STATUS_PENDING : Fld := ⟨TRG_PAT_STATUS, 31, 1⟩
def TRG_PAT_STATUS_RESULT : Fld := ⟨TRG_PAT_STATUS, 8, 2⟩
def TRG_PAT_STATUS_TRG : Fld := ⟨TRG_PAT_STATUS, 0, 4⟩
def TRG_FIRE_CNT (t : Nat) : Nat := 0x60280 + 4 * t
def TRG_FIRE_CNT_FIRES (t : Nat) : Fld := ⟨TRG_FIRE_CNT t, 0, 32⟩
def TRG_TDC_W0 (g : Nat) : Nat := 0x60400 + 8 * g
def TRG_TDC_VALID (g : Nat) : Fld := ⟨TRG_TDC_W0 g, 31, 1⟩
def TRG_TDC_SLOTS (g : Nat) : Fld := ⟨TRG_TDC_W0 g, 10, 20⟩
def TRG_TDC_FINE (g : Nat) : Fld := ⟨TRG_TDC_W0 g, 0, 10⟩
def TRG_TDC_W1 (g : Nat) : Nat := 0x60404 + 8 * g
def TRG_TDC_FRAME (g : Nat) : Fld := ⟨TRG_TDC_W1 g, 16, 16⟩
def TRG_TDC_INPUT (g : Nat) : Fld := ⟨TRG_TDC_W1 g, 12, 4⟩
def TRG_TDC_LATER (g : Nat) : Fld := ⟨TRG_TDC_W1 g, 0, 12⟩
def TRG_TRIP_CFG (n : Nat) : Nat := 0x60600 + 4 * n
def TRG_TRIP_CFG_EN (n : Nat) : Fld := ⟨TRG_TRIP_CFG n, 31, 1⟩
def TRG_TRIP_CFG_ARM_CLEAR (n : Nat) : Fld := ⟨TRG_TRIP_CFG n, 30, 1⟩
def TRG_TRIP_CFG_FILT (n : Nat) : Fld := ⟨TRG_TRIP_CFG n, 16, 6⟩
def TRG_TRIP_CFG_K (n : Nat) : Fld := ⟨TRG_TRIP_CFG n, 8, 7⟩
def TRG_TRIP_CLR : Nat := 0x60640
def TRG_TRIP_CLR_CLR : Fld := ⟨TRG_TRIP_CLR, 0, 16⟩
def TRG_TRIP_STAT (n : Nat) : Nat := 0x60680 + 4 * n
def TRG_TRIP_STAT_DRIVEN (n : Nat) : Fld := ⟨TRG_TRIP_STAT n, 31, 1⟩
def TRG_TRIP_STAT_PERMIT (n : Nat) : Fld := ⟨TRG_TRIP_STAT n, 30, 1⟩
def TRG_TRIP_STAT_LATCHED (n : Nat) : Fld := ⟨TRG_TRIP_STAT n, 29, 1⟩
def TRG_TRIP_STAT_COND (n : Nat) : Fld := ⟨TRG_TRIP_STAT n, 28, 1⟩
def TRG_TRIP_STAT_ACTIVE (n : Nat) : Fld := ⟨TRG_TRIP_STAT n, 16, 7⟩
def TRG_TRIP_STAT_TRIPS (n : Nat) : Fld := ⟨TRG_TRIP_STAT n, 0, 16⟩
def TRG_TRIP_FIRST (n : Nat) : Nat := 0x606c0 + 4 * n
def TRG_TRIP_FIRST_VALID (n : Nat) : Fld := ⟨TRG_TRIP_FIRST n, 31, 1⟩
def TRG_TRIP_FIRST_FLAG (n : Nat) : Fld := ⟨TRG_TRIP_FIRST n, 0, 12⟩
def TRG_MASK (t : Nat) (w : Nat) : Nat := 0x61000 + 128 * t + 4 * w
def TRG_MASK_BITS (t : Nat) (w : Nat) : Fld := ⟨TRG_MASK t w, 0, 32⟩
def TRG_VALUE (t : Nat) (w : Nat) : Nat := 0x62000 + 128 * t + 4 * w
def TRG_VALUE_BITS (t : Nat) (w : Nat) : Fld := ⟨TRG_VALUE t w, 0, 32⟩
def TRG_CH_SRC (w : Nat) : Nat := 0x63000 + 4 * w
def TRG_CH_SRC_SRC (w : Nat) : Fld := ⟨TRG_CH_SRC w, 0, 32⟩
def TRG_TRIP_SEL (n : Nat) (i : Nat) : Nat := 0x64000 + 256 * n + 4 * i
def TRG_TRIP_SEL_EN (n : Nat) (i : Nat) : Fld := ⟨TRG_TRIP_SEL n i, 31, 1⟩
def TRG_TRIP_SEL_INV (n : Nat) (i : Nat) : Fld := ⟨TRG_TRIP_SEL n i, 30, 1⟩
def TRG_TRIP_SEL_FLAG (n : Nat) (i : Nat) : Fld := ⟨TRG_TRIP_SEL n i, 0, 12⟩

/-! ### Block CIS -/

def CIS_RING_BASE (s : Nat) : Nat := 0x70000 + 4 * s
def CIS_RING_BASE_BASE (s : Nat) : Fld := ⟨CIS_RING_BASE s, 0, 11⟩
def CIS_RING_SIZE (s : Nat) : Nat := 0x70200 + 4 * s
def CIS_RING_SIZE_SIZE (s : Nat) : Fld := ⟨CIS_RING_SIZE s, 0, 12⟩
def CIS_STREAM_CFG_W0 (s : Nat) : Nat := 0x70400 + 8 * s
def CIS_STREAM_CFG_CLASS (s : Nat) : Fld := ⟨CIS_STREAM_CFG_W0 s, 30, 2⟩
def CIS_STREAM_CFG_RUN_INIT (s : Nat) : Fld := ⟨CIS_STREAM_CFG_W0 s, 29, 1⟩
def CIS_STREAM_CFG_RESUME (s : Nat) : Fld := ⟨CIS_STREAM_CFG_W0 s, 28, 1⟩
def CIS_STREAM_CFG_RATIO (s : Nat) : Fld := ⟨CIS_STREAM_CFG_W0 s, 26, 2⟩
def CIS_STREAM_CFG_DEG_RATIO (s : Nat) : Fld := ⟨CIS_STREAM_CFG_W0 s, 24, 2⟩
def CIS_STREAM_CFG_CUT (s : Nat) : Fld := ⟨CIS_STREAM_CFG_W0 s, 16, 8⟩
def CIS_STREAM_CFG_PKT_SAMPLES (s : Nat) : Fld := ⟨CIS_STREAM_CFG_W0 s, 0, 12⟩
def CIS_STREAM_CFG_W1 (s : Nat) : Nat := 0x70404 + 8 * s
def CIS_STREAM_CFG_AGE (s : Nat) : Fld := ⟨CIS_STREAM_CFG_W1 s, 0, 16⟩
def CIS_RING_STAT (s : Nat) : Nat := 0x70800 + 4 * s
def CIS_RING_STAT_STATE (s : Nat) : Fld := ⟨CIS_RING_STAT s, 29, 3⟩
def CIS_RING_STAT_HIGH (s : Nat) : Fld := ⟨CIS_RING_STAT s, 28, 1⟩
def CIS_RING_STAT_LEVEL (s : Nat) : Fld := ⟨CIS_RING_STAT s, 0, 16⟩
def CIS_RING_HOLD (s : Nat) : Nat := 0x70a00 + 4 * s
def CIS_RING_HOLD_US (s : Nat) : Fld := ⟨CIS_RING_HOLD s, 0, 32⟩
def CIS_RING_RATE (s : Nat) : Nat := 0x70c00 + 4 * s
def CIS_RING_RATE_KBS (s : Nat) : Fld := ⟨CIS_RING_RATE s, 0, 32⟩
def CIS_SEQ (s : Nat) : Nat := 0x70e00 + 4 * s
def CIS_SEQ_NEXT (s : Nat) : Fld := ⟨CIS_SEQ s, 0, 32⟩
def CIS_GAP_CNT (s : Nat) : Nat := 0x71000 + 4 * s
def CIS_GAP_CNT_GAPS (s : Nat) : Fld := ⟨CIS_GAP_CNT s, 0, 32⟩
def CIS_ECC_CNT (s : Nat) : Nat := 0x71200 + 4 * s
def CIS_ECC_CNT_CORRECTED (s : Nat) : Fld := ⟨CIS_ECC_CNT s, 0, 32⟩
def CIS_HOLDOVER : Nat := 0x71400
def CIS_HOLDOVER_RING : Fld := ⟨CIS_HOLDOVER, 24, 7⟩
def CIS_HOLDOVER_US : Fld := ⟨CIS_HOLDOVER, 0, 24⟩
def CIS_WRITE_RATE : Nat := 0x71404
def CIS_WRITE_RATE_KBS : Fld := ⟨CIS_WRITE_RATE, 0, 32⟩
def CIS_STREAM_CTL : Nat := 0x71408
def CIS_STREAM_CTL_STOP : Fld := ⟨CIS_STREAM_CTL, 8, 1⟩
def CIS_STREAM_CTL_STREAM : Fld := ⟨CIS_STREAM_CTL, 0, 7⟩
def CIS_FLUSH : Nat := 0x7140c
def CIS_FLUSH_STREAM : Fld := ⟨CIS_FLUSH, 0, 7⟩

/-! ### Block SIP -/

def SIP_UNIT_STAT_W0 (u : Nat) : Nat := 0x80000 + 8 * u
def SIP_UNIT_STAT_IN_SERVICE (u : Nat) : Fld := ⟨SIP_UNIT_STAT_W0 u, 31, 1⟩
def SIP_UNIT_STAT_MISMATCH (u : Nat) : Fld := ⟨SIP_UNIT_STAT_W0 u, 0, 16⟩
def SIP_UNIT_STAT_W1 (u : Nat) : Nat := 0x80004 + 8 * u
def SIP_UNIT_STAT_BLOCKS (u : Nat) : Fld := ⟨SIP_UNIT_STAT_W1 u, 0, 32⟩
def SIP_CNT_W0 : Nat := 0x80010
def SIP_CNT_REENC : Fld := ⟨SIP_CNT_W0, 0, 32⟩
def SIP_CNT_W1 : Nat := 0x80014
def SIP_CNT_VERIFY_FAIL : Fld := ⟨SIP_CNT_W1, 0, 32⟩
def SIP_CNT_W2 : Nat := 0x80018
def SIP_CNT_RATIO_STEPS : Fld := ⟨SIP_CNT_W2, 0, 32⟩
def SIP_LOAD : Nat := 0x80020
def SIP_LOAD_PERMILLE : Fld := ⟨SIP_LOAD, 0, 16⟩
def SIP_STREAM_STAT (s : Nat) : Nat := 0x80200 + 4 * s
def SIP_STREAM_STAT_RATIO (s : Nat) : Fld := ⟨SIP_STREAM_STAT s, 30, 2⟩
def SIP_STREAM_STAT_DEGRADED (s : Nat) : Fld := ⟨SIP_STREAM_STAT s, 29, 1⟩
def SIP_STREAM_STAT_UNIT (s : Nat) : Fld := ⟨SIP_STREAM_STAT s, 28, 1⟩
def SIP_STREAM_STAT_SHIFT_MAX (s : Nat) : Fld := ⟨SIP_STREAM_STAT s, 0, 5⟩
def SIP_HIST_W0 (s : Nat) : Nat := 0x81000 + 16 * s
def SIP_HIST_HIST_W0 (s : Nat) : Fld := ⟨SIP_HIST_W0 s, 0, 32⟩
def SIP_HIST_W1 (s : Nat) : Nat := 0x81004 + 16 * s
def SIP_HIST_HIST_W1 (s : Nat) : Fld := ⟨SIP_HIST_W1 s, 0, 32⟩
def SIP_HIST_W2 (s : Nat) : Nat := 0x81008 + 16 * s
def SIP_HIST_HIST_W2 (s : Nat) : Fld := ⟨SIP_HIST_W2 s, 0, 32⟩
def SIP_HIST_W3 (s : Nat) : Nat := 0x8100c + 16 * s
def SIP_HIST_HIST_W3 (s : Nat) : Fld := ⟨SIP_HIST_W3 s, 0, 32⟩
def SIP_HIST_STAGE (k : Nat) : Nat := 0x81800 + 4 * k
def SIP_HIST_STAGE_WORD (k : Nat) : Fld := ⟨SIP_HIST_STAGE k, 0, 32⟩
def SIP_HIST_COMMIT : Nat := 0x81810
def SIP_HIST_COMMIT_STREAM : Fld := ⟨SIP_HIST_COMMIT, 0, 7⟩
def SIP_HIST_STATUS : Nat := 0x81814
def SIP_HIST_STATUS_RESULT : Fld := ⟨SIP_HIST_STATUS, 8, 3⟩
def SIP_HIST_STATUS_STREAM : Fld := ⟨SIP_HIST_STATUS, 0, 7⟩

/-! ### Block WL -/

def WL_CTRL : Nat := 0x90000
def WL_CTRL_IDLE_US : Fld := ⟨WL_CTRL, 16, 8⟩
def WL_CTRL_IDLE_EN : Fld := ⟨WL_CTRL, 11, 1⟩
def WL_CTRL_SPARE_TX : Fld := ⟨WL_CTRL, 8, 3⟩
def WL_CTRL_RX_FIRST : Fld := ⟨WL_CTRL, 0, 1⟩
def WL_STAT : Nat := 0x90004
def WL_STAT_STATE : Fld := ⟨WL_STAT, 28, 4⟩
def WL_STAT_ACTIVE : Fld := ⟨WL_STAT, 25, 3⟩
def WL_STAT_RX_ACTIVE : Fld := ⟨WL_STAT, 24, 1⟩
def WL_STAT_DOWNLINK_OK : Fld := ⟨WL_STAT, 23, 1⟩
def WL_STAT_REV : Fld := ⟨WL_STAT, 22, 1⟩
def WL_LANE_MAP : Nat := 0x90008
def WL_LANE_MAP_SPARE : Fld := ⟨WL_LANE_MAP, 12, 3⟩
def WL_LANE_MAP_LOG3 : Fld := ⟨WL_LANE_MAP, 9, 3⟩
def WL_LANE_MAP_LOG2 : Fld := ⟨WL_LANE_MAP, 6, 3⟩
def WL_LANE_MAP_LOG1 : Fld := ⟨WL_LANE_MAP, 3, 3⟩
def WL_LANE_MAP_LOG0 : Fld := ⟨WL_LANE_MAP, 0, 3⟩
def WL_LANE_STAT (k : Nat) : Nat := 0x90010 + 4 * k
def WL_LANE_STAT_ROLE (k : Nat) : Fld := ⟨WL_LANE_STAT k, 29, 3⟩
def WL_LANE_STAT_INV (k : Nat) : Fld := ⟨WL_LANE_STAT k, 28, 1⟩
def WL_LANE_STAT_LOCK (k : Nat) : Fld := ⟨WL_LANE_STAT k, 27, 1⟩
def WL_LANE_STAT_IDLE (k : Nat) : Fld := ⟨WL_LANE_STAT k, 26, 1⟩
def WL_LANE_STAT_FAILS (k : Nat) : Fld := ⟨WL_LANE_STAT k, 0, 16⟩
def WL_TX_PRBS_ERR (k : Nat) : Nat := 0x90030 + 4 * k
def WL_TX_PRBS_ERR_ERRORS (k : Nat) : Fld := ⟨WL_TX_PRBS_ERR k, 0, 32⟩
def WL_RX_STAT (j : Nat) : Nat := 0x90050 + 4 * j
def WL_RX_STAT_LOCK (j : Nat) : Fld := ⟨WL_RX_STAT j, 31, 1⟩
def WL_RX_STAT_ACTIVE (j : Nat) : Fld := ⟨WL_RX_STAT j, 30, 1⟩
def WL_RX_STAT_INV (j : Nat) : Fld := ⟨WL_RX_STAT j, 29, 1⟩
def WL_RX_STAT_BLOCK_ERR (j : Nat) : Fld := ⟨WL_RX_STAT j, 0, 16⟩
def WL_RX_PRBS_ERR (j : Nat) : Nat := 0x90058 + 4 * j
def WL_RX_PRBS_ERR_ERRORS (j : Nat) : Fld := ⟨WL_RX_PRBS_ERR j, 0, 32⟩
def WL_LSN_W0 : Nat := 0x90060
def WL_LSN_NEXT : Fld := ⟨WL_LSN_W0, 0, 32⟩
def WL_LSN_W1 : Nat := 0x90064
def WL_LSN_ACKED : Fld := ⟨WL_LSN_W1, 0, 32⟩
def WL_CNT_W0 : Nat := 0x90070
def WL_CNT_DATA : Fld := ⟨WL_CNT_W0, 0, 32⟩
def WL_CNT_W1 : Nat := 0x90074
def WL_CNT_RESENT : Fld := ⟨WL_CNT_W1, 0, 32⟩
def WL_CNT_W2 : Nat := 0x90078
def WL_CNT_INTERLOCK : Fld := ⟨WL_CNT_W2, 0, 32⟩
def WL_CNT_W3 : Nat := 0x9007c
def WL_CNT_ABORTED : Fld := ⟨WL_CNT_W3, 0, 32⟩
def WL_CNT_W4 : Nat := 0x90080
def WL_CNT_DL_FRAMES : Fld := ⟨WL_CNT_W4, 0, 32⟩
def WL_CNT_W5 : Nat := 0x90084
def WL_CNT_DL_BAD_CRC : Fld := ⟨WL_CNT_W5, 0, 32⟩
def WL_TEST : Nat := 0x90090
def WL_TEST_RX_PRBS : Fld := ⟨WL_TEST, 1, 1⟩
def WL_TEST_TX_PRBS : Fld := ⟨WL_TEST, 0, 1⟩
def WL_BUDGET : Nat := 0x90094
def WL_BUDGET_LANES3 : Fld := ⟨WL_BUDGET, 16, 16⟩
def WL_BUDGET_LANES4 : Fld := ⟨WL_BUDGET, 0, 16⟩
def WL_LAST_SWAP : Nat := 0x90098
def WL_LAST_SWAP_T10NS : Fld := ⟨WL_LAST_SWAP, 0, 16⟩
def WL_VLOG_CNT : Nat := 0x900a0
def WL_VLOG_CNT_TOTAL : Fld := ⟨WL_VLOG_CNT, 16, 16⟩
def WL_VLOG_CNT_HEAD : Fld := ⟨WL_VLOG_CNT, 0, 6⟩
def WL_CREDIT (s : Nat) : Nat := 0x90400 + 4 * s
def WL_CREDIT_AVAIL (s : Nat) : Fld := ⟨WL_CREDIT s, 0, 25⟩
def WL_VLOG_W0 (i : Nat) : Nat := 0x90800 + 16 * i
def WL_VLOG_SOURCE (i : Nat) : Fld := ⟨WL_VLOG_W0 i, 30, 2⟩
def WL_VLOG_CODE (i : Nat) : Fld := ⟨WL_VLOG_W0 i, 24, 6⟩
def WL_VLOG_OPCODE (i : Nat) : Fld := ⟨WL_VLOG_W0 i, 16, 8⟩
def WL_VLOG_DLSN (i : Nat) : Fld := ⟨WL_VLOG_W0 i, 0, 16⟩
def WL_VLOG_W1 (i : Nat) : Nat := 0x90804 + 16 * i
def WL_VLOG_DETAIL (i : Nat) : Fld := ⟨WL_VLOG_W1 i, 0, 32⟩
def WL_VLOG_W2 (i : Nat) : Nat := 0x90808 + 16 * i
def WL_VLOG_LT_LO (i : Nat) : Fld := ⟨WL_VLOG_W2 i, 0, 32⟩
def WL_VLOG_W3 (i : Nat) : Nat := 0x9080c + 16 * i
def WL_VLOG_LT_HI (i : Nat) : Fld := ⟨WL_VLOG_W3 i, 0, 32⟩

/-! ### Block FT -/

def FT_CTRL : Nat := 0xa0000
def FT_CTRL_XCHK_REBASE : Fld := ⟨FT_CTRL, 1, 1⟩
def FT_CTRL_ASYM_ACK : Fld := ⟨FT_CTRL, 0, 1⟩
def FT_CFG : Nat := 0xa0004
def FT_CFG_TCR_TURNS : Fld := ⟨FT_CFG, 16, 16⟩
def FT_CFG_DST : Fld := ⟨FT_CFG, 14, 1⟩
def FT_CFG_PTP_EN : Fld := ⟨FT_CFG, 13, 1⟩
def FT_CFG_DOMAIN : Fld := ⟨FT_CFG, 0, 8⟩
def FT_SERVO : Nat := 0xa0008
def FT_SERVO_TAU : Fld := ⟨FT_SERVO, 16, 16⟩
def FT_SERVO_LOSS_INTERVALS : Fld := ⟨FT_SERVO, 8, 8⟩
def FT_SERVO_ACQ_N : Fld := ⟨FT_SERVO, 0, 8⟩
def FT_JUMP_CFG : Nat := 0xa000c
def FT_JUMP_CFG_THRESH : Fld := ⟨FT_JUMP_CFG, 20, 12⟩
def FT_JUMP_CFG_PERSIST : Fld := ⟨FT_JUMP_CFG, 12, 8⟩
def FT_JUMP_CFG_SLEW : Fld := ⟨FT_JUMP_CFG, 0, 7⟩
def FT_ASYM (p : Nat) : Nat := 0xa0010 + 4 * p
def FT_ASYM_PS (p : Nat) : Fld := ⟨FT_ASYM p, 0, 32⟩
def FT_STAT : Nat := 0xa0020
def FT_STAT_STATE : Fld := ⟨FT_STAT, 29, 3⟩
def FT_STAT_FT_VALID : Fld := ⟨FT_STAT, 28, 1⟩
def FT_STAT_ASYM_SUSPECT : Fld := ⟨FT_STAT, 27, 1⟩
def FT_STAT_XCHK_MISMATCH : Fld := ⟨FT_STAT, 26, 1⟩
def FT_STAT_OFFSET_LARGE : Fld := ⟨FT_STAT, 25, 1⟩
def FT_STAT_ETH_LINK : Fld := ⟨FT_STAT, 24, 1⟩
def FT_STAT_SESSION : Fld := ⟨FT_STAT, 16, 8⟩
def FT_NOW_LO : Nat := 0xa0030
def FT_NOW_LO_NS : Fld := ⟨FT_NOW_LO, 0, 32⟩
def FT_NOW_HI : Nat := 0xa0034
def FT_NOW_HI_NS : Fld := ⟨FT_NOW_HI, 0, 32⟩
def FT_NOW_SNAP : Nat := 0xa0038
def FT_NOW_SNAP_SNAP : Fld := ⟨FT_NOW_SNAP, 0, 8⟩
def FT_LT_LO : Nat := 0xa0040
def FT_LT_LO_NS : Fld := ⟨FT_LT_LO, 0, 32⟩
def FT_LT_HI : Nat := 0xa0044
def FT_LT_HI_NS : Fld := ⟨FT_LT_HI, 0, 32⟩
def FT_LT_SNAP : Nat := 0xa0048
def FT_LT_SNAP_SNAP : Fld := ⟨FT_LT_SNAP, 0, 8⟩
def FT_OFFSET : Nat := 0xa0050
def FT_OFFSET_NS : Fld := ⟨FT_OFFSET, 0, 32⟩
def FT_PATH_DELAY : Nat := 0xa0054
def FT_PATH_DELAY_NS : Fld := ⟨FT_PATH_DELAY, 0, 32⟩
def FT_RATE : Nat := 0xa0058
def FT_RATE_PPT : Fld := ⟨FT_RATE, 0, 32⟩
def FT_TWIN_LT_OFS : Nat := 0xa005c
def FT_TWIN_LT_OFS_NS : Fld := ⟨FT_TWIN_LT_OFS, 0, 32⟩
def FT_MASTER_W0 : Nat := 0xa0060
def FT_MASTER_ID_HI : Fld := ⟨FT_MASTER_W0, 0, 32⟩
def FT_MASTER_W1 : Nat := 0xa0064
def FT_MASTER_ID_LO : Fld := ⟨FT_MASTER_W1, 0, 32⟩
def FT_MASTER_W2 : Nat := 0xa0068
def FT_MASTER_CLASS : Fld := ⟨FT_MASTER_W2, 16, 8⟩
def FT_MASTER_PORT : Fld := ⟨FT_MASTER_W2, 0, 16⟩
def FT_UTC_OFFSET : Nat := 0xa006c
def FT_UTC_OFFSET_VALID : Fld := ⟨FT_UTC_OFFSET, 31, 1⟩
def FT_UTC_OFFSET_OFFSET : Fld := ⟨FT_UTC_OFFSET, 0, 16⟩
def FT_XCHK_W0 : Nat := 0xa0070
def FT_XCHK_EN : Fld := ⟨FT_XCHK_W0, 31, 1⟩
def FT_XCHK_SLOT_FS : Fld := ⟨FT_XCHK_W0, 0, 27⟩
def FT_XCHK_W1 : Nat := 0xa0074
def FT_XCHK_TOL_NS : Fld := ⟨FT_XCHK_W1, 0, 16⟩
def FT_XCHK_DEV : Nat := 0xa0078
def FT_XCHK_DEV_NS : Fld := ⟨FT_XCHK_DEV, 0, 32⟩
def FT_CNT_W0 : Nat := 0xa0080
def FT_CNT_SYNC : Fld := ⟨FT_CNT_W0, 0, 32⟩
def FT_CNT_W1 : Nat := 0xa0084
def FT_CNT_DELAY_REQ : Fld := ⟨FT_CNT_W1, 0, 32⟩
def FT_CNT_W2 : Nat := 0xa0088
def FT_CNT_DELAY_RESP : Fld := ⟨FT_CNT_W2, 0, 32⟩
def FT_CNT_W3 : Nat := 0xa008c
def FT_CNT_ANNOUNCE : Fld := ⟨FT_CNT_W3, 0, 32⟩
def FT_CNT_W4 : Nat := 0xa0090
def FT_CNT_IGNORED : Fld := ⟨FT_CNT_W4, 0, 32⟩
def FT_CNT_W5 : Nat := 0xa0094
def FT_CNT_JUMPS : Fld := ⟨FT_CNT_W5, 0, 32⟩
def FT_ETH_CFG_W0 : Nat := 0xa00a0
def FT_ETH_CFG_MAC_W0 : Fld := ⟨FT_ETH_CFG_W0, 0, 32⟩
def FT_ETH_CFG_W1 : Nat := 0xa00a4
def FT_ETH_CFG_MAC_W1 : Fld := ⟨FT_ETH_CFG_W1, 16, 16⟩
def FT_ETH_CFG_VLAN_EN : Fld := ⟨FT_ETH_CFG_W1, 15, 1⟩
def FT_ETH_CFG_PCP : Fld := ⟨FT_ETH_CFG_W1, 12, 3⟩
def FT_ETH_CFG_VID : Fld := ⟨FT_ETH_CFG_W1, 0, 12⟩
def FT_ETH_CFG_W2 : Nat := 0xa00a8
def FT_ETH_CFG_PEER_W2 : Fld := ⟨FT_ETH_CFG_W2, 0, 32⟩
def FT_ETH_CFG_W3 : Nat := 0xa00ac
def FT_ETH_CFG_PEER_W3 : Fld := ⟨FT_ETH_CFG_W3, 16, 16⟩
def FT_ETH_CFG_SUMMARY_MS : Fld := ⟨FT_ETH_CFG_W3, 0, 16⟩
def FT_ETH_STAT_W0 : Nat := 0xa00b0
def FT_ETH_STAT_LINK : Fld := ⟨FT_ETH_STAT_W0, 31, 1⟩
def FT_ETH_STAT_AN_DONE : Fld := ⟨FT_ETH_STAT_W0, 30, 1⟩
def FT_ETH_STAT_FLAPS : Fld := ⟨FT_ETH_STAT_W0, 0, 16⟩
def FT_ETH_STAT_W1 : Nat := 0xa00b4
def FT_ETH_STAT_FCS : Fld := ⟨FT_ETH_STAT_W1, 0, 32⟩
def FT_ETH_STAT_W2 : Nat := 0xa00b8
def FT_ETH_STAT_FOREIGN : Fld := ⟨FT_ETH_STAT_W2, 0, 32⟩

/-! ### Block DMA -/

def DMA_CH_CFG (n : Nat) : Nat := 0xb0000 + 4 * n
def DMA_CH_CFG_EN (n : Nat) : Fld := ⟨DMA_CH_CFG n, 31, 1⟩
def DMA_CH_CFG_PACE (n : Nat) : Fld := ⟨DMA_CH_CFG n, 28, 3⟩
def DMA_CH_CFG_PACE_ARG (n : Nat) : Fld := ⟨DMA_CH_CFG n, 18, 10⟩
def DMA_CH_CFG_HEAD (n : Nat) : Fld := ⟨DMA_CH_CFG n, 0, 11⟩
def DMA_CH_CMD (n : Nat) : Nat := 0xb0100 + 4 * n
def DMA_CH_CMD_START (n : Nat) : Fld := ⟨DMA_CH_CMD n, 31, 1⟩
def DMA_CH_CMD_ABORT (n : Nat) : Fld := ⟨DMA_CH_CMD n, 30, 1⟩
def DMA_CH_CMD_PACE_CTL (n : Nat) : Fld := ⟨DMA_CH_CMD n, 28, 2⟩
def DMA_CH_CMD_USE_HEAD (n : Nat) : Fld := ⟨DMA_CH_CMD n, 12, 1⟩
def DMA_CH_CMD_HEAD (n : Nat) : Fld := ⟨DMA_CH_CMD n, 0, 11⟩
def DMA_CH_STAT (n : Nat) : Nat := 0xb0200 + 4 * n
def DMA_CH_STAT_STATE (n : Nat) : Fld := ⟨DMA_CH_STAT n, 29, 3⟩
def DMA_CH_STAT_LAST_STATUS (n : Nat) : Fld := ⟨DMA_CH_STAT n, 25, 4⟩
def DMA_CH_STAT_ABORT_LATE (n : Nat) : Fld := ⟨DMA_CH_STAT n, 24, 1⟩
def DMA_CH_STAT_PACE_MISSED (n : Nat) : Fld := ⟨DMA_CH_STAT n, 16, 8⟩
def DMA_CH_STAT_CUR (n : Nat) : Fld := ⟨DMA_CH_STAT n, 0, 11⟩
def DMA_PRIV_RATE : Nat := 0xb0300
def DMA_PRIV_RATE_BURST_KIB : Fld := ⟨DMA_PRIV_RATE, 16, 8⟩
def DMA_PRIV_RATE_SHARE : Fld := ⟨DMA_PRIV_RATE, 0, 8⟩
def DMA_FABRIC : Nat := 0xb0304
def DMA_FABRIC_PEAK : Fld := ⟨DMA_FABRIC, 16, 7⟩
def DMA_FABRIC_NOW : Fld := ⟨DMA_FABRIC, 0, 7⟩
def DMA_DUMP_W0 : Nat := 0xb0310
def DMA_DUMP_ADDR : Fld := ⟨DMA_DUMP_W0, 0, 32⟩
def DMA_DUMP_W1 : Nat := 0xb0314
def DMA_DUMP_GO : Fld := ⟨DMA_DUMP_W1, 31, 1⟩
def DMA_DUMP_BUSY : Fld := ⟨DMA_DUMP_W1, 30, 1⟩
def DMA_DUMP_WORDS_M1 : Fld := ⟨DMA_DUMP_W1, 0, 16⟩
def DMA_MEM_STAT_W0 (m : Nat) : Nat := 0xb0400 + 8 * m
def DMA_MEM_STAT_CORRECTED (m : Nat) : Fld := ⟨DMA_MEM_STAT_W0 m, 0, 32⟩
def DMA_MEM_STAT_W1 (m : Nat) : Nat := 0xb0404 + 8 * m
def DMA_MEM_STAT_UNCORR (m : Nat) : Fld := ⟨DMA_MEM_STAT_W1 m, 16, 16⟩
def DMA_MEM_STAT_SPARES_LEFT (m : Nat) : Fld := ⟨DMA_MEM_STAT_W1 m, 8, 8⟩
def DMA_MEM_STAT_REPAIRED (m : Nat) : Fld := ⟨DMA_MEM_STAT_W1 m, 0, 8⟩
def DMA_SCRUB : Nat := 0xb0500
def DMA_SCRUB_PASSES : Fld := ⟨DMA_SCRUB, 0, 32⟩
def DMA_REPAIR_LOG (i : Nat) : Nat := 0xb0600 + 4 * i
def DMA_REPAIR_LOG_MEM (i : Nat) : Fld := ⟨DMA_REPAIR_LOG i, 27, 5⟩
def DMA_REPAIR_LOG_VALID (i : Nat) : Fld := ⟨DMA_REPAIR_LOG i, 26, 1⟩
def DMA_REPAIR_LOG_CAUSE (i : Nat) : Fld := ⟨DMA_REPAIR_LOG i, 25, 1⟩
def DMA_REPAIR_LOG_ROW (i : Nat) : Fld := ⟨DMA_REPAIR_LOG i, 0, 14⟩

/-! ### Block EVT -/

def EVT_ROUTE (n : Nat) : Nat := 0xc0000 + 4 * n
def EVT_ROUTE_REC (n : Nat) : Fld := ⟨EVT_ROUTE n, 31, 1⟩
def EVT_ROUTE_FW (n : Nat) : Fld := ⟨EVT_ROUTE n, 30, 1⟩
def EVT_ROUTE_TT (n : Nat) : Fld := ⟨EVT_ROUTE n, 29, 1⟩
def EVT_ROUTE_DMA (n : Nat) : Fld := ⟨EVT_ROUTE n, 28, 1⟩
def EVT_ROUTE_CODE (n : Nat) : Fld := ⟨EVT_ROUTE n, 20, 8⟩
def EVT_ROUTE_CHANNEL (n : Nat) : Fld := ⟨EVT_ROUTE n, 0, 5⟩
def EVT_PEND (w : Nat) : Nat := 0xc0400 + 4 * w
def EVT_PEND_PEND (w : Nat) : Fld := ⟨EVT_PEND w, 0, 32⟩
def EVT_COUNT (n : Nat) : Nat := 0xc0800 + 4 * n
def EVT_COUNT_TOTAL (n : Nat) : Fld := ⟨EVT_COUNT n, 8, 24⟩
def EVT_COUNT_FW_EXTRA (n : Nat) : Fld := ⟨EVT_COUNT n, 0, 8⟩
def EVT_QUEUE : Nat := 0xc0c00
def EVT_QUEUE_MERGED : Fld := ⟨EVT_QUEUE, 16, 16⟩
def EVT_QUEUE_LEVEL : Fld := ⟨EVT_QUEUE, 0, 10⟩

/-! ### Block PMC -/

def PMC_CNT_LO (i : Nat) : Nat := 0xd0000 + 16 * i
def PMC_CNT_LO_COUNT (i : Nat) : Fld := ⟨PMC_CNT_LO i, 0, 32⟩
def PMC_CNT_HI (i : Nat) : Nat := 0xd0004 + 16 * i
def PMC_CNT_HI_COUNT (i : Nat) : Fld := ⟨PMC_CNT_HI i, 0, 16⟩
def PMC_CNT_SNAP (i : Nat) : Nat := 0xd0008 + 16 * i
def PMC_CNT_SNAP_SNAP (i : Nat) : Fld := ⟨PMC_CNT_SNAP i, 0, 8⟩
def PMC_FILT_W0 (f : Nat) : Nat := 0xd1000 + 16 * f
def PMC_FILT_EN (f : Nat) : Fld := ⟨PMC_FILT_W0 f, 31, 1⟩
def PMC_FILT_PRIV (f : Nat) : Fld := ⟨PMC_FILT_W0 f, 29, 2⟩
def PMC_FILT_MASTER_EN (f : Nat) : Fld := ⟨PMC_FILT_W0 f, 28, 1⟩
def PMC_FILT_MASTER (f : Nat) : Fld := ⟨PMC_FILT_W0 f, 25, 3⟩
def PMC_FILT_CLASS_EN (f : Nat) : Fld := ⟨PMC_FILT_W0 f, 24, 1⟩
def PMC_FILT_CLASS (f : Nat) : Fld := ⟨PMC_FILT_W0 f, 22, 2⟩
def PMC_FILT_W1 (f : Nat) : Nat := 0xd1004 + 16 * f
def PMC_FILT_ADDR_LO (f : Nat) : Fld := ⟨PMC_FILT_W1 f, 0, 32⟩
def PMC_FILT_W2 (f : Nat) : Nat := 0xd1008 + 16 * f
def PMC_FILT_ADDR_HI (f : Nat) : Fld := ⟨PMC_FILT_W2 f, 0, 32⟩
def PMC_FILT_W3 (f : Nat) : Nat := 0xd100c + 16 * f
def PMC_WINDOW : Nat := 0xd1100
def PMC_WINDOW_US : Fld := ⟨PMC_WINDOW, 0, 16⟩
def PMC_BW (p : Nat) : Nat := 0xd1120 + 4 * p
def PMC_BW_RD_MBS (p : Nat) : Fld := ⟨PMC_BW p, 16, 16⟩
def PMC_BW_WR_MBS (p : Nat) : Fld := ⟨PMC_BW p, 0, 16⟩
def PMC_TD_W0 (e : Nat) : Nat := 0xd1200 + 8 * e
def PMC_TD_RETIRED (e : Nat) : Fld := ⟨PMC_TD_W0 e, 16, 16⟩
def PMC_TD_WASTED (e : Nat) : Fld := ⟨PMC_TD_W0 e, 0, 16⟩
def PMC_TD_W1 (e : Nat) : Nat := 0xd1204 + 8 * e
def PMC_TD_FRONT (e : Nat) : Fld := ⟨PMC_TD_W1 e, 16, 16⟩
def PMC_TD_BACK (e : Nat) : Fld := ⟨PMC_TD_W1 e, 0, 16⟩
def PMC_SAMPLE_CFG : Nat := 0xd1300
def PMC_SAMPLE_CFG_EN : Fld := ⟨PMC_SAMPLE_CFG, 31, 1⟩
def PMC_SAMPLE_CFG_LOG2_PERIOD : Fld := ⟨PMC_SAMPLE_CFG, 25, 6⟩
def PMC_SAMPLE_CFG_ENGINE : Fld := ⟨PMC_SAMPLE_CFG, 20, 5⟩
def PMC_SAMPLE_CFG_COUNTER : Fld := ⟨PMC_SAMPLE_CFG, 0, 8⟩

/-! ### Block CAL -/

def CAL_CTRL : Nat := 0xe0000
def CAL_CTRL_PERIOD_S : Fld := ⟨CAL_CTRL, 16, 16⟩
def CAL_CTRL_FB_ILK : Fld := ⟨CAL_CTRL, 2, 1⟩
def CAL_CTRL_FB_AT : Fld := ⟨CAL_CTRL, 1, 1⟩
def CAL_CTRL_EN : Fld := ⟨CAL_CTRL, 0, 1⟩
def CAL_AGE_LIMIT : Nat := 0xe0004
def CAL_AGE_LIMIT_S : Fld := ⟨CAL_AGE_LIMIT, 0, 16⟩
def CAL_JOURNAL_CFG : Nat := 0xe0008
def CAL_JOURNAL_CFG_MIN_S : Fld := ⟨CAL_JOURNAL_CFG, 16, 16⟩
def CAL_JOURNAL_CFG_COMPACT_PCT : Fld := ⟨CAL_JOURNAL_CFG, 0, 8⟩
def CAL_JOURNAL_STAT_W0 : Nat := 0xe0010
def CAL_JOURNAL_STAT_SEQ : Fld := ⟨CAL_JOURNAL_STAT_W0, 0, 32⟩
def CAL_JOURNAL_STAT_W1 : Nat := 0xe0014
def CAL_JOURNAL_STAT_BASE_SLOT : Fld := ⟨CAL_JOURNAL_STAT_W1, 31, 1⟩
def CAL_JOURNAL_STAT_COMPACTIONS : Fld := ⟨CAL_JOURNAL_STAT_W1, 16, 15⟩
def CAL_JOURNAL_STAT_PAGES : Fld := ⟨CAL_JOURNAL_STAT_W1, 0, 16⟩
def CAL_JOURNAL_STAT_W2 : Nat := 0xe0018
def CAL_JOURNAL_STAT_GENERATION : Fld := ⟨CAL_JOURNAL_STAT_W2, 0, 32⟩
def CAL_VISIT : Nat := 0xe0020
def CAL_VISIT_INPUT : Fld := ⟨CAL_VISIT, 0, 9⟩
def CAL_EXCLUDE (g : Nat) : Nat := 0xe0100 + 4 * g
def CAL_EXCLUDE_EXCL (g : Nat) : Fld := ⟨CAL_EXCLUDE g, 0, 16⟩
def CAL_GRP_STAT (g : Nat) : Nat := 0xe0200 + 4 * g
def CAL_GRP_STAT_STATE (g : Nat) : Fld := ⟨CAL_GRP_STAT g, 29, 3⟩
def CAL_GRP_STAT_SPARE_OK (g : Nat) : Fld := ⟨CAL_GRP_STAT g, 28, 1⟩
def CAL_GRP_STAT_INPUT (g : Nat) : Fld := ⟨CAL_GRP_STAT g, 24, 4⟩
def CAL_GRP_STAT_VISITS (g : Nat) : Fld := ⟨CAL_GRP_STAT g, 0, 16⟩
def CAL_GRP_AGE (g : Nat) : Nat := 0xe0280 + 4 * g
def CAL_GRP_AGE_AGE_S (g : Nat) : Fld := ⟨CAL_GRP_AGE g, 0, 32⟩
def CAL_CELL_STAT (n : Nat) : Nat := 0xe0400 + 4 * n
def CAL_CELL_STAT_STALE (n : Nat) : Fld := ⟨CAL_CELL_STAT n, 31, 1⟩
def CAL_CELL_STAT_FAILED (n : Nat) : Fld := ⟨CAL_CELL_STAT n, 30, 1⟩
def CAL_CELL_STAT_FALLBACK (n : Nat) : Fld := ⟨CAL_CELL_STAT n, 29, 1⟩
def CAL_CELL_STAT_CODE (n : Nat) : Fld := ⟨CAL_CELL_STAT n, 24, 4⟩
def CAL_CELL_STAT_AGE_S (n : Nat) : Fld := ⟨CAL_CELL_STAT n, 0, 24⟩
def CAL_CMP_TRIM (n : Nat) : Nat := 0xe1000 + 4 * n
def CAL_CMP_TRIM_TRIM_HI (n : Nat) : Fld := ⟨CAL_CMP_TRIM n, 8, 5⟩
def CAL_CMP_TRIM_TRIM_LO (n : Nat) : Fld := ⟨CAL_CMP_TRIM n, 0, 5⟩
def CAL_COEF_W0 (n : Nat) : Nat := 0xe2000 + 16 * n
def CAL_COEF_OFFSET (n : Nat) : Fld := ⟨CAL_COEF_W0 n, 0, 24⟩
def CAL_COEF_W1 (n : Nat) : Nat := 0xe2004 + 16 * n
def CAL_COEF_GAIN (n : Nat) : Fld := ⟨CAL_COEF_W1 n, 0, 24⟩
def CAL_COEF_W2 (n : Nat) : Nat := 0xe2008 + 16 * n
def CAL_COEF_Q_R (n : Nat) : Fld := ⟨CAL_COEF_W2 n, 0, 24⟩
def CAL_ADC_STAT (a : Nat) : Nat := 0xe4400 + 4 * a
def CAL_ADC_STAT_TRIMMED (a : Nat) : Fld := ⟨CAL_ADC_STAT a, 31, 1⟩
def CAL_ADC_STAT_UPDATES (a : Nat) : Fld := ⟨CAL_ADC_STAT a, 8, 23⟩
def CAL_ADC_STAT_CODE (a : Nat) : Fld := ⟨CAL_ADC_STAT a, 0, 8⟩
def CAL_FIBRE_STAT_W0 : Nat := 0xe4800
def CAL_FIBRE_STAT_SKEW_AGE_S : Fld := ⟨CAL_FIBRE_STAT_W0, 0, 32⟩
def CAL_FIBRE_STAT_W1 : Nat := 0xe4804
def CAL_FIBRE_STAT_IQ_AGE_S : Fld := ⟨CAL_FIBRE_STAT_W1, 0, 32⟩
def CAL_FIBRE_STAT_W2 : Nat := 0xe4808
def CAL_FIBRE_STAT_RZ_PENDING : Fld := ⟨CAL_FIBRE_STAT_W2, 31, 1⟩
def CAL_FIBRE_STAT_DTS_TAP : Fld := ⟨CAL_FIBRE_STAT_W2, 16, 8⟩
def CAL_FIBRE_STAT_DAS_TAP : Fld := ⟨CAL_FIBRE_STAT_W2, 0, 10⟩

/-! ### Block BOOT -/

def BOOT_BANK_STAT_W0 (b : Nat) : Nat := 0xf0000 + 8 * b
def BOOT_BANK_STAT_CANDIDATE (b : Nat) : Fld := ⟨BOOT_BANK_STAT_W0 b, 31, 1⟩
def BOOT_BANK_STAT_IN_FORCE (b : Nat) : Fld := ⟨BOOT_BANK_STAT_W0 b, 30, 1⟩
def BOOT_BANK_STAT_CODE (b : Nat) : Fld := ⟨BOOT_BANK_STAT_W0 b, 16, 8⟩
def BOOT_BANK_STAT_W1 (b : Nat) : Nat := 0xf0004 + 8 * b
def BOOT_BANK_STAT_GENERATION (b : Nat) : Fld := ⟨BOOT_BANK_STAT_W1 b, 0, 32⟩
def BOOT_DIGEST (i : Nat) : Nat := 0xf0020 + 4 * i
def BOOT_DIGEST_DIGEST (i : Nat) : Fld := ⟨BOOT_DIGEST i, 0, 32⟩
def BOOT_IMAGE_W0 : Nat := 0xf0040
def BOOT_IMAGE_IMAGE_ID : Fld := ⟨BOOT_IMAGE_W0, 0, 32⟩
def BOOT_IMAGE_W1 : Nat := 0xf0044
def BOOT_IMAGE_FLAVER : Fld := ⟨BOOT_IMAGE_W1, 0, 32⟩
def BOOT_TIME_W0 : Nat := 0xf0048
def BOOT_TIME_TOTAL_US : Fld := ⟨BOOT_TIME_W0, 0, 32⟩
def BOOT_TIME_W1 : Nat := 0xf004c
def BOOT_TIME_NVM_US : Fld := ⟨BOOT_TIME_W1, 0, 32⟩
def BOOT_REFUSAL_W0 (i : Nat) : Nat := 0xf0080 + 8 * i
def BOOT_REFUSAL_VALID (i : Nat) : Fld := ⟨BOOT_REFUSAL_W0 i, 31, 1⟩
def BOOT_REFUSAL_SOURCE (i : Nat) : Fld := ⟨BOOT_REFUSAL_W0 i, 30, 1⟩
def BOOT_REFUSAL_BANK (i : Nat) : Fld := ⟨BOOT_REFUSAL_W0 i, 29, 1⟩
def BOOT_REFUSAL_CODE (i : Nat) : Fld := ⟨BOOT_REFUSAL_W0 i, 16, 8⟩
def BOOT_REFUSAL_RECORD (i : Nat) : Fld := ⟨BOOT_REFUSAL_W0 i, 0, 16⟩
def BOOT_REFUSAL_W1 (i : Nat) : Nat := 0xf0084 + 8 * i
def BOOT_REFUSAL_DETAIL (i : Nat) : Fld := ⟨BOOT_REFUSAL_W1 i, 0, 32⟩
def BOOT_UPD_CTRL : Nat := 0xf0100
def BOOT_UPD_CTRL_BANK : Fld := ⟨BOOT_UPD_CTRL, 8, 1⟩
def BOOT_UPD_CTRL_CMD : Fld := ⟨BOOT_UPD_CTRL, 0, 3⟩
def BOOT_UPD_OFFSET : Nat := 0xf0104
def BOOT_UPD_OFFSET_OFFSET : Fld := ⟨BOOT_UPD_OFFSET, 0, 24⟩
def BOOT_UPD_STAT : Nat := 0xf0108
def BOOT_UPD_STAT_STATE : Fld := ⟨BOOT_UPD_STAT, 29, 3⟩
def BOOT_UPD_STAT_BANK : Fld := ⟨BOOT_UPD_STAT, 28, 1⟩
def BOOT_UPD_STAT_RESULT : Fld := ⟨BOOT_UPD_STAT, 16, 8⟩
def BOOT_UPD_STAT_PAGES : Fld := ⟨BOOT_UPD_STAT, 0, 16⟩
def BOOT_UPD_PAGE (k : Nat) : Nat := 0xf0200 + 4 * k
def BOOT_UPD_PAGE_DATA (k : Nat) : Fld := ⟨BOOT_UPD_PAGE k, 0, 32⟩

/-! ### Block TWN -/

def TWN_CFG : Nat := 0x100000
def TWN_CFG_EN : Fld := ⟨TWN_CFG, 31, 1⟩
def TWN_CFG_GATES : Fld := ⟨TWN_CFG, 30, 1⟩
def TWN_CFG_START_WAIT_MS : Fld := ⟨TWN_CFG, 10, 16⟩
def TWN_CFG_CKPT_MS : Fld := ⟨TWN_CFG, 0, 10⟩
def TWN_STAT : Nat := 0x100004
def TWN_STAT_ROLE : Fld := ⟨TWN_STAT, 29, 3⟩
def TWN_STAT_MIRROR : Fld := ⟨TWN_STAT, 27, 2⟩
def TWN_STAT_MM_CAUSE : Fld := ⟨TWN_STAT, 24, 3⟩
def TWN_STAT_UNIT : Fld := ⟨TWN_STAT, 23, 1⟩
def TWN_STAT_LINK_UP : Fld := ⟨TWN_STAT, 22, 1⟩
def TWN_STAT_ALIVE_OK : Fld := ⟨TWN_STAT, 21, 1⟩
def TWN_STAT_PARTNER_ROLE : Fld := ⟨TWN_STAT, 18, 3⟩
def TWN_STAT_DIGEST_MATCH : Fld := ⟨TWN_STAT, 17, 1⟩
def TWN_EPOCH : Nat := 0x100008
def TWN_EPOCH_EPOCH : Fld := ⟨TWN_EPOCH, 0, 32⟩
def TWN_CKPT_STAT_W0 : Nat := 0x100010
def TWN_CKPT_STAT_NUMBER : Fld := ⟨TWN_CKPT_STAT_W0, 0, 31⟩
def TWN_CKPT_STAT_W1 : Nat := 0x100014
def TWN_CKPT_STAT_AGE_US : Fld := ⟨TWN_CKPT_STAT_W1, 0, 32⟩
def TWN_CKPT_STAT_W2 : Nat := 0x100018
def TWN_CKPT_STAT_SKIPPED : Fld := ⟨TWN_CKPT_STAT_W2, 16, 16⟩
def TWN_CKPT_STAT_BAD : Fld := ⟨TWN_CKPT_STAT_W2, 0, 16⟩
def TWN_CKPT_STAT_W3 : Nat := 0x10001c
def TWN_CKPT_STAT_CORE_BYTES : Fld := ⟨TWN_CKPT_STAT_W3, 16, 16⟩
def TWN_CKPT_MT_LO : Nat := 0x100020
def TWN_CKPT_MT_LO_MT : Fld := ⟨TWN_CKPT_MT_LO, 0, 32⟩
def TWN_CKPT_MT_HI : Nat := 0x100024
def TWN_CKPT_MT_HI_MT : Fld := ⟨TWN_CKPT_MT_HI, 0, 32⟩
def TWN_CKPT_MT_SNAP : Nat := 0x100028
def TWN_CKPT_MT_SNAP_SNAP : Fld := ⟨TWN_CKPT_MT_SNAP, 0, 8⟩
def TWN_GATE_COVER : Nat := 0x10002c
def TWN_GATE_COVER_NEEDED : Fld := ⟨TWN_GATE_COVER, 16, 16⟩
def TWN_GATE_COVER_HELD : Fld := ⟨TWN_GATE_COVER, 0, 16⟩
def TWN_PARTNER_W0 : Nat := 0x100030
def TWN_PARTNER_SERIAL_W0 : Fld := ⟨TWN_PARTNER_W0, 0, 32⟩
def TWN_PARTNER_W1 : Nat := 0x100034
def TWN_PARTNER_SERIAL_W1 : Fld := ⟨TWN_PARTNER_W1, 0, 32⟩
def TWN_SWAP : Nat := 0x100040
def TWN_SWAP_GO : Fld := ⟨TWN_SWAP, 31, 1⟩
def TWN_SWAP_ABORT : Fld := ⟨TWN_SWAP, 30, 1⟩
def TWN_SWAP_STAT : Nat := 0x100044
def TWN_SWAP_STAT_STATE : Fld := ⟨TWN_SWAP_STAT, 29, 3⟩
def TWN_SWAP_STAT_CAUSE : Fld := ⟨TWN_SWAP_STAT, 24, 5⟩
def TWN_SWAP_STAT_LAST_US : Fld := ⟨TWN_SWAP_STAT, 0, 24⟩
def TWN_LINK_STAT : Nat := 0x100048
def TWN_LINK_STAT_LOCK : Fld := ⟨TWN_LINK_STAT, 31, 1⟩
def TWN_LINK_STAT_BAD_CRC : Fld := ⟨TWN_LINK_STAT, 0, 16⟩
def TWN_CNT_W0 : Nat := 0x100050
def TWN_CNT_TAKEOVERS : Fld := ⟨TWN_CNT_W0, 0, 32⟩
def TWN_CNT_W1 : Nat := 0x100054
def TWN_CNT_SWAPS : Fld := ⟨TWN_CNT_W1, 0, 32⟩
def TWN_CNT_W2 : Nat := 0x100058
def TWN_CNT_LINK_DOWNS : Fld := ⟨TWN_CNT_W2, 0, 32⟩
def TWN_CNT_W3 : Nat := 0x10005c
def TWN_CNT_ALIVE_LOSSES : Fld := ⟨TWN_CNT_W3, 0, 32⟩
def TWN_TAKE_TIME : Nat := 0x100060
def TWN_TAKE_TIME_US : Fld := ⟨TWN_TAKE_TIME, 0, 32⟩

/-! ### Block PWR -/

def PWR_FEED_STAT : Nat := 0x110000
def PWR_FEED_STAT_SEL : Fld := ⟨PWR_FEED_STAT, 31, 1⟩
def PWR_FEED_STAT_A_OK : Fld := ⟨PWR_FEED_STAT, 30, 1⟩
def PWR_FEED_STAT_B_OK : Fld := ⟨PWR_FEED_STAT, 29, 1⟩
def PWR_FEED_STAT_TEST : Fld := ⟨PWR_FEED_STAT, 28, 1⟩
def PWR_FEED_STAT_VA : Fld := ⟨PWR_FEED_STAT, 12, 12⟩
def PWR_FEED_STAT_VB : Fld := ⟨PWR_FEED_STAT, 0, 12⟩
def PWR_FEED_CFG : Nat := 0x110004
def PWR_FEED_CFG_REVERT_MS : Fld := ⟨PWR_FEED_CFG, 0, 16⟩
def PWR_FEED_TEST : Nat := 0x110008
def PWR_FEED_TEST_GO : Fld := ⟨PWR_FEED_TEST, 31, 1⟩
def PWR_FEED_TEST_TEST_MS : Fld := ⟨PWR_FEED_TEST, 0, 16⟩
def PWR_FEED_TEST_STAT : Nat := 0x11000c
def PWR_FEED_TEST_STAT_RESULT : Fld := ⟨PWR_FEED_TEST_STAT, 30, 2⟩
def PWR_FEED_TEST_STAT_VB_MIN : Fld := ⟨PWR_FEED_TEST_STAT, 0, 12⟩
def PWR_DOM_CTL_W0 : Nat := 0x110010
def PWR_DOM_CTL_AFE : Fld := ⟨PWR_DOM_CTL_W0, 0, 32⟩
def PWR_DOM_CTL_W1 : Nat := 0x110014
def PWR_DOM_CTL_FIA : Fld := ⟨PWR_DOM_CTL_W1, 17, 1⟩
def PWR_DOM_CTL_ENG : Fld := ⟨PWR_DOM_CTL_W1, 0, 17⟩
def PWR_DOM_STAT_W0 : Nat := 0x110018
def PWR_DOM_STAT_AFE : Fld := ⟨PWR_DOM_STAT_W0, 0, 32⟩
def PWR_DOM_STAT_W1 : Nat := 0x11001c
def PWR_DOM_STAT_FIA : Fld := ⟨PWR_DOM_STAT_W1, 17, 1⟩
def PWR_DOM_STAT_ENG : Fld := ⟨PWR_DOM_STAT_W1, 0, 17⟩
def PWR_RAIL_STAT : Nat := 0x110020
def PWR_RAIL_STAT_GOOD : Fld := ⟨PWR_RAIL_STAT, 0, 6⟩
def PWR_TEMP : Nat := 0x110030
def PWR_TEMP_TJ : Fld := ⟨PWR_TEMP, 16, 16⟩
def PWR_TEMP_PEAK : Fld := ⟨PWR_TEMP, 0, 16⟩
def PWR_THERM_CFG : Nat := 0x110034
def PWR_THERM_CFG_WARN : Fld := ⟨PWR_THERM_CFG, 0, 16⟩
def PWR_QUIESCE : Nat := 0x110040
def PWR_QUIESCE_KEY : Fld := ⟨PWR_QUIESCE, 24, 8⟩
def PWR_QUIESCE_GO : Fld := ⟨PWR_QUIESCE, 0, 1⟩
def PWR_QCFG : Nat := 0x110044
def PWR_QCFG_DRAIN_MS : Fld := ⟨PWR_QCFG, 0, 16⟩
def PWR_WAKE_S : Nat := 0x110048
def PWR_WAKE_S_S : Fld := ⟨PWR_WAKE_S, 0, 32⟩
def PWR_POWER : Nat := 0x110050
def PWR_POWER_EXC_MW : Fld := ⟨PWR_POWER, 16, 16⟩
def PWR_POWER_HUB_MW : Fld := ⟨PWR_POWER, 0, 16⟩

end Sys2Proof.Machine
end

