-- ==== Sys2Proof/Machine/State.lean ====
section
/-!
DEFINITION. The state of the machine: everything the spec gives the hub, as plain data, and the queue of commands. Register
values whose home is a register of a card stand in one table by address whose unlisted addresses read as the card's reset
value; what has no register, or is wider than one, stands in the structures below. Every default value is the reset value.
-/

namespace Sys2Proof.Machine

/-! ### Machine Time (01_machine_time.md) -/

/-- A Machine Time value turn:slot.fine (R7): turn of 40 bits, slot, and fine in 1/1024 slot. -/
structure MT where
  turn : Nat := 0
  slot : Nat := 0
  fine : Nat := 0
  deriving DecidableEq, Repr

/-- The span of frames that carry REANCHOR (R34): none; open since an off-count REV; closing, when the next frame taken is
the last one flagged. -/
inductive Span where
  | closed | opened | closing
  deriving DecidableEq, Repr

/-- An accepted turn word that still waits for the edge it announces (R23): its TURN, and the slot A + 2 at or after which
that edge lies (absolute slot, or count of the start-up flywheel before the first anchor). -/
structure TurnWord where
  turn : Nat
  notBefore : Int
  deriving DecidableEq, Repr

/-- The MT counter and the timing inputs. -/
structure MtCounter where
  /-- Extended turn (R27): the 40-bit turn extended by the wrap count, 0 at the first anchor. -/
  turn : Int := 0
  slot : Nat := 0
  /-- The start-up flywheel of R30: slots counted since UNANCHORED was entered, none before its first edge. -/
  fly : Option Nat := none
  /-- Anchored since arm: MT has a value (R30). -/
  anchored : Bool := false
  /-- The extended turn has been placed since boot, so a later first anchor is placed near it (R27). -/
  placed : Bool := false
  /-- An on-count REV has been seen since the last flywheel wrap, the wrap's own edge included (R35). -/
  revSeen : Bool := false
  /-- Consecutive missing markers (R35). -/
  missRun : Nat := 0
  /-- The turn words waiting for their edges, in the order of acceptance (R23, R37, R43). -/
  turnWords : List TurnWord := []
  /-- After a re-lock: the absolute slot up to which the first turn word is still used (R43). -/
  adoptUntil : Option Int := none
  /-- Slots for which MT.STATE.MMSG_SEEN stays set: 16 turns from the last word accepted. -/
  seenLeft : Nat := 0
  span : Span := .closed
  /-- Extended turn whose frames all carry REANCHOR after a turn was set (R43). -/
  turnFlag : Option Int := none
  /-- Absolute slot at the end of the last measurement window that met R18 (R39). -/
  lastGood : Int := 0
  /-- Absolute slot of the previous frame tick. -/
  lastTick : Option Int := none
  /-- The slot-clock edge of the previous frame tick, as an absolute slot of the count in force: it moves with the count, so the
  difference to the count is physical slots (R38). -/
  lastEdge : Option Int := none
  /-- Slot-clock edges counted since reset, whatever MT does. -/
  clock : Nat := 0
  /-- Breaks of the cadence so far: re-anchors, turn corrections and skipped ticks (R241). -/
  breaks : Nat := 0
  /-- The edge of `clock` at or after which the first bit of the next MMSG word lies (R22). -/
  wordFrom : Int := -64
  /-- The edge of `clock` at which REV was last sampled high (R17). -/
  revHigh : Option Nat := none
  /-- BCLK over the last complete window that met R18, and over a window that met it again after a loss, in units of 100 Hz
  (R39). -/
  heldFreq : Nat := 0
  backFreq : Option Nat := none
  /-- MMSG bits of the pattern vector that wait for their frame, each with its effective slot A + 2 (R25). -/
  bits : List (Nat × Int) := []
  deriving DecidableEq, Repr

/-- One Timetable entry: its 128 bits (R45), N₀ on the extended turn (R27, R47), the instances executed or skipped so far
(R47, R53), and whether it has executed an instance (R49). -/
structure TtEntry where
  raw : BitVec 128 := 0
  base : Int := 0
  done : Nat := 0
  ran : Bool := false
  deriving DecidableEq, Repr

/-- An ON_EVENT action that waits for its effective slot E (R58, R482). -/
structure EvAction where
  entry : Nat
  code : Nat
  arg : Nat
  due : Int
  late : Bool := false
  /-- E as it was fixed at acceptance, which the mark of a late action still carries (R217, R482). -/
  eff : Int := due
  deriving DecidableEq, Repr

/-- The Timetable (R45-R58). -/
structure Timetable where
  entries : SMap TtEntry := []
  /-- The commit that waits for the next slot boundary (R55), or for the first anchor (R481). -/
  commit : Option (Nat × BitVec 128) := none
  actions : List EvAction := []
  /-- Instances carried over the limit of 32: entry and the slot in which it fell due (R51). -/
  carried : List (Nat × Int) := []
  /-- Late one-shots with LATE = NOW: entry, due slot, and slot W + 1 of execution (R53). -/
  lateNow : List (Nat × Int × Int) := []
  /-- The slot the count below belongs to, and the instances other than ticks and launches executed in it (R51). -/
  slotOf : Int := 0
  slotCount : Nat := 0
  deriving DecidableEq, Repr

/-! ### Input cells, excitation and sensor checks (02_input_cells.md) -/

/-- A CA range switch, or the hand-over of a CA input, that waits for the frame after its tick: old and new range, q_est in
units of 2^-22 fC times `den`, and its denominator (R72, R101). -/
structure RangeSwitch where
  oldRange : Nat := 0
  newRange : Nat := 0
  /-- The frame of the switching tick k: its conversion gives the estimate, and that of the frame after it takes it. -/
  frame : Nat := 0
  num : Int := 0
  den : Nat := 1
  /-- The switch is a hand-over to the spare (some true) or back (some false) (R101). -/
  spare : Option Bool := none
  deriving DecidableEq, Repr

/-- A period sum of the lock-in, in phase and quadrature, with the tick that opened its period (R90, R97). -/
structure ToneSum where
  i : Int := 0
  q : Int := 0
  opened : MT := {}
  deriving DecidableEq, Repr

/-- What an input holds beyond its registers. -/
structure Cell where
  /-- The comparators as the signal has them, before freeze and FAULT (R83, R86, R87). -/
  rawHi : Bool := false
  rawLo : Bool := false
  rawSw : Bool := false
  /-- Frames after this tick for which the comparators stay frozen (R86). -/
  freeze : Nat := 0
  /-- Frames from the next one on that are to be marked SETTLING (R132-R134). -/
  settle : Nat := 0
  /-- SETTLING until calibration is younger than CAL_AGE_LIMIT, after the exit from Quiescent (R133). -/
  settleWake : Bool := false
  /-- FAULT confirmed by the Dipstick or by the open string, or of source CELL; what is confirmed waits for the next tick (R96,
  R97, R98, R130). -/
  dipFault : Bool := false
  strFault : Bool := false
  cellFault : Bool := false
  onset : MT := {}
  /-- FAULT by the excitation's current limit or open sense: latched, and cleared under R98 (R77, R98). -/
  excFault : Bool := false
  /-- The source under which FAULT was reported: 0 DIPSTICK, 1 STRING, 2 CELL (R97, R103). -/
  source : Option Nat := none
  /-- The ball's open-detect comparator reads high, and has given FAULT_SUSPECT (R94, R95). -/
  openHi : Bool := false
  suspect : Bool := false
  /-- A clear request kept under R98. -/
  clear : Bool := false
  /-- Consecutive tone periods whose sliding estimate lay in band (R98). -/
  inBand : Nat := 0
  /-- The last period sums of the lock-in, newest first (R90), the periods since restart, and the number of the last tone period
  whose end came in. -/
  sums : List ToneSum := []
  periods : Nat := 0
  lastPeriod : Option Nat := none
  capture : Bool := false
  /-- A write to DIP_BASE that waits for the end of the tone period (R102). -/
  baseDue : Option Word := none
  /-- Charge mode: y[k-1] (R67), n of the last removal (R66), the last charge in units of 2^-22 fC with the frame it was
  measured in, none where that frame was FILL or FAULT (R72). -/
  yPrev : Int := 0
  nPrev : Int := 0
  q1 : Int := 0
  q1Frame : Option Nat := none
  /-- The frame whose y counts as 0 (R70), and the zeroing frame, of which and before which no charge is counted. -/
  zeroY : Option Nat := none
  zeroFrame : Option Nat := none
  /-- The amplifier is released with y = 0 at the next tick (R70). -/
  release : Bool := false
  /-- A planned swap closes the switch of this CA input after its next frame, so that the frame after it is SETTLING (R441). -/
  closing : Bool := false
  zeroDue : Bool := false
  /-- The charge of a gated interval went uncounted: INEXACT is set at the first tick after power-up (R70). -/
  gap : Bool := false
  /-- Cumulative charge in units of 2^-22 fC (R68), and INEXACT. -/
  qacc : Int := 0
  inexact : Bool := false
  /-- Range switches and hand-overs whose two frames have not both been converted (R71, R72, R101). -/
  switch : List RangeSwitch := []
  deriving DecidableEq, Repr

/-- What a group holds beyond its registers. -/
structure Group where
  /-- Frames for which the load has to stay low, and the sense restored, are counted by the sender of the end commands; these
  say that the excitation fault of R77, or the string fault of R82, applies. -/
  limitFault : Bool := false
  senseFault : Bool := false
  stringFault : Bool := false
  stringOnset : MT := {}
  /-- The baseline of R82 in µV, none while no decision is made. -/
  baseline : Option Nat := none
  /-- Primaries declared failed, and the spare itself (R129, R130). -/
  failed : BitVec 16 := 0
  spareFailed : Bool := false
  /-- The input a changed SPARE_FIX names, joined after the hand-back (R129). -/
  fixNext : Option Nat := none
  /-- The frame number and the absolute slot of the tick since which the spare has been settling on the input it joins or leaves
  (R100). -/
  settleFrom : Nat × Int := (0, 0)
  deriving DecidableEq, Repr

/-- Cells and groups. -/
structure Afe where
  cells : SMap Cell := []
  groups : SMap Group := []
  /-- The last 16 lead measurements by input, newest first (R80). -/
  leads : SMap (List Nat) := []
  /-- Frames taken since the Dipstick restarted (R88, R92), none while no series has started. -/
  dipFrames : Option Nat := none
  /-- The ticks that opened the last two tone periods, newest first (R97). -/
  dipTicks : List MT := []
  deriving DecidableEq, Repr

/-! ### Frames and conversion (03_frames_conversion.md) -/

/-- A coefficient set of a cell for one mode and one gain or range: offset, gain in Q2.22, and the quantum Q_R (R124, R381). -/
structure Coef where
  offset : Int := 0
  gain : Nat := 0x400000
  qr : Nat := 0x200000
  deriving DecidableEq, Repr

/-- A conversion that is scheduled or runs: the input with what held at its tick or capture (R110, R119, R126). -/
structure Conv where
  input : Nat := 0
  frame : Nat := 0
  tick : Int := 0
  holdover : Bool := false
  reanchor : Bool := false
  urgent : Bool := false
  defer : Bool := false
  slot : Nat := 0
  shift : Nat := 0
  redo : Bool := false
  mode : Nat := 0
  /-- GAIN, or CA_RANGE in CA mode. -/
  setting : Nat := 0
  spare : Bool := false
  fault : Bool := false
  settling : Bool := false
  calStep : Bool := false
  /-- The amplifier is released at this tick, so the word carries value 0 (R70). -/
  zero : Bool := false
  /-- The lead correction in Q0.24 (R80, R81), and the coefficients of the cell that converts, as they stand at the tick or the
  capture (R125, R132). -/
  lead : Nat := 0
  coef : Coef := {}
  /-- The slot-clock edge from which `slot` counts, as an absolute slot of the count in force: that of the tick of the frame in whose
  sequence the conversion stands, or of a grid instance without a tick (R110, R122, R123). -/
  base : Int := 0
  /-- Captures are numbered in their order (R123). -/
  ord : Nat := 0
  /-- Breaks of the cadence before the tick (R241). -/
  cad : Nat := 0
  sw : Bool := false
  hi : Bool := false
  lo : Bool := false
  deriving DecidableEq, Repr

/-- What an ADC holds beyond its registers. -/
structure Adc where
  /-- Positions used in the running frame and, by captures with u = P, in the next one (R118). -/
  used : Nat := 0
  usedNext : Nat := 0
  /-- Slots of the running frame that hold an urgent or deferred conversion (R119). -/
  busy : List Nat := []
  /-- Captures deferred to the next frame, in capture order (R122). -/
  deferred : List Conv := []
  /-- The slot shift of the running frame. -/
  shift : Nat := 0
  /-- Captures of the last window with u = P, which are served in slot 0 of the next frame (R118). -/
  atZero : List Conv := []
  /-- The result queue: the words converted since the last tick, oldest first; its readers have drained what came before (R127). -/
  queue : List (BitVec 64) := []
  deriving DecidableEq, Repr

/-- Frames and conversion. -/
structure Frames where
  /-- Frame ticks taken since arm, without wrap (R109). -/
  taken : Nat := 0
  /-- The FRAME_SERIES that runs, and its period in slots; the last one that ran, for R123 and R225. -/
  series : Option Nat := none
  lastPeriod : Nat := 0
  /-- Absolute slot of the next grid instance of the series that runs, or that ran last (R47, R123). -/
  gridNext : Option Int := none
  /-- The first tick of a new series was not taken under R38: the next one that is taken starts it. -/
  restart : Bool := false
  /-- Requests made before the grid instance whose capture instant lies at or after it: input, and the edge after the last tick
  in 1/1024 slot (R118). -/
  spill : List (Nat × Nat) := []
  /-- Conversions scheduled or running, in the order of their frames and slots. -/
  convs : List Conv := []
  adcs : SMap Adc := []
  /-- FILL words of a frame that wait for the last conversions of the one before, so that each frame leaves whole (R131, R241). -/
  fills : List Conv := []
  /-- Captures made so far, which gives each its number. -/
  captures : Nat := 0
  /-- An accepted slot map that waits for the next tick: ADC and the eight words (R115). -/
  mapDue : Option (Nat × List Word) := none
  /-- The maps that take effect at the frame after (R115): ADC and words, applied to the schedule of the next tick. -/
  maps : SMap Word := []
  deriving DecidableEq, Repr

/-! ### Signal engines (04_signal_engines.md) -/

/-- A value with its quality code as it passes through a chain (R147, R8). -/
structure Sample where
  v : Int := 0
  q : Nat := 0
  deriving DecidableEq, Repr

/-- A set of values of one instant on its way through a chain, with the side-band of R142: the MT it carries and that as an
absolute slot, the flags of its frame, the frame period, the position in the Dipstick tone period and its length DIV, the
jumps of MT since the tick before, whether a re-anchor, turn correction or skipped tick lies there, and mode and range of each
input (mode × 8 + range). -/
structure SampleSet where
  mt : MT := {}
  slot : Int := 0
  hold : Bool := false
  re : Bool := false
  period : Nat := 0
  pos : Nat := 0
  div : Nat := 0
  jumps : List (Int × Int) := []
  cross : Bool := false
  /-- Breaks of the cadence before the tick (R241). -/
  cad : Nat := 0
  modes : List Nat := []
  xs : List Sample := []
  deriving DecidableEq, Repr

/-- A stage of a recipe: its kernel code and the parameter words of its banks (R145, R146). -/
structure Stage where
  kernel : Nat := 0
  banks : List (List Word) := []
  deriving DecidableEq, Repr

/-- A recipe as its record gives it (R145): the engine, the source, the input list or range, stages, and taps as
(stage, S16, stream). -/
structure Recipe where
  engine : Nat := 0
  source : Nat := 0
  inputs : List Nat := []
  first : Nat := 0
  last : Nat := 0
  stages : List Stage := []
  taps : List (Nat × Bool × Nat) := []
  /-- The payload of the record, which the recipe shadow holds (R159). -/
  words : List Word := []
  deriving DecidableEq, Repr

/-- What a stage holds for one input: inputs taken and outputs made since the restart, the last input that was neither FILL nor
FAULT, for each quality code the number of the input that carried it last, and the kernel's own values (R148, R150). -/
structure Lane where
  n : Nat := 0
  outs : Nat := 0
  last : Int := 0
  seen : List Nat := [0, 0, 0, 0, 0, 0, 0, 0]
  a : List Int := []
  b : List Int := []
  /-- A block has met a FILL or FAULT input; the first code of its inputs in the order of R9 (R149). -/
  bad : Bool := false
  q : Nat := 0
  deriving DecidableEq, Repr

/-- What a stage holds: its lanes; the first set since the restart; the block or window that is open, by the set that opened
it, its first turn, and whether it was open when the chain started; for RESAMPLE the last ticks and the last grid point; for
DTS_TEMP the last K and whether the reference is lost; for ZONE_ENERGY the launches of the block. -/
structure StageState where
  lanes : List Lane := []
  /-- Sets made since the restart (R166). -/
  made : Nat := 0
  started : Option Int := none
  opened : Option SampleSet := none
  turn : Option Int := none
  partial? : Bool := false
  sets : List SampleSet := []
  emitted : Option Int := none
  kept : Option Int := none
  lost : Bool := false
  deriving DecidableEq, Repr

/-- A frame that a recipe waits for: the samples that have arrived, by position (R142). -/
structure Gather where
  frame : Nat := 0
  set : SampleSet := {}
  got : List (Option Sample) := []
  deriving DecidableEq, Repr

/-- A recipe with its chain beyond SE.RECIPE_STAT. -/
structure RecipeState where
  recipe : Recipe := {}
  chain : List StageState := []
  /-- The bank the chain runs with; SE.RECIPE_STAT shows a new one from the boundary on, which sets of earlier frames may pass. -/
  bank : Nat := 0
  /-- Bank requested, and the slot at or after which the turn boundary of the switch lies (R156). -/
  bankDue : Option (Nat × Int) := none
  /-- Restarts not yet met by a set: the boundary, the first stage that restarts, and the bank from there on (R150). -/
  restarts : List (Int × Nat × Nat) := []
  gather : List Gather := []
  /-- The frame whose words a raw tap carried last (R241). -/
  rawFrame : Option Nat := none
  /-- Words of each of the last frames that a raw tap has still to carry: frame and number, as its tick found them (R241). -/
  rawLeft : List (Nat × Nat) := []
  /-- Outputs paced as FILL since the failure, and the boundary of the takeover, before which every output is FILL (R161). -/
  paced : Nat := 0
  fillTo : Option Int := none
  /-- Zone bits keep their fail state until the stage leaves SETTLING (R162). -/
  failHold : Bool := false
  deriving DecidableEq, Repr

/-- Signal engines and digital thresholds beyond their registers. -/
structure Engines where
  /-- SE.DT_FLAGS: the flag DT[c] of each input (R153). -/
  dt : BitVec 512 := 0
  /-- Consecutive qualifying samples above and below the thresholds, by input (R153). -/
  dtHi : SMap Nat := []
  dtLo : SMap Nat := []
  recipes : SMap RecipeState := []
  /-- The failed engine that waits for the spare, and the slot at or after which its boundary lies (R162). -/
  takeover : Option (Nat × Int) := none
  /-- A planned swap or hand-back that waits for its boundary: engine, hand back, and the slot (R163). -/
  swap : Option (Nat × Bool × Int) := none
  /-- The spare stands in by request, so a failure ends it (R163). -/
  planned : Bool := false
  spareOut : Bool := false
  /-- Engines whose recipe shadow is to be reloaded while the management plane stalls (R4, R330). -/
  shadowDue : List Nat := []
  /-- Moves of MT since the last tick, old and new absolute slot, and whether a re-anchor, a turn correction or a skipped tick
  lies there (R33, R38, R43). -/
  jumps : List (Int × Int) := []
  cross : Bool := false
  deriving DecidableEq, Repr

/-! ### Fibre interrogator (05_fibre_interrogator.md) -/

/-- What a gate keeps of one line (R198): ψ, m, HAVE_PREV, WEAK. -/
structure GateLine where
  psi : Nat := 0
  m : Nat := 0
  havePrev : Bool := false
  weak : Bool := false
  deriving DecidableEq, Repr

/-- The gate record of R198: four lines, PHI and OFF of four groups, Y1, Y2, and the bits RESEED[r]. -/
structure Gate where
  lines : List GateLine := [{}, {}, {}, {}]
  phi : List Nat := [0, 0, 0, 0]
  off : List Nat := [0, 0, 0, 0]
  y1 : Nat := 0
  y2 : Nat := 0
  reseed : Nat := 0
  deriving DecidableEq, Repr

/-- The DTS bin record of R198. -/
structure DtsBin where
  s : Nat := 0
  a : Nat := 0
  sBg : Nat := 0
  aBg : Nat := 0
  sNet : Nat := 0
  aNet : Nat := 0
  q : Nat := 0
  clipped : Bool := false
  deriving DecidableEq, Repr

/-- A record raised at most once per turn: the turn of the last one, and the count since (R201). -/
structure PerTurn where
  turn : Option Int := none
  count : Nat := 0
  deriving DecidableEq, Repr

/-- A strobe of a launch line, or of DTS_STRB (line 4): the slot edge and the measured place of its rising edge after it in
1/1,024 slot, and its width in fibre-clock periods (R169). -/
structure Strobe where
  line : Nat
  slot : Int
  fine : Nat
  width : Nat
  deriving DecidableEq, Repr

/-- The fibre interrogator beyond its registers. -/
structure Fibre where
  gates : SMap Gate := []
  bins : SMap DtsBin := []
  /-- The amplitude snapshot: A[g] of the last launch of line n, at 65,536n + g (R198). -/
  amps : SMap Nat := []
  /-- Launch series that have launched since their start or enable (R190). -/
  known : List Nat := []
  /-- Gauge and tracking values that wait for the switch point: the slot from which a launch meets it, and the value (R200). -/
  gaugeDue : Option (Int × Nat) := none
  trackDue : Option (Int × Word) := none
  /-- Calibration values that wait for a launch of group 0: kind (0 skew, 1 I/Q, 2 DAS_TAP, 3 DTS_TAP), index, value (R200). -/
  calDue : List (Nat × Nat × Nat) := []
  /-- DTS_TAP of the open cycle, and the MT of its first launch (R196, R200). -/
  dtsTap : Nat := 0
  dtsFirst : MT := {}
  /-- Breaks of the cadence before that launch (R241). -/
  dtsCad : Nat := 0
  /-- Gate reseeds not yet counted in FI.CNT (units of 65,536). -/
  reseeds : Nat := 0
  /-- LASER_DIS_N: 0 high impedance, 1 low, 2 high (R170). -/
  drive : Nat := 0
  suppressed : PerTurn := {}
  slips : PerTurn := {}
  /-- Group and gate of the first slip since the last STITCH_SLIP record (R201). -/
  slipFirst : Option (Nat × Nat) := none
  clips : SMap PerTurn := []
  /-- The last strobe of each line (R169). -/
  strobes : List Strobe := []
  /-- Units declared failed, out of service until reset: FADC k at bit k, RADC m at bit 4 + m (R185, R196). -/
  failed : Nat := 0
  /-- Launches of group 0 fired, and their number at the last update of IQ, by polarisation, and of RANGE_ZERO (R374). -/
  group0 : Nat := 0
  iqAt : SMap Nat := []
  rangeAt : Nat := 0
  deriving DecidableEq, Repr

/-! ### Triggers, look-back bursts and trip outputs (06_triggers_trips.md) -/

/-- The window of a frame (R118, R205): from its tick to the next tick that is taken. -/
structure Window where
  /-- Frames counted since arm without wrap; the frame number of R109 is this modulo 65,536. -/
  frame : Nat := 0
  tick : Int := 0
  holdover : Bool := false
  reanchor : Bool := false
  /-- The comparator sources that were 1 at the tick or rose in the window, and those that rose (R205). -/
  high : BitVec 512 := 0
  rose : BitVec 512 := 0
  /-- The first edge of each group: input, offset from the tick in 1/1024 slot (R212); and the later edges (R213). -/
  first : SMap (Nat × Nat) := []
  later : SMap Nat := []
  /-- TRIG_IN balls sampled high in the window, and those that rose (R205). -/
  trigIn : BitVec 16 := 0
  trigRose : BitVec 16 := 0
  /-- MMSG bits of the frame (R25). -/
  mmsg : BitVec 16 := 0
  /-- Fast-form DT states after the evaluation of this frame's words (R205). -/
  dt : BitVec 512 := 0
  /-- Inputs whose channel bit is the digital threshold at the tick, in the fast form and in the engine form (R205, R236). -/
  dtFast : BitVec 512 := 0
  dtEngine : BitVec 512 := 0
  /-- Where a channel bit rose first in the window, in 1/1024 slot after the tick, by input (R214). -/
  riseAt : SMap Nat := []
  /-- Triggers armed for this frame, and those whose previous match counts as none (R208, R209). -/
  armed : BitVec 16 := 0
  renewed : BitVec 16 := 0
  /-- The slots after which auto mode counts boundaries for the armed triggers (R211). -/
  refs : SMap Int := []
  /-- The tick is a turn boundary (R211); HOLDOFF and AUTO_TURNS of each trigger at the tick (R236). -/
  boundary : Bool := false
  cfg : List (Nat × Nat) := []
  /-- The active patterns of the frame: mask and value by trigger (R207, R236). -/
  pats : SMap (Nat × Nat) := []
  deriving DecidableEq, Repr

/-- A look-back burst (R221-R227). Frames are counted since arm without wrap. -/
structure Burst where
  id : Nat := 0
  trg : Nat := 0
  first : Nat := 0
  opener : Nat := 0
  last : Nat := 0
  cap : Nat := 0
  mt : MT := {}
  ntrig : Nat := 0
  short : Bool := false
  /-- Why it closed (R227), none while it is open. -/
  closed : Option Nat := none
  /-- The next frame to emit, once BURST_OPEN has been emitted (R225). -/
  emit : Option Nat := none
  /-- E is fixed and no fire moves it (R220). -/
  fixed : Bool := false
  deriving DecidableEq, Repr

/-- A frame in the Standpipe: its tick, flags, and the containers written so far by input (R218). -/
structure SpFrame where
  tick : Int := 0
  /-- Breaks of the cadence before the tick (R241). -/
  cad : Nat := 0
  holdover : Bool := false
  reanchor : Bool := false
  conts : SMap Word := []
  deriving DecidableEq, Repr

/-- Triggers, Standpipe and trips beyond their registers. -/
structure Trig where
  /-- The window that runs, and those closed but not yet evaluated (R206). -/
  window : Option Window := none
  closedWin : List Window := []
  /-- The frame evaluated last, and its state vector (for bits that rose, R214). -/
  lastEval : Option Nat := none
  prevVec : BitVec 608 := 0
  /-- Triggers that matched in the frame before (R208). -/
  prevMatch : BitVec 16 := 0
  /-- Triggers armed or given a pattern since the last tick (R208). -/
  renewed : BitVec 16 := 0
  pats : SMap (Nat × Nat) := []
  /-- The pattern commit that waits for the next tick: trigger, mask, value (R236). -/
  patDue : Option (Nat × Nat × Nat) := none
  /-- Writes to TRG.ARM held for the slot boundary: ARM and DISARM masks (R209, R481). -/
  armDue : List (Nat × Nat) := []
  /-- Frames of holdoff left (R210). -/
  holdoff : SMap Nat := []
  /-- Auto mode (R211): the slot after which boundaries count, that of the arming or of a new AUTO_TURNS; and the boundaries counted in
  the frames evaluated, with the slot of the count that they belong to. -/
  autoRef : SMap Int := []
  autoCount : SMap Nat := []
  autoSeen : SMap Int := []
  /-- NO_BURST marks since the last record, and whether one was raised in this turn (R237). -/
  noBurst : SMap Nat := []
  noBurstDone : BitVec 16 := 0
  /-- The slot-clock edge at which the flag of a trigger's fire ends, one frame period after the evaluation (R230). -/
  fireEnds : SMap Nat := []
  /-- Zone bits of ZONE_ENERGY (R203). -/
  zones : BitVec 64 := 0
  /-- Outputs whose carrier waits for 1 µs of false condition (R233), those that have carried since the outputs started, and
  whether they started at a takeover (R237). -/
  permitDue : BitVec 16 := 0
  carried : BitVec 16 := 0
  byTakeover : Bool := false
  /-- The carrier divider: slot-clock edges since arm, modulo 4 (R228); and the outputs whose carrier waits for its next high phase
  (R232, R233). -/
  divider : Nat := 0
  starting : BitVec 16 := 0
  /-- When a comparator flag changed last, by its number (R230), in 1/1,024 slot of the slot clock: an input on it counts only after
  FILT × 5 ns without a break (R231). -/
  flagAt : SMap Int := []
  deriving DecidableEq, Repr

/-- The Standpipe (R218-R227). -/
structure Standpipe where
  /-- F₀, none while nothing is recorded since the last restart; and the cause of the restart due at the next tick
  (arm 0, series 1, takeover 2). -/
  f0 : Option Nat := none
  /-- F₀ of the series before, for fires of its frames that are evaluated after the restart (R220, R221). -/
  f0Old : Option Nat := none
  restartDue : Option Nat := none
  frames : SMap SpFrame := []
  burst : Option Burst := none
  /-- Bursts closed, or open, that are still to be emitted, by id order; the open burst is not among them until it closes. -/
  queue : List Burst := []
  lastEnd : Option Nat := none
  /-- Re-arming runs until this frame is recorded (R223), after a close at the cap or not. -/
  rearmTo : Option Nat := none
  capped : Bool := false
  nextId : Nat := 0
  deriving DecidableEq, Repr

/-! ### Streams, the Cistern and the Siphon coder (07_cistern_siphon.md) -/

/-- One container of a packet (R244-R248): a sample with its quality code, a 64-bit result word, or a 32-bit word. -/
inductive Cont where
  | sample (v : Int) (q : Nat)
  | raw (w : BitVec 64)
  | word (w : Word)
  deriving DecidableEq, Repr

/-- A packet as it lies in its ring: the fields of the header of R249 and the words of its body, with the count of units and
the MT of its last set, which the Cistern keeps in its index (R255, R261). -/
structure Packet where
  fmt : Nat := 0
  stream : Nat := 0
  holdover : Bool := false
  reanchor : Bool := false
  epoch : Bool := false
  compressed : Bool := false
  degraded : Bool := false
  start : Bool := false
  stop : Bool := false
  epochNo : Nat := 0
  count : Nat := 0
  seq : Nat := 0
  mt : MT := {}
  lastMt : MT := {}
  body : List Word := []
  /-- The order in which packets closed, over all streams (R287). -/
  closed : Nat := 0
  deriving DecidableEq, Repr

/-- The packet a producer is filling (R242). -/
structure OpenPkt where
  fmt : Nat := 0
  holdover : Bool := false
  reanchor : Bool := false
  epochNo : Nat := 0
  mt : MT := {}
  lastMt : MT := {}
  /-- POS and SETW of the PLACE word (R247). -/
  pos : Nat := 0
  setw : Nat := 1
  conts : List Cont := []
  /-- Words of the Siphon blocks already coded, and the containers they hold (R265). -/
  blocks : List Word := []
  coded : Nat := 0
  shiftMax : Nat := 0
  /-- The Siphon ratio of the packet, 0 uncoded, and whether it is the degraded one (R264, R271). -/
  ratio : Nat := 0
  degraded : Bool := false
  /-- No credit was held when it opened, so it is dropped whole (R258). -/
  dropped : Bool := false
  /-- Absolute slot of its first set or record (R242). -/
  slot : Int := 0
  /-- The consumer has begun to send it, past its cut-through threshold (R252). -/
  cut : Bool := false
  /-- One of its words is uncorrectable (R255). -/
  spoilt : Bool := false
  deriving DecidableEq, Repr

/-- The span a GAP record reports (R261). -/
structure Gap where
  cause : Nat := 0
  pkts : Nat := 0
  seqFirst : Nat := 0
  seqLast : Nat := 0
  units : Nat := 0
  mtFirst : MT := {}
  mtLast : MT := {}
  deriving DecidableEq, Repr

/-- A set, or a record, that a producer has written and that is held until the final checkpoint of a planned swap (R441): what
the operations that put it into a packet take. -/
structure Delivery where
  /-- 0 a set, 1 a record, 2 a raw word. -/
  kind : Nat := 0
  fmt : Nat := 0
  mt : MT := {}
  slot : Int := 0
  setw : Nat := 1
  cad : Nat := 0
  follows : Bool := true
  hold : Bool := false
  re : Bool := false
  first : Bool := false
  last : Bool := false
  urgent : Bool := false
  conts : List Cont := []
  deriving DecidableEq, Repr

/-- A stream with its ring. -/
structure Ring where
  running : Bool := false
  /-- The stream takes sets whose absolute slot lies at or after this (R256). -/
  startAt : Int := 0
  /-- Times the stream ran and was stopped whose last sets may still come: first slot, and the slot of the stop, in order (R256). -/
  spans : List (Int × Int) := []
  startDue : Bool := false
  epochDue : Bool := false
  open? : Option OpenPkt := none
  /-- Closed packets from ACK to WR, oldest first, and how many of them the consumer has taken (TX). -/
  packets : List Packet := []
  sent : Nat := 0
  /-- The producer holds the credit for its next packet (R251). -/
  credit : Bool := true
  /-- The span dropped and not yet reported (R258). -/
  held : Option Gap := none
  flushDue : Bool := false
  /-- Breaks of the cadence before the last set written (R241). -/
  cad : Nat := 0
  /-- Absolute slot of the last set written (R428). -/
  lastSet : Option Int := none
  /-- GAP records that wait for the open packet to close. -/
  gapsDue : List Gap := []
  /-- Greatest packet size of the stream in bytes, P_s of R262, as the boot check found it. -/
  maxPkt : Nat := 272
  /-- The Siphon history of R269. -/
  hist : BitVec 128 := 0
  /-- The next block's history is set to 0 (R268). -/
  hreset : Bool := true
  /-- The ratio of the last sample packet opened (R268: a change from uncoded to coded resets the history). -/
  lastRatio : Option Nat := none
  /-- A loaded history waits for the packet with number SEQ + 1 (R269). -/
  loaded : Bool := false
  /-- A frame of the raw tap is being written: what closes at the end of the set being written waits for its last word, and so
  do records (R242). -/
  inSet : Bool := false
  closeDue : Bool := false
  waiting : List (MT × List Word) := []
  /-- Records of a later start, while a set from before the stop may still come (R256). -/
  later : List (MT × List Word) := []
  /-- Words corrected in the last second (R272). -/
  eccSec : Bool := false
  /-- Sets held until the final checkpoint of a planned swap is applied (R441). -/
  kept : List Delivery := []
  deriving DecidableEq, Repr

/-- The Cistern and the Siphon coder beyond their registers. -/
structure Cistern where
  rings : SMap Ring := []
  /-- Starts and stops written to CIS.STREAM_CTL that wait for the next slot boundary or the first anchor (R256, R481):
  stream, and whether it stops. -/
  ctlDue : List (Nat × Bool) := []
  /-- Writes of SIP.HIST_COMMIT held for the next frame tick, by stream (R3, R269). -/
  histDue : List Nat := []
  /-- Packets closed so far (R287). -/
  closed : Nat := 0
  /-- The link reports three-lane operation, so BULK streams code at DEG_RATIO (R271). -/
  degraded : Bool := false
  deriving DecidableEq, Repr

/-! ### Wilique Link (08_wilique_link.md) -/

/-- A frame as it left a lane: the fields of its SOF, the packet it carries, the LT of its departure, and the pad count and CRC of its
EOF, which is not known while the packet is still being written (R252, R283-R285). -/
structure SentFrame where
  kind : Nat := 0
  retx : Bool := false
  copy : Nat := 0
  num : Nat := 0
  stream : Nat := 0
  seq : Nat := 0
  lt : Nat := 0
  words : Nat := 0
  pad : Nat := 0
  crc : Option Nat := none
  deriving DecidableEq, Repr

/-- The Wilique Link beyond its registers. -/
structure Link where
  /-- DATA frames acknowledged since arm, modulo 2^32: the last ACK plus 1 (R293). -/
  acked : Nat := 0
  /-- DATA frames sent and not acknowledged, oldest first: LSN and stream (R286). -/
  unacked : List (Nat × Nat) := []
  /-- LSNs that wait to be resent, in LSN order (R294). -/
  resend : List Nat := []
  /-- The last GRANT of each stream, and the units consumed since arm (R292). -/
  grant : SMap Nat := []
  used : SMap Nat := []
  /-- The next ILSN, the reply counter, and the AM counter (R288, R283, R281). -/
  ilsn : Nat := 0
  linkNum : Nat := 0
  am : Nat := 0
  /-- The reply words the hub sent last, and those that wait for a state in which frames are sent (R289). -/
  outbox : List (BitVec 64) := []
  waiting : List (BitVec 64) := []
  /-- The last DATA or LINK frame of each physical lane, and the copies of the last INTERLOCK packet on it, which may run inside that
  frame (R288). -/
  lanes : SMap SentFrame := []
  inner : SMap (List SentFrame) := []
  /-- The last TRAIN, AM or ABT block of each physical lane (R277). -/
  ctl : SMap (BitVec 64) := []
  /-- Lanes that are being promoted: physical and logical lane (R296, R298). -/
  swaps : List (Nat × Nat) := []
  /-- LT since which a FAILED lane has been shown locked with no new errors (R298). -/
  goodSince : SMap Nat := []
  /-- The state left for DOWNLINK_LOST or TEST, and the LT at which the downlink was lost (R299). -/
  before : Nat := 0
  lostAt : Nat := 0
  /-- The last 16 READ and WRITE commands, newest first: TAG, ADDR, reply (R295). -/
  cache : List (Nat × Nat × BitVec 64) := []
  /-- DLSN of the last downlink frame. -/
  dlsn : Nat := 0
  /-- RETX was reported in this turn, and the frames not yet reported (R304). -/
  retxDone : Bool := false
  retxMore : Nat := 0
  /-- LT of the last LINK_VIOLATION, and the entries since; the same for PRBS_ERR by lane (R302, R304). -/
  violAt : Option Nat := none
  violNew : Nat := 0
  prbsAt : SMap Nat := []
  prbsNew : SMap Nat := []
  /-- WINDOW_FULL has been raised since the window filled (R286). -/
  windowFull : Bool := false
  deriving DecidableEq, Repr

/-! ### Facility Time and Ethernet (09_facility_time.md) -/

/-- A foreign master: clockIdentity, portNumber, clockClass, the data set its Announce carries, LT of its last Announce, and
whether it is qualified (R311). -/
structure Foreign where
  clock : Nat := 0
  port : Nat := 0
  cls : Nat := 0
  dataset : List Nat := []
  utc : Int := 0
  utcValid : Bool := false
  heard : Nat := 0
  /-- Four of its announce intervals in ns. -/
  span : Nat := 0
  qualified : Bool := false
  deriving DecidableEq, Repr

/-- A two-step Sync that waits for its Follow_Up: sequence number, LT of receipt, correction in ps (R311, R313). -/
structure SyncWait where
  seq : Nat := 0
  lt : Nat := 0
  corr : Int := 0
  deriving DecidableEq, Repr

/-- The base of the cross-check: FT and absolute slot of a record (R318). -/
structure XchkBase where
  ft : Int := 0
  slot : Int := 0
  deriving DecidableEq, Repr

/-- A Delay_Req the hub has sent: addresses, 802.1Q tag, sequence number, and originTimestamp in ns (R311, R312). -/
structure DelayOut where
  dest : Nat := 0
  source : Nat := 0
  tag : Option Nat := none
  seq : Nat := 0
  origin : Nat := 0
  deriving DecidableEq, Repr

/-- An Ethernet frame the hub has sent: destination, source, 802.1Q tag, header word, and the 64-bit words after it (R320-R322). -/
structure EthOut where
  dest : Nat := 0
  source : Nat := 0
  tag : Option Nat := none
  header : Nat := 0
  words : List (BitVec 64) := []
  deriving DecidableEq, Repr

/-- Facility Time and the Ethernet port beyond their registers. FT is kept in units of 10^-12 ns, y in 10^-12, offsets and
delays in ps. -/
structure Facility where
  /-- FT at the LT of the last change of rate, that LT, and the rate since (R306). -/
  ft : Int := 0
  at_ : Nat := 0
  /-- The servo's frequency estimate and the rate y in force (R308). -/
  freq : Int := 0
  y : Int := 0
  masters : List Foreign := []
  selected : Option (Nat × Nat) := none
  waiting : Option SyncWait := none
  /-- t₁ and correction in ps, LT of receipt, of the last complete Sync. -/
  sync : Option (Int × Int × Nat) := none
  /-- Delay_Req sent and not yet answered: sequence number, LT of departure, originTimestamp in ns (R312). -/
  request : Option (Nat × Nat × Nat) := none
  /-- The Delay_Req sent last. -/
  delayOut : Option DelayOut := none
  reqSeq : Nat := 0
  /-- Offsets of the exchanges gathered in ACQUIRE (R314). -/
  gathered : List Int := []
  /-- Path delays of the last 16 exchanges that were not jump samples, newest first, and D_ref (R316). -/
  delays : List Int := []
  dref : Int := 0
  /-- Jump samples in FROZEN: path delay and offset (R317). -/
  jumps : List (Int × Int) := []
  /-- A jump was accepted, so ASYM_SUSPECT stays (R317). -/
  kept : Bool := false
  /-- The ramp after an acceptance: LT of its start and end in ps, and the change of y (R317). -/
  ramp : Option (Nat × Nat × Int) := none
  /-- The next record carries STEP, or ACCEPTED (R310). -/
  stepDue : Bool := false
  acceptedDue : Bool := false
  /-- Extended turn of the last record, and the record itself (R309, R322). -/
  lastTurn : Option Int := none
  record : List Word := []
  base : Option XchkBase := none
  rebase : Bool := false
  /-- MT has jumped since the last record (R318). -/
  moved : Bool := false
  /-- The commands of the Ethernet path: the last 16 with their replies (R321). -/
  cache : List (Nat × Nat × BitVec 64) := []
  reply : Option EthOut := none
  summary : Option EthOut := none
  deriving DecidableEq, Repr

/-! ### Memory, DMA, events and counters (10_memory_dma_events.md) -/

/-- The event controller (R344-R347). -/
structure Events where
  /-- Records that wait for the producer of stream 0, oldest first, at most 512 (R346). -/
  queue : List (List Word) := []
  /-- The one further record each source holds while the queue is full, by arrival (R346). -/
  spill : List (Nat × List Word) := []
  /-- EVT.PEND, bit n for EV[n]. -/
  pend : BitVec 256 := 0
  /-- EVT.COUNT[n].TOTAL and FW_EXTRA. -/
  total : SMap Nat := []
  extra : SMap Nat := []
  /-- EVT.QUEUE.MERGED, and the merges since the last EVT_MERGED report: sources and number. -/
  merged : Nat := 0
  mergedSrc : List Nat := []
  mergedNew : Nat := 0
  /-- LT of the last COUNTER_SAMPLE record (R355). -/
  sampleAt : Option Nat := none
  deriving DecidableEq, Repr

/-- A DMA channel beyond its registers (R334-R342). -/
structure Channel where
  /-- PACE_CTL made the channel ignore paces (R356). -/
  ignorePace : Bool := false
  /-- Absolute slot in which the current transfer started (R337). -/
  began : Int := 0
  /-- The stream the current transfer feeds (R337). -/
  feeds : Option Nat := none
  /-- PACE_MISSED was reported in the current turn, and the starts missed since the last report (R339, R349). -/
  missedReported : Bool := false
  missed : Nat := 0
  deriving DecidableEq, Repr

/-- Memory and DMA. The windows that hold plain bytes are one table by address; an unlisted byte reads 0, because the wipe
zero-fills every memory (R331). -/
structure Memory where
  bytes : SMap Byte := []
  /-- Word addresses that read as uncorrectable (R327), and word addresses that hold a single-bit error. -/
  poison : List Nat := []
  /-- Rows in which the scrubber has found a corrected error on an earlier pass: memory and row (R329). -/
  seenRows : List (Nat × Nat) := []
  /-- The count of free values at which the hub last filled the calibration-capture region (R374), and what of it has been written
  with 0 since. -/
  captured : Option Nat := none
  zeroed : List Nat := []
  /-- Rows repaired: memory, row (R329). -/
  repaired : List (Nat × Nat) := []
  /-- Row copies that run: memory, row, cause (R329). -/
  copying : List (Nat × Nat × Nat) := []
  /-- Memories with corrected words since the last ECC_CORRECTED report (R350). -/
  eccSec : List Nat := []
  /-- Memories whose domain has powered up and whose fill has not been reported (R328). -/
  filling : List Nat := []
  chans : SMap Channel := []
  /-- Channels that a Timetable instance, a COMPLETE or a routed event starts (R339). -/
  paceDue : List Nat := []
  /-- The service dump in progress: address, words, MT at its start (R343). -/
  dump : Option (Nat × Nat × MT) := none
  deriving DecidableEq, Repr

/-- The performance counters (R351-R355). -/
structure Counters where
  count : SMap Nat := []
  /-- The counts at the start of the current PMC window (R354). -/
  base : SMap Nat := []
  /-- LT from which counter 185, which counts REFCLK periods, runs on beyond its count (R351). -/
  refAt : Nat := 0
  deriving DecidableEq, Repr

/-! ### Calibration (11_calibration.md) -/

/-- A calibration value as stored: payload, flags, sequence number, and FT of the measurement in ns (R378). -/
structure CalValue where
  payload : List Word := []
  large : Bool := false
  fallback : Bool := false
  seq : Nat := 0
  ft : Nat := 0
  deriving DecidableEq, Repr

/-- The rotation of a group beyond CAL.GRP_STAT (R362-R366). -/
structure Rotation where
  /-- Inputs to visit, the next one first. -/
  queue : List Nat := []
  /-- The input being visited. -/
  visit : Option Nat := none
  /-- What the visit measured, to be applied at the hand-back; none where it ends without applying. -/
  result : Option CellMeas := none
  /-- A result that differs much and waits for the second visit (R376); the visit's result is journalled as LARGE. -/
  first : Option (Nat × CellMeas) := none
  large : Bool := false
  /-- The visit has measured to its end, so that its hand-back completes it (R362, R376). -/
  measured : Bool := false
  /-- CELL-slot conversions of the freed primary since its measurement began (R362, R366). -/
  convs : Nat := 0
  /-- The input measured in place and its conversions so far (R367), and the frame in which it is switched. -/
  place : Option (Nat × Nat) := none
  placeFrame : Option Nat := none
  /-- A fallback set that waits for its boundary: input and set (R368); and the slot of its last measurement. -/
  fallback : Option (Nat × Coef) := none
  fallbackAt : Int := 0
  /-- REF and EXC trims that wait for a quiet window (R369). -/
  refNext : Option Int := none
  excNext : Option Int := none
  /-- The slots in which they were measured. -/
  refAt : Int := 0
  excAt : Int := 0
  deriving DecidableEq, Repr

/-- Calibration beyond its registers. -/
structure Calib where
  /-- The quiet window in force: absolute slots from its opening up to its end (R45, R370). -/
  quietFrom : Int := 0
  quietTo : Int := 0
  /-- The groups that the window serves, and the one from which its rotation goes on (R370). -/
  served : List Nat := []
  servedFrom : Nat := 0
  /-- The coefficient sets in force, by cell, mode and setting. -/
  sets : SMap Coef := []
  groups : SMap Rotation := []
  /-- The REF and EXC trims in force, by group (R359). -/
  refs : List Int := []
  excs : List Int := []
  /-- Values in force that are kept in NVM, by item, index and setting: as applied, as stored last, and the LT of the last
  entry (R380). -/
  values : SMap CalValue := []
  stored : SMap CalValue := []
  wrote : SMap Nat := []
  /-- LT in ns at which the age of an item was 0, by item and index (R371). -/
  since : SMap Int := []
  /-- Items reported stale (R372). -/
  stale : List Nat := []
  /-- LT in ns at which every age stood at CAL_AGE_LIMIT: the last reset or takeover (R371). -/
  agesFrom : Nat := 0
  /-- The catch-up pass that runs: its cause (0 reset, 1 Quiescent exit) and LT of its start (R371). -/
  pass : Option (Nat × Nat) := none
  /-- Keys whose journal entry waits for the end of a management stall, in their order (R4). -/
  journalDue : List Nat := []
  /-- ADC_STAGE conversions of an ADC not yet used for an update of its trims (R360, R361). -/
  stages : SMap Nat := []
  /-- Writes of CAL.VISIT held for the next frame tick, by input (R3, R365). -/
  visitDue : List Nat := []
  deriving DecidableEq, Repr

/-! ### Image, boot and life-cycle (12_image_boot.md) -/

/-- The fuses (R409, R412, R417): LC fuses burned, RET, serial, key hash, variant. -/
structure Fuses where
  burned : Nat := 0
  retired : Bool := false
  serial : BitVec 64 := 0
  key : BitVec 256 := 0
  variantH : Bool := false
  deriving DecidableEq, Repr

/-- The test access port (R414): the instruction in force (IDCODE after Test-Logic-Reset), what the data register it selects
captures where that is IDCODE or bypass, the boundary register, and the last access of REG_ACCESS: status, address, data. -/
structure Tap where
  ir : Nat := 2
  captured : Word := 0x151204B5
  boundary : List Bool := []
  status : Nat := 0
  addr : Nat := 0
  data : Word := 0
  deriving DecidableEq, Repr

/-- What the CAPACITY record declares (R389, R397). -/
structure Capacity where
  tMin : Nat := 20
  bclkMax : Nat := 45000
  launchMin : Nat := 0
  dtsMin : Nat := 0
  snapRate : List Nat := []
  deriving DecidableEq, Repr

/-- A refusal of the checks: code, record ordinal, detail word (R395, R396). -/
structure Reject where
  code : Nat := 0
  ordinal : Nat := 0
  detail : Nat := 0
  deriving DecidableEq, Repr

/-- Boot, the flash and the life-cycle beyond their registers. -/
structure Boot where
  fuses : Fuses := {}
  /-- The flash by offset; an unlisted byte reads 0xFF, as erased (R386). -/
  nvm : SMap Byte := []
  tap : Tap := {}
  /-- The cause the next boot reports: 0 POWER_ON, 1 RESET_N, 2 LC_CHANGE, 3 THERMAL; and the state before a transition whose
  fuse was burned (R411). -/
  cause : Nat := 0
  lcFrom : Option Nat := none
  cap : Capacity := {}
  /-- Microcode patches applied (R138), as their payload bytes. -/
  patches : List (List Byte) := []
  /-- Pages programmed since BEGIN, the page being programmed, and the bank being erased, checked or written (R406). -/
  pages : List Nat := []
  page : Option (Nat × List Byte) := none
  /-- A bank whose last sector is to be erased when the management plane resumes (R408). -/
  eraseDue : Option Nat := none
  /-- The flash takes the dry run's commit record: its generation and trailer offset (R407). -/
  commit : Option (Nat × Nat) := none
  /-- Time sessions begun since power-up (R307). -/
  sessions : Nat := 0
  /-- The management plane stalls (R4). -/
  stalled : Bool := false
  deriving DecidableEq, Repr

/-! ### The pair (13_twin_pair.md) -/

/-- What a checkpoint holds of a stream (R428): NEXT, MT_NEXT, whether it runs, the flags in force (HOLDOVER, REANCHOR). -/
structure CkptStream where
  next : Nat := 0
  mtNext : MT := {}
  running : Bool := false
  hold : Bool := false
  re : Bool := false
  deriving DecidableEq, Repr

/-- The core of a checkpoint (R428). -/
structure Ckpt where
  epoch : Nat := 0
  number : Nat := 0
  mt : MT := {}
  lt : Nat := 0
  digest : List Word := []
  streams : SMap CkptStream := []
  hists : SMap (BitVec 128) := []
  /-- ENABLE, instances executed, and the slot the next instance is counted from. -/
  entries : SMap (Bool × Nat × Int) := []
  live : SMap TtEntry := []
  armed : BitVec 16 := 0
  matched : BitVec 16 := 0
  holdoff : SMap Nat := []
  auto : SMap Nat := []
  fires : SMap Nat := []
  nextBurst : Nat := 0
  latches : Nat := 0
  trips : SMap Nat := []
  charge : SMap (Int × Bool) := []
  /-- LEAD_MEAS, DIP_BASE, RANGE_ZERO and IQ_CORR by address, and the baselines in µV. -/
  shared : SMap Word := []
  baselines : SMap Nat := []
  ftState : Nat := 0
  y : Int := 0
  freq : Int := 0
  dref : Int := 0
  session : Nat := 0
  /-- FT at the capture in units of 10^-12 ns. -/
  ft : Int := 0
  settings : SMap Word := []
  deriving DecidableEq, Repr

/-- The planned swap as this hub sees it (R440): the absolute slot of H, whether H has passed, LT of GO, streams held until the
final checkpoint, the latches the old hub handed over. -/
structure SwapRun where
  h : Option Int := none
  past : Bool := false
  began : Nat := 0
  held : Bool := false
  latches : Nat := 0
  prepared : Bool := false
  deriving DecidableEq, Repr

/-- The pair beyond its registers. -/
structure Twin where
  /-- A checkpoint is due at the next tick (R427). -/
  ckptDue : Bool := false
  /-- The checkpoint that is being sent, and the number of the next one. -/
  sending : Option Ckpt := none
  number : Nat := 0
  /-- Gate slice to send next, and the one that goes with the checkpoint being sent (R430). -/
  slice : Nat := 0
  sentSlice : Option Nat := none
  /-- The mirror: the last complete checkpoint, and its buffer (0 or 1). -/
  mirror : Option Ckpt := none
  buffer : Nat := 0
  /-- The checkpoint that arrives: its number and the byte ranges of the core received, as offset and length (R429). -/
  arriving : Option Nat := none
  got : List (Nat × Nat) := []
  /-- Bytes of the gate slice that arrives, by offset. -/
  sliceBytes : SMap Byte := []
  slices : List Nat := []
  /-- LT of the last complete checkpoint's capture or receipt. -/
  doneAt : Nat := 0
  /-- The CKPT_ACK the hub sent last: number and result. -/
  acked : Option (Nat × Nat) := none
  /-- Valid heartbeats in a row, any heartbeat since arm, and the partner's unit, epoch and checkpoint (R422, R423). -/
  beats : Nat := 0
  heard : Bool := false
  unit : Nat := 0
  epoch : Nat := 0
  ckpt : Nat := 0
  /-- The partner's mirror state, from its heartbeat (R422). -/
  partnerMirror : Nat := 0
  /-- The partner's role as ALIVE_IN shows it: none before four periods, else whether it is the active duty (R420). -/
  duty : Option Bool := none
  /-- A takeover: D as an absolute slot, its LT, the resume point R, and whether the mirror was CURRENT (R433). -/
  takeover : Option (Int × Nat × Int × Bool) := none
  swap : SwapRun := {}
  /-- The SWAP frame the hub sent last: phase, cause, MT of H. -/
  sent : Option (Nat × Nat × MT) := none
  /-- The HANDOVER frame the hub sent: the latches, and the MT of H. -/
  handed : Option (Nat × MT) := none
  /-- Checkpoints skipped and bad since the last summary (R443). -/
  skipped : Nat := 0
  bad : Nat := 0
  deriving DecidableEq, Repr

/-! ### Power (14_power.md) -/

/-- Power beyond its registers. -/
structure Power where
  /-- The hub is held in power-on reset: no good feed, or VCORE or VMEM out of tolerance (R448). -/
  por : Bool := false
  /-- Feeds isolated because they rose above 3.80 V: bit 0 FEED_A, bit 1 FEED_B (R446). -/
  isolated : Nat := 0
  /-- Rails that faulted since reset, by the bits of PWR.RAIL_STAT (R451). -/
  faulted : Nat := 0
  /-- Quiescent: a request waits for its turn boundary; the turn and LT of entry; whether the drain has ended (R454). -/
  quiesceDue : Bool := false
  entryTurn : Int := 0
  entryLt : Nat := 0
  draining : Bool := false
  /-- Writes to PWR.DOM_CTL held for the first anchor: word and value (R453, R481). -/
  domDue : List (Nat × Word) := []
  /-- The first anchor after an exit sets the turn by elapsed LT (R456). -/
  woke : Bool := false
  /-- An orderly thermal shutdown is under way; the outputs are cut; a warning stands (R457, R458). -/
  shutdown : Bool := false
  /-- LT at which the shutdown began. -/
  shutAt : Nat := 0
  cut : Bool := false
  warned : Bool := false
  deriving DecidableEq, Repr

/-! ### The hub -/

/-- Everything the spec gives the hub but the queue of waiting commands. -/
structure Hub where
  /-- The registers of the cards by address: configuration and status words whose home is the register (00_scope.md). -/
  regs : SMap Word := []
  /-- Live writes that wait for the next frame tick (R3), by address. -/
  staged : SMap Word := []
  /-- The latches and SNAP counts of RL registers, by path and address (R332). -/
  latch : SMap Word := []
  snap : SMap Nat := []
  /-- Local Time in ns (R306). -/
  lt : Nat := 0
  mt : MtCounter := {}
  tt : Timetable := {}
  cis : Cistern := {}
  evt : Events := {}
  mem : Memory := {}
  pmc : Counters := {}
  afe : Afe := {}
  cnv : Frames := {}
  se : Engines := {}
  trg : Trig := {}
  sp : Standpipe := {}
  cal : Calib := {}
  twn : Twin := {}
  wl : Link := {}
  fi : Fibre := {}
  pwr : Power := {}
  ft : Facility := {}
  boot : Boot := {}
  /-- How many free values the run has taken: the model's own counter, not the spec's. -/
  fresh : Nat := 0
  deriving DecidableEq, Repr

/-- The hub right after power-on reset. -/
def Hub.reset : Hub := {}

/-- The machine: the commands that wait, first in first out, and the hub. -/
structure State where
  pending : List Instr := []
  hub : Hub := {}
  deriving DecidableEq, Repr

/-- The machine right after reset: no command waits and every field holds its reset value. -/
def State.reset : State := { pending := [], hub := Hub.reset }

/-- Reasons to stop the machine. The spec gives every command an effect, so no meaning raises one: the type has the one
constructor a closed type needs. -/
inductive Fault where
  /-- Raised by no command. Safe: it is never answered. -/
  | none
  deriving DecidableEq, Repr

/-- Reasons to refuse a command. -/
inductive Refusal where
  /-- Answered by the arm of a command that has no meaning yet, with its mnemonic. Safe: it stops the run. -/
  | notModelled (mnemonic : String)
  deriving DecidableEq, Repr

end Sys2Proof.Machine
end

