-- ==== Sys2Proof/Machine/Ops.lean ====
section
/-!
DEFINITION. The named operations the meanings share: bit fields and check codes, registers and their fields, Machine Time
arithmetic, free values, and raising an event (R344-R347).
-/

namespace Sys2Proof.Machine

/-! ### Numbers and bits -/

/-- Bits [hi:lo] of a number. -/
def bits (w hi lo : Nat) : Nat := w / 2 ^ lo % 2 ^ (hi + 1 - lo)

/-- Bit `n` of a number. -/
def bit (w n : Nat) : Bool := w / 2 ^ n % 2 == 1

/-- A bit of a word set or cleared. -/
def putBit (w n : Nat) (b : Bool) : Nat := if b then w ||| 2 ^ n else if bit w n then w - 2 ^ n else w

/-- A truth value as a bit. -/
def ofBool (b : Bool) : Nat := if b then 1 else 0

/-- The `n`-bit two's complement reading of a number. -/
def signed (n w : Nat) : Int := if w % 2 ^ n < 2 ^ (n - 1) then (w % 2 ^ n : Nat) else (w % 2 ^ n : Nat) - (2 ^ n : Nat)

/-- The `n`-bit two's complement pattern of a number. -/
def unsigned (n : Nat) (x : Int) : Nat := (x % (2 ^ n : Nat)).toNat

/-- Clamp to a range. -/
def clamp (lo hi x : Int) : Int := if x < lo then lo else if hi < x then hi else x

/-- Clamp to 24 bits (sat24 of R147). -/
def sat24 (x : Int) : Int := clamp (-8388608) 8388607 x

/-- n / d rounded to the nearest integer, ties to the even one (convergent rounding, R147). -/
def roundConv (n : Int) (d : Nat) : Int :=
  let q := n / (d : Int)
  let r := n - q * d
  if 2 * r < d then q else if (d : Int) < 2 * r then q + 1 else if q % 2 = 0 then q else q + 1

/-- n / d rounded up. -/
def ceilDiv (n d : Nat) : Nat := if d = 0 then 0 else (n + d - 1) / d

/-- The integer square root, bit by bit from bit `k` down. -/
def isqrtFrom (k n r : Nat) : Nat :=
  match k with
  | 0 => r
  | k + 1 => isqrtFrom k n (if (r + 2 ^ k) * (r + 2 ^ k) ≤ n then r + 2 ^ k else r)

/-- The integer square root of a number below 2^128. -/
def isqrt (n : Nat) : Nat := isqrtFrom 64 n 0

/-- √(n / d) rounded to the nearest integer, ties to the even one. -/
def sqrtConv (n d : Nat) : Nat :=
  if d = 0 then 0 else
  let f := isqrt (n / d)
  let m := (2 * f + 1) * (2 * f + 1) * d
  if m < 4 * n then f + 1 else if m = 4 * n then f + f % 2 else f

/-- A count that stops at `top` (saturating counters of the cards). -/
def satAdd (top a b : Nat) : Nat := if a + b < top then a + b else top

/-- The words of an item wider than 32 bits, high half first (R345). -/
def wide (x : Nat) : List Nat := [x / 2 ^ 32 % 2 ^ 32, x % 2 ^ 32]

/-- The one word of a signed item (R345). -/
def sword (x : Int) : Nat := unsigned 32 x

/-- One step of a check register of `n` bits with polynomial `poly` (R20, R21). -/
def crcStep (n poly reg : Nat) (b : Bool) : Nat :=
  let fb := (bit reg (n - 1)) != b
  let r := reg * 2 % 2 ^ n
  if fb then r ^^^ poly else r

/-- The check register over the low `k` bits of `w`, most significant bit first. -/
def crcOver (n poly : Nat) (w : Nat) (k : Nat) (reg : Nat) : Nat :=
  match k with
  | 0 => reg
  | k + 1 => crcOver n poly w k (crcStep n poly reg (bit w k))

/-- CRC-4 of an ordinary MMSG word over CODE and ARG (R20). -/
def crc4 (codeArg : Nat) : Nat := crcOver 4 0x3 codeArg 20 0

/-- CRC-8 of a turn word over its bits [55:8] (R21). -/
def crc8 (x : Nat) : Nat := crcOver 8 0x07 x 48 0

/-! ### Registers -/

/-- Whether offset `off` from the base of a card is one of its indices. -/
def Card.covers (dims : List (Nat × Nat)) (off : Nat) : Bool :=
  match dims with
  | [] => off == 0
  | (stride, count) :: rest => decide (off / stride < count) && Card.covers rest (off % stride)

/-- The card of a register address; none where no register stands. -/
def cardOf (addr : Nat) : Option Card :=
  (blockCards (addr / 0x10000)).find? (fun c => decide (c.base ≤ addr) && Card.covers c.dims (addr - c.base))

/-- What a register reads as after reset (the cards). Stream 0 reads class SERVICE and RUN_INIT 1 (R273). -/
def regReset (addr : Nat) : Word :=
  if addr = 0x70400 then 0xA0000000 else
  match cardOf addr with
  | some c => BitVec.ofNat 32 c.reset
  | none => 0

/-- The value a field has in a word. -/
def Fld.get (f : Fld) (w : Word) : Nat := w.toNat / 2 ^ f.lo % 2 ^ f.width

/-- A word with a field replaced. -/
def Fld.put (f : Fld) (w : Word) (v : Nat) : Word :=
  BitVec.ofNat 32 (w.toNat - f.get w * 2 ^ f.lo + v % 2 ^ f.width * 2 ^ f.lo)

namespace Hub

/-- A register's stored value. -/
def reg (h : Hub) (a : Nat) : Word := SMap.get regReset h.regs a

/-- Store a register's value. -/
def setReg (a : Nat) (v : Word) (h : Hub) : Hub := { h with regs := SMap.set regReset h.regs a v }

/-- The value of a field. -/
def fld (h : Hub) (f : Fld) : Nat := f.get (h.reg f.addr)

/-- A field of one bit. -/
def flag (h : Hub) (f : Fld) : Bool := h.fld f == 1

/-- The signed value of a field. -/
def sfld (h : Hub) (f : Fld) : Int := signed f.width (h.fld f)

/-- Set a field. -/
def put (f : Fld) (v : Nat) (h : Hub) : Hub := h.setReg f.addr (f.put (h.reg f.addr) v)

/-- Set a field to a signed value. -/
def sput (f : Fld) (v : Int) (h : Hub) : Hub := h.put f (unsigned f.width v)

/-- Count up a field that saturates. -/
def bump (f : Fld) (n : Nat) (h : Hub) : Hub := h.put f (satAdd (2 ^ f.width - 1) (h.fld f) n)

/-- Count up a field that wraps. -/
def bumpMod (f : Fld) (n : Nat) (h : Hub) : Hub := h.put f (h.fld f + n)

/-- Count performance counter `i` up, modulo 2^48 (R351). -/
def tally (i n : Nat) (h : Hub) : Hub :=
  { h with pmc := { h.pmc with
      count := SMap.set (fun _ => 0) h.pmc.count i ((SMap.get (fun _ => 0) h.pmc.count i + n) % 2 ^ 48) } }

/-- Take a free value: the model's counter moves on. -/
def tick (h : Hub) : Hub := { h with fresh := h.fresh + 1 }

/-! ### Machine Time -/

/-- SLOTS_PER_TURN (R26). -/
def spt (h : Hub) : Nat := h.fld MT_TURN_CFG_SPT_M1 + 1

/-- The absolute slot of the count, on the extended turn (R27, R47). -/
def now (h : Hub) : Int := h.mt.turn * h.spt + h.mt.slot

/-- The MT of an absolute slot (R7, R47). -/
def mtAt (h : Hub) (t : Int) : MT :=
  { turn := (t / (h.spt : Int) % (2 ^ 40 : Nat)).toNat, slot := (t % (h.spt : Int)).toNat, fine := 0 }

/-- The MT records carry: that of the count, 0 before the first anchor (R30, R344). -/
def mtNow (h : Hub) : MT := if h.mt.anchored then h.mtAt h.now else {}

end Hub

/-- An MT packed as 64 bits: [61:22] turn, [21:10] slot, [9:0] fine (R217). -/
def MT.pack (m : MT) : Nat := m.turn % 2 ^ 40 * 2 ^ 22 + m.slot % 2 ^ 12 * 2 ^ 10 + m.fine % 2 ^ 10

/-- The MT packed in a 64-bit value. -/
def MT.unpack (x : Nat) : MT := { turn := bits x 61 22, slot := bits x 21 10, fine := bits x 9 0 }

/-- Turn a lies before turn b, as serial numbers (R7). -/
def turnBefore (a b : Nat) : Bool :=
  let d := (b + 2 ^ 40 - a % 2 ^ 40) % 2 ^ 40
  decide (1 ≤ d) && decide (d ≤ 2 ^ 39 - 1)

/-- One MT lies before another: by turn, then slot, then fine (R7). -/
def MT.before (a b : MT) : Bool :=
  if a.turn = b.turn then decide (a.slot < b.slot) || (a.slot == b.slot && decide (a.fine < b.fine))
  else turnBefore a.turn b.turn

/-- The extended turn whose low 40 bits are `t` and which lies within −2^39 to 2^39 − 1 turns of `near` (R27). -/
def extend (near : Int) (t : Nat) : Int :=
  near + signed 40 ((t : Int) - near % (2 ^ 40 : Nat) + (2 ^ 40 : Nat) : Int).toNat

/-- The absolute slot of an MT, on the extended turn nearest to the count. -/
def Hub.slotOf (h : Hub) (m : MT) : Int := extend h.mt.turn m.turn * h.spt + m.slot

/-- The recipes the image loaded, in ascending order. -/
def Hub.loaded (h : Hub) : List Nat := h.se.recipes.map Prod.fst

/-! ### Timetable entries (R45, R57) -/

namespace TtEntry

def type (e : TtEntry) : Nat := e.raw.toNat / 2 ^ 124
def lateNow (e : TtEntry) : Bool := bit e.raw.toNat 123
def enable (e : TtEntry) : Bool := bit e.raw.toNat 122
def startTurn (e : TtEntry) : Nat := bits e.raw.toNat 119 80
def startSlot (e : TtEntry) : Nat := bits e.raw.toNat 79 68
def period (e : TtEntry) : Nat := bits e.raw.toNat 67 48
def count (e : TtEntry) : Nat := bits e.raw.toNat 47 32
def arg (e : TtEntry) : Nat := bits e.raw.toNat 31 0
/-- ON_EVENT: code, action, whether ARG delays, target (R57). -/
def code (e : TtEntry) : Nat := bits e.arg 31 24
def action (e : TtEntry) : Nat := bits e.arg 23 20
def argDelay (e : TtEntry) : Bool := bit e.arg 16
def target (e : TtEntry) : Nat := bits e.arg 15 0

/-- The absolute slot of the next instance (R47). -/
def next (e : TtEntry) : Int := e.base + (e.done * e.period : Nat)

/-- ENABLE set or cleared. -/
def withEnable (b : Bool) (e : TtEntry) : TtEntry :=
  { e with raw := if b then e.raw ||| BitVec.ofNat 128 (2 ^ 122) else e.raw &&& ~~~ BitVec.ofNat 128 (2 ^ 122) }

/-- A series with a COUNT has no instance left after `done` of them; a one-shot has one (R47). -/
def spent (e : TtEntry) : Bool :=
  if e.period = 0 then decide (1 ≤ e.done) else e.count != 0 && decide (e.count ≤ e.done)

end TtEntry

namespace Hub

/-- Timetable entry `i`. -/
def entry (h : Hub) (i : Nat) : TtEntry := SMap.get (fun _ => {}) h.tt.entries i

def setEntry (i : Nat) (e : TtEntry) (h : Hub) : Hub :=
  { h with tt := { h.tt with entries := SMap.set (fun _ => {}) h.tt.entries i e } }

/-! ### Events -/

/-- An occurrence with a code accepted in slot `a` schedules the actions of the ON_EVENT entries that bind it: E is a + 2,
or a + 2 + ARG with ARG_DELAY, fixed as an absolute slot (R57, R58, R482). Before the first anchor it acts on nothing (R23). -/
def scheduleCode (code arg : Nat) (a : Int) (h : Hub) : Hub :=
  if h.mt.anchored then
    let acts := h.tt.entries.filterMap fun (i, e) =>
      if e.type = 11 ∧ e.enable ∧ e.code = code then
        some { entry := i, code := code, arg := arg, due := a + 2 + (if e.argDelay then (arg : Int) else 0) : EvAction }
      else none
    { h with tt := { h.tt with actions := h.tt.actions ++ acts } }
  else h

/-- The route of a source (R347). -/
def routed (h : Hub) (f : Nat → Fld) (src : Nat) : Bool := h.flag (f src)

/-- A record of R344: its first word holds KIND 15, the source, the cause, MERGED and the number of detail words. -/
def eventRecord (h : Hub) (m : MT) (src cause : Nat) (detail : List Nat) : List Word :=
  (BitVec.ofNat 32 (15 * 2 ^ 28 + src * 2 ^ 20 + cause * 2 ^ 12 + detail.length) ::
    (wide m.pack ++ wide h.lt ++ detail).map (BitVec.ofNat 32))

/-- A record with one more occurrence merged into it, MERGED saturating (R344, R346). -/
def mergeRecord : List Word → List Word
  | [] => []
  | w :: rest => if bits w.toNat 11 4 < 255 then (w + 16) :: rest else w :: rest

/-- A record joins the queue, or waits as its source's one further record, or is merged into that (R346). -/
def enqueueRecord (src : Nat) (r : List Word) (ev : Events) : Events :=
  if ev.queue.length < 512 ∧ ev.spill = [] then { ev with queue := ev.queue ++ [r] }
  else if ev.spill.any (fun p => p.1 == src) then
    { ev with spill := ev.spill.map (fun p => if p.1 = src then (p.1, mergeRecord p.2) else p)
              merged := satAdd 65535 ev.merged 1
              mergedSrc := if src ∈ ev.mergedSrc then ev.mergedSrc else ev.mergedSrc ++ [src]
              mergedNew := ev.mergedNew + 1 }
  else { ev with spill := ev.spill ++ [(src, r)] }

/-- An occurrence is counted, its record queued and the firmware's entry set, where its source's routes say so (R344-R347). -/
def takeEvent (h : Hub) (m : MT) (src cause : Nat) (detail : List Nat) : Events :=
  let ev := h.evt
  let ev := { ev with total := SMap.set (fun _ => 0) ev.total src (satAdd (2 ^ 24 - 1) (SMap.get (fun _ => 0) ev.total src) 1) }
  let ev := if h.flag (EVT_ROUTE_REC src) then enqueueRecord src (h.eventRecord m src cause detail) ev else ev
  if h.flag (EVT_ROUTE_FW src) then
    if ev.pend.getLsbD src then
      { ev with extra := SMap.set (fun _ => 0) ev.extra src (satAdd 255 (SMap.get (fun _ => 0) ev.extra src) 1) }
    else { ev with pend := ev.pend ||| BitVec.ofNat 256 (2 ^ src) }
  else ev

/-- The Timetable route of a source (R347, R482). -/
def routeTt (src : Nat) (h : Hub) : Hub :=
  if h.flag (EVT_ROUTE_TT src) then h.scheduleCode (h.fld (EVT_ROUTE_CODE src)) 0 h.now else h

/-- The DMA route of a source: a pace falls due for its channel (R339, R347). -/
def routeDma (src : Nat) (h : Hub) : Hub :=
  let due := if h.flag (EVT_ROUTE_DMA src) then h.mem.paceDue ++ [h.fld (EVT_ROUTE_CHANNEL src)] else h.mem.paceDue
  { h with mem := { h.mem with paceDue := due } }

/-- An occurrence of EV[src], with the MT its record carries (R344-R347). It is counted, and goes where the source's route
sends it: a record for stream 0, a pending firmware entry, an action of the Timetable, the start of a DMA channel. -/
def raiseAt (m : MT) (src cause : Nat) (detail : List Nat) (h : Hub) : Hub :=
  let h : Hub := { h with evt := h.takeEvent m src cause detail }
  Hub.routeDma src (Hub.routeTt src ((h.tally 189 1).tally 190 (ofBool (h.flag (EVT_ROUTE_FW src)))))

/-- An occurrence at the current MT. -/
def raise (src cause : Nat) (detail : List Nat) (h : Hub) : Hub := h.raiseAt h.mtNow src cause detail

/-- LT moves on by the time that has passed: a free number of REFCLK periods of 10 ns (R306). -/
def passTime (h : Hub) : Hub := { h with lt := (h.lt + 10 * Config.ltStep h.fresh) % 2 ^ 64, fresh := h.fresh + 1 }

/-- LT is a count of 64 bits (R306), wherever a command has taken it. -/
def wrapTime (h : Hub) : Hub := { h with lt := h.lt % 2 ^ 64 }

/-- The slot clock in units of 100 Hz: the last measurement of BCLK; while BCLK is lost, the held frequency of the last window
that met R18; the nominal frequency while there was none (R39). -/
def bclk (h : Hub) : Nat :=
  let f := h.fld MT_BCLK_MEAS_FREQ
  if f ≠ 0 then f else if h.mt.heldFreq ≠ 0 then h.mt.heldFreq else 10 * h.fld MT_BCLK_NOM_KHZ

end Hub

/-- Nothing but the always-on domain runs: power-on reset (R448), the Quiescent state (R454), a hardware cut (R457), and a thermal
shutdown from 2 ms on (R458). -/
def Hub.dark (h : Hub) : Bool :=
  h.pwr.por || h.fld DEV_STATE_STEP == 8 || h.pwr.cut || (h.pwr.shutdown && decide (h.pwr.shutAt + 2000000 ≤ h.lt))

/-- The form of the meanings of the always-on domain (R452): the command acts at an LT of its own, and answers a next state; the
queue stays. -/
def State.onAon (f : Hub → Hub) (s : State) : Host.Outcome State Fault Refusal :=
  .next { s with hub := (f s.hub.passTime).wrapTime }

/-- The form of every other meaning: the same, but that a dark hub does nothing. -/
def State.onHub (f : Hub → Hub) (s : State) : Host.Outcome State Fault Refusal :=
  s.onAon fun h => if h.dark then h else f h

end Sys2Proof.Machine
end

