-- ==== Sys2Proof/Machine/Access.lean ====
section
/-!
DEFINITION. Which path may write what (R11, R12, R403, R410, R413), and what becomes of a refused access (R302, R326, R350).
-/

namespace Sys2Proof.Machine

/-- What becomes of a register access. -/
inductive Outcome where
  | done | locked | badAddr | badState | unreachable
  deriving DecidableEq, Repr

/-- NAK codes of R302. -/
def Outcome.nak : Outcome → Nat
  | .locked => 3 | .badAddr => 4 | .badState => 12 | _ => 0

namespace Hub

/-- The life-cycle state (R409): 0 BLANK, 1 COMMISSION, 2 OPERATE, 3 SERVICE, 4 RETIRED. -/
def lc (h : Hub) : Nat := h.fld DEV_STATE_LC

/-- The step of the boot (R399). -/
def bootStep (h : Hub) : Nat := h.fld DEV_STATE_STEP

/-- A field with an access code may be written in the life-cycle state (R11, R410). -/
def writable (h : Hub) (a : Access) : Bool :=
  match a with
  | .LV | .W1C | .WO => h.lc != 4
  | .RW => h.lc != 2 && h.lc != 4
  | .RO | .LK | .RL => false

/-- The link carries commands (R413). -/
def linkUp (h : Hub) : Bool := h.fld WL_STAT_STATE == 4 || h.fld WL_STAT_STATE == 5 || h.fld WL_STAT_STATE == 6

/-- Whether a path reaches the registers for a write, and what a write over it gets otherwise (R403, R413). While the management
plane stalls the MC writes nothing (R4); in the Quiescent state nothing but AON runs (R454). -/
def pathWrites (h : Hub) (p : Path) : Outcome :=
  let armed := h.bootStep == 6 || h.bootStep == 7
  match p with
  | .mc => if [0, 8, 9].contains h.bootStep || h.boot.stalled then .unreachable else .done
  | .jtag => if h.lc == 2 || h.lc == 4 || [0, 8, 9].contains h.bootStep then .unreachable else .done
  | .downlink => if !h.linkUp then .unreachable else if armed then .done else .badState
  | .ethernet => if h.bootStep < 4 || 8 ≤ h.bootStep then .unreachable else if armed then .done else .badState

/-! ### Refused accesses -/

/-- An entry of the violation log (R302); LINK_VIOLATION is raised at most once per millisecond. -/
def violation (source code opcode dlsn detail : Nat) (h : Hub) : Hub :=
  let i := h.fld WL_VLOG_CNT_HEAD
  let h := h.setReg (WL_VLOG_W0 i) (BitVec.ofNat 32 (source * 2 ^ 30 + code % 64 * 2 ^ 24 + opcode % 256 * 2 ^ 16 + dlsn % 65536))
  let h := h.setReg (WL_VLOG_W1 i) (BitVec.ofNat 32 detail)
  let h := (h.setReg (WL_VLOG_W2 i) (BitVec.ofNat 32 h.lt)).setReg (WL_VLOG_W3 i) (BitVec.ofNat 32 (h.lt / 2 ^ 32))
  let h := (h.bump WL_VLOG_CNT_TOTAL 1).bumpMod WL_VLOG_CNT_HEAD 1
  let n := h.wl.violNew + 1
  let due := match h.wl.violAt with | some t => decide (t + 1000000 ≤ h.lt) | none => true
  if due then { h.raise 252 0 [n] with wl := { h.wl with violAt := some h.lt, violNew := 0 } }
  else { h with wl := { h.wl with violNew := n } }

/-- An access over a path was not done: an MC write refused under R12 raises WRITE_REFUSED, an MC access to no register
FABRIC_ERROR (port 6); the other paths are logged (R12, R302, R326, R350, R415). -/
def report (p : Path) (o : Outcome) (addr : Nat) (write : Bool) (h : Hub) : Hub :=
  let op := if write then 7 else 6
  match o with
  | .done => h
  | .unreachable => h
  | _ =>
    match p with
    | .mc => if o == .badAddr then h.raise 250 0 [6, addr, ofBool write] else h.raise 251 0 [addr]
    | .jtag => h.violation 2 (if o == .badAddr then 4 else 3) op 0 addr
    | .downlink => h.violation 0 o.nak op h.wl.dlsn addr
    | .ethernet => h.violation 1 o.nak op 0 addr

/-- A write over a path to the register at `addr`, whose effect `f` answers none where the write is refused under R12. -/
def writeTo (p : Path) (_addr : Nat) (a : Access) (f : Hub → Option Hub) (h : Hub) : Outcome × Hub :=
  match h.pathWrites p with
  | .done =>
    if !h.writable a then (.locked, h) else
    match f h with
    | some h' => (.done, h')
    | none => (.locked, h)
  | o => (o, h)

/-- A write that is a command of its own: done, or reported. -/
def writeCmd (p : Path) (addr : Nat) (a : Access) (f : Hub → Option Hub) (h : Hub) : Hub :=
  let (o, h) := h.writeTo p addr a f
  h.report p o addr true

/-- The bits of a register that a write may change (R12). -/
def writeMask (h : Hub) (c : Card) : Nat :=
  c.fields.foldl (fun m (lo, w, a) => if h.writable a then m + (2 ^ w - 1) * 2 ^ lo else m) 0

/-- The bits of a register that a write clears with 1. -/
def clearMask (c : Card) : Nat :=
  c.fields.foldl (fun m (lo, w, a) => if a = .W1C then m + (2 ^ w - 1) * 2 ^ lo else m) 0

/-- The value a register takes from a write under its access codes (R11, R12). -/
def merged (h : Hub) (c : Card) (old v : Word) : Word :=
  let m := BitVec.ofNat 32 (h.writeMask c)
  let k := BitVec.ofNat 32 (clearMask c)
  (old &&& ~~~(m &&& ~~~k) &&& ~~~(m &&& k &&& v)) ||| (v &&& m &&& ~~~k)

end Hub

end Sys2Proof.Machine
end

