-- ==== Sys2Proof/Machine/Angle.lean ====
section
/-!
DEFINITION. Real arithmetic in fixed point, far finer than any result that is formed from it: the argument of a complex number
(R90, R186, R188), points of the unit circle (R152, R177), the natural logarithm (R152).
-/

namespace Sys2Proof.Machine

/-- arctan 2^-i for i = 0, 1, … in units of 2π/2^40. -/
def arctans : List Int := [
  137438953472, 81134951838, 42869480287, 21761217566, 10922836750, 5466743129, 2734038620, 1367102738,
  683561799, 341782203, 170891265, 85445653, 42722829, 21361415, 10680707, 5340354, 2670177, 1335088,
  667544, 333772, 166886, 83443, 41722, 20861, 10430, 5215, 2608, 1304, 652, 326, 163, 81]

/-- The argument of a complex number other than 0 in units of 2π/2^40, to some 100 of them: the vector is turned onto the real axis
by the angles above. -/
def argument (re im : Int) : Int :=
  let s : Int := if re < 0 then -(2 ^ 30) else 2 ^ 30
  let turn := ((List.range 32).zip arctans).foldl (fun (v : Int × Int × Int) p =>
    let (x, y, z) := v
    if 0 ≤ y then (x + y / 2 ^ p.1, y - x / 2 ^ p.1, z + p.2) else (x - y / 2 ^ p.1, y + x / 2 ^ p.1, z - p.2))
    (re * s, im * s, if re < 0 then 2 ^ 39 else 0)
  turn.2.2

/-- The argument is a multiple of π/4: for whole parts, the only case in which it is a whole number of the units below. -/
def onOctant (re im : Int) : Bool := re == 0 || im == 0 || re == im || re == -im

/-- The argument in units of 2π/2^n (n < 40), rounded down. -/
def argFloor (n : Nat) (re im : Int) : Int :=
  (if onOctant re im then argument re im + 2 ^ (39 - n) else argument re im) / 2 ^ (40 - n)

/-- A whole number of units of 2π/2^n that lies at most `k` units from the argument; `free` says which (k ≥ 1). -/
def argNear (n k free : Nat) (re im : Int) : Int :=
  if onOctant re im then argFloor n re im + ((free % (2 * k + 1) : Nat) : Int) - k
  else argFloor n re im + ((free % (2 * k) : Nat) : Int) - (k - 1)

/-! ### The unit circle -/

/-- The unit of the fractions below. -/
def fixUnit : Int := 2 ^ 60

/-- e^{2πi/2^k} in units of 2^-60, for k ≥ 1: from −1 by halving the angle. -/
def rootOfUnity : Nat → Int × Int
  | 0 => (fixUnit, 0)
  | 1 => (-fixUnit, 0)
  | k + 1 =>
    let c := (rootOfUnity k).1
    (isqrt ((fixUnit + c) * 2 ^ 59).toNat, isqrt ((fixUnit - c) * 2 ^ 59).toNat)

/-- e^{2πi·j/2^n}: the product of the roots that the bits of j name. -/
def onCircle : Nat → Nat → Int × Int
  | 0, _ => (fixUnit, 0)
  | n + 1, j =>
    let z := onCircle n (j / 2)
    if j % 2 = 0 then z else
    let r := rootOfUnity (n + 1)
    ((z.1 * r.1 - z.2 * r.2) / fixUnit, (z.1 * r.2 + z.2 * r.1) / fixUnit)

/-- e^{2πi·p/q}. -/
def circleAt (p q : Nat) : Int × Int := onCircle 48 ((2 ^ 48 * (p % max 1 q) + q / 2) / max 1 q)

/-! ### Logarithms -/

/-- 2·artanh(1/x) by its series, for x = n/d in units of 2^-60: 30 terms, each a ninth of the one before or less where x ≥ 3. -/
def logRatio (n d : Nat) : Int :=
  let y : Int := fixUnit * d / (n : Int)
  ((List.range 30).foldl (fun (a : Int × Int) i => (a.1 + a.2 / (2 * i + 1 : Nat), a.2 * y / fixUnit * y / fixUnit)) (0, y)).1 * 2

/-- ln n of a whole number n ≥ 1 in units of 2^-60: n = 2^k·m with 1 ≤ m < 2, ln m = 2·artanh((m − 1)/(m + 1)). -/
def lnFix (n : Nat) : Int :=
  let k := Nat.log2 n
  let m := 2 ^ k
  k * logRatio 3 1 + (if n = m then 0 else logRatio (n + m) (n - m))

end Sys2Proof.Machine
end

