-- ==== Sys2Proof/Machine/BurstOps.lean ====
section
/-!
DEFINITION. The ends of look-back bursts (R220-R224): closing, the end of a series, the stop of the burst stream.
-/

namespace Sys2Proof.Machine.Hub

/-- 800 ns in slots, rounded up (R206, R218). -/
def slots800ns (h : Hub) : Nat := ceilDiv (8 * h.bclk) 100000

/-- The last frame recorded: its containers are written 800 ns after its tick at the latest. -/
def lastRecorded (h : Hub) : Option Nat :=
  ((h.sp.frames.filter fun p => decide (p.2.tick + h.slots800ns ≤ h.now)).getLast?).map Prod.fst

/-- A burst closes at its frame E: it waits to be emitted to its end, and the Standpipe re-arms (R222, R223). -/
def closeBurst (h : Hub) : Hub :=
  match h.sp.burst with
  | none => h
  | some b =>
    let capped := b.last == b.cap && b.closed != some 3
    let b : Burst := { b with closed := some (b.closed.getD (ofBool capped)), fixed := true }
    let h : Hub := { h with sp := { h.sp with
      burst := none, queue := h.sp.queue ++ [b], lastEnd := some b.last
      rearmTo := some (b.last + h.fld TRG_SP_DEPTH_PRE), capped := capped } }
    if capped then h.bump TRG_SP_CNT_CAPPED 1 else h

/-- E of the open burst is fixed at frame `e`, for a reason (R220, R224). -/
def fixBurst (e reason : Nat) (h : Hub) : Hub :=
  match h.sp.burst with
  | none => h
  | some b => if b.fixed then h else { h with sp := { h.sp with burst := some { b with last := e, closed := some reason, fixed := true } } }

/-- A burst opened, or moved, after its series has ended at frame `e` covers no frame beyond it (R220). -/
def limitBurst (e : Nat) (h : Hub) : Hub :=
  match h.sp.burst with
  | some b => if e < b.last then h.fixBurst e 2 else h
  | none => h

/-- The burst stream stops: an open burst closes at the last frame recorded before it (R224). -/
def cutBurst (h : Hub) : Hub :=
  match h.sp.burst, h.lastRecorded with
  | some b, some e =>
    let h : Hub := { h with sp := { h.sp with burst := some { b with fixed := false } } }
    (h.fixBurst (max b.first (min e b.last)) 3).closeBurst
  | _, _ => h

end Sys2Proof.Machine.Hub
end

