-- ==== Sys2Proof/Machine/Digest.lean ====
section
/-!
DEFINITION. Bytes and words, the CRC-32C of frames and flash records, and the digests of FIPS 180-4 (R284, R391, R392).
-/

namespace Sys2Proof.Machine

/-! ### Bytes -/

/-- The bytes of a word, most significant first (R14). -/
def beWord (w : Word) : List Byte :=
  [BitVec.ofNat 8 (w.toNat / 2 ^ 24), BitVec.ofNat 8 (w.toNat / 2 ^ 16), BitVec.ofNat 8 (w.toNat / 2 ^ 8), BitVec.ofNat 8 w.toNat]

def beBytes (ws : List Word) : List Byte := ws.flatMap beWord

/-- The number that bytes spell, most significant first. -/
def beNat (bs : List Byte) : Nat := bs.foldl (fun a b => a * 256 + b.toNat) 0

/-- The words that bytes spell, most significant byte first; a rest of fewer than four bytes is dropped. -/
def beWords : List Byte → List Word
  | a :: b :: c :: d :: rest => BitVec.ofNat 32 (beNat [a, b, c, d]) :: beWords rest
  | _ => []

/-! ### CRC-32C (R284) -/

/-- One bit of the reflected check register. -/
def crc32cBit (r : Nat) : Nat := if r % 2 = 1 then (r / 2) ^^^ 0x82F63B78 else r / 2

def crc32cByte (r : Nat) (b : Byte) : Nat :=
  crc32cBit (crc32cBit (crc32cBit (crc32cBit (crc32cBit (crc32cBit (crc32cBit (crc32cBit (r ^^^ b.toNat))))))))

/-- CRC-32C: polynomial 0x1EDC6F41 reflected, initial value and final XOR of all ones. -/
def crc32c (bs : List Byte) : Nat := bs.foldl crc32cByte 0xFFFFFFFF ^^^ 0xFFFFFFFF

/-! ### The digests of FIPS 180-4 -/

/-- The greatest number whose `k`-th power is at most `n`, among those of `bits` bits. -/
def rootFloor (k n bits : Nat) : Nat :=
  (List.range bits).reverse.foldl (fun r i => if (r + 2 ^ i) ^ k ≤ n then r + 2 ^ i else r) 0

/-- The primes up to 409: the first 80. -/
def smallPrimes : List Nat :=
  (List.range 410).filter fun n => decide (2 ≤ n) && (List.range 19).all fun d => decide (n < (d + 2) ^ 2) || n % (d + 2) != 0

/-- One member of the SHA-2 family: the bits of its words, its rounds, and the amounts by which Σ0, Σ1, σ0 and σ1 rotate (the third
of σ shifts). -/
structure Sha2 where
  bits : Nat
  rounds : Nat
  sum0 : Nat × Nat × Nat
  sum1 : Nat × Nat × Nat
  mix0 : Nat × Nat × Nat
  mix1 : Nat × Nat × Nat

namespace Sha2

def rotated (f : Sha2) (n x : Nat) : Nat := x / 2 ^ n + x * 2 ^ (f.bits - n) % 2 ^ f.bits

/-- Σ of a word. -/
def sum (f : Sha2) (r : Nat × Nat × Nat) (x : Nat) : Nat := f.rotated r.1 x ^^^ f.rotated r.2.1 x ^^^ f.rotated r.2.2 x

/-- σ of a word. -/
def mix (f : Sha2) (r : Nat × Nat × Nat) (x : Nat) : Nat := f.rotated r.1 x ^^^ f.rotated r.2.1 x ^^^ x / 2 ^ r.2.2

/-- The first bits after the point of the `k`-th roots of the first `n` primes. -/
def constants (f : Sha2) (k n : Nat) : List Nat :=
  (smallPrimes.take n).map fun p => rootFloor k (p * 2 ^ (k * f.bits)) (f.bits + 5) % 2 ^ f.bits

/-- What a round works on: the last four values of a and of e, the newest first, and the next 16 words of the schedule. -/
structure Work where
  as : List Nat
  es : List Nat
  next : List Nat

/-- One round, with its constant. -/
def round (f : Sha2) (s : Work) (k : Nat) : Work :=
  let m := 2 ^ f.bits
  let a (i : Nat) := s.as.getD i 0
  let e (i : Nat) := s.es.getD i 0
  let w (i : Nat) := s.next.getD i 0
  let choice := (e 0 &&& e 1) ^^^ ((m - 1 - e 0) &&& e 2)
  let majority := (a 0 &&& a 1) ||| (a 2 &&& (a 0 ||| a 1))
  let t := e 3 + f.sum f.sum1 (e 0) + choice + k + w 0
  { as := ((t + f.sum f.sum0 (a 0) + majority) % m) :: s.as.take 3
    es := ((a 3 + t) % m) :: s.es.take 3
    next := s.next.drop 1 ++ [(w 0 + f.mix f.mix0 (w 1) + w 9 + f.mix f.mix1 (w 14)) % m] }

/-- One block enters the eight words of the hash. -/
def absorb (f : Sha2) (ks : List Nat) (h block : List Nat) : List Nat :=
  let out := ks.foldl f.round { as := h.take 4, es := h.drop 4, next := block }
  (h.zip (out.as ++ out.es)).map fun p => (p.1 + p.2) % 2 ^ f.bits

/-- The first `n` pieces of `k` items. -/
def pieces {α : Type} (k : Nat) : Nat → List α → List (List α)
  | 0, _ => []
  | n + 1, xs => xs.take k :: pieces k n (xs.drop k)

/-- The digest of a message, as eight numbers. -/
def digest (f : Sha2) (msg : List Byte) : List Nat :=
  let size := f.bits / 8
  let n := msg.length
  let blocks := (n + 2 * size) / (16 * size) + 1
  let length := ((List.range (2 * size)).map fun i => BitVec.ofNat 8 (8 * n / 2 ^ (8 * i))).reverse
  let padded := msg ++ [0x80] ++ List.replicate (16 * size * blocks - n - 1 - 2 * size) 0 ++ length
  let words := (pieces size (16 * blocks) padded).map beNat
  (pieces 16 blocks words).foldl (f.absorb (f.constants 3 f.rounds)) (f.constants 2 8)

end Sha2

/-- SHA-256. -/
def sha256Form : Sha2 :=
  { bits := 32, rounds := 64, sum0 := (2, 13, 22), sum1 := (6, 11, 25), mix0 := (7, 18, 3), mix1 := (17, 19, 10) }

/-- SHA-512. -/
def sha512Form : Sha2 :=
  { bits := 64, rounds := 80, sum0 := (28, 34, 39), sum1 := (14, 18, 41), mix0 := (1, 8, 7), mix1 := (19, 61, 6) }

/-- The SHA-256 digest of a message, as eight words (R391). -/
def sha256 (bs : List Byte) : List Word := (sha256Form.digest bs).map (BitVec.ofNat 32)

/-- The SHA-512 digest of a message, as bytes. -/
def sha512 (bs : List Byte) : List Byte :=
  beBytes ((sha512Form.digest bs).flatMap fun x => (wide x).map (BitVec.ofNat 32))

end Sys2Proof.Machine
end

