-- ==== Sys2Proof/Machine/Packets.lean ====
section
/-!
DEFINITION. Packet bodies and headers (R244-R249, R261) and the arithmetic of the Siphon coder (R265-R269).
-/

namespace Sys2Proof.Machine

/-! ### Formats and containers -/

/-- FMT codes of R249. -/
abbrev fmtS32 : Nat := 0
abbrev fmtS16 : Nat := 1
abbrev fmtRaw64 : Nat := 2
abbrev fmtWords : Nat := 3
abbrev fmtRecords : Nat := 4
abbrev fmtGap : Nat := 5

/-- The quality of a container; one without a quality counts as VALID. -/
def Cont.q : Cont → Nat
  | .sample _ q => q
  | _ => 0

/-- The value of a container. -/
def Cont.value : Cont → Int
  | .sample v _ => v
  | _ => 0

/-- An S32 container (R244). -/
def Cont.s32 (c : Cont) : Word := BitVec.ofNat 32 (unsigned 24 c.value * 256 + c.q % 8 * 32)

/-- A value of a CELLS or DTS recipe as an S16 container: it loses 8 bits, and is CLIPPED where it saturates (R245, R9). -/
def s16Of (v : Int) (q : Nat) : Cont :=
  let r := roundConv v 256
  let c := clamp (-32768) 32767 r
  .sample c (if (c = -32768 ∨ c = 32767) ∧ q ≠ 7 ∧ q ≠ 6 then 2 else q)

/-- S16 containers packed two to a word, the first in the high half (R245). -/
def packHalves : List Cont → List Word
  | [] => []
  | [a] => [BitVec.ofNat 32 (unsigned 16 a.value * 65536)]
  | a :: b :: rest => BitVec.ofNat 32 (unsigned 16 a.value * 65536 + unsigned 16 b.value) :: packHalves rest

/-- The exception runs of a list of containers: Q, FIRST, LEN, in ascending order (R246). -/
def exceptionRuns (i : Nat) : List Cont → List (Nat × Nat × Nat)
  | [] => []
  | c :: rest =>
    let runs := exceptionRuns (i + 1) rest
    if c.q = 0 then runs
    else match runs with
      | (q, first, len) :: more => if q = c.q ∧ first = i + 1 then (q, i, len + 1) :: more else (c.q, i, 1) :: runs
      | [] => [(c.q, i, 1)]

/-- The exception trailer (R246). -/
def trailer (cs : List Cont) : List Word :=
  let runs := exceptionRuns 0 cs
  BitVec.ofNat 32 (runs.length % 65536) ::
    runs.map (fun (q, first, len) => BitVec.ofNat 32 (q * 2 ^ 29 + first * 2 ^ 12 + (len - 1)))

/-- The PLACE word (R247). -/
def placeWord (pos setw : Nat) : Word := BitVec.ofNat 32 (pos % 65536 * 65536 + (setw - 1) % 65536)

/-- The 32-bit words of one container of a RAW64, WORDS or RECORDS body (R248). -/
def Cont.words : Cont → List Word
  | .raw w => [BitVec.ofNat 32 (w.toNat / 2 ^ 32), BitVec.ofNat 32 w.toNat]
  | .word w => [w]
  | .sample v q => [(Cont.sample v q).s32]

/-- The body of a packet (R244-R248, R264). -/
def OpenPkt.body (p : OpenPkt) : List Word :=
  if p.ratio ≠ 0 then placeWord p.pos p.setw :: (p.blocks ++ trailer p.conts)
  else if p.fmt = fmtS32 then placeWord p.pos p.setw :: p.conts.map Cont.s32
  else if p.fmt = fmtS16 then placeWord p.pos p.setw :: (packHalves p.conts ++ trailer p.conts)
  else p.conts.flatMap Cont.words

/-- The bytes of a packet: the 16 of its header and its body (R249). -/
def Packet.bytes (p : Packet) : Nat := 16 + 4 * p.body.length

/-- The 128-bit header as four words, most significant first (R249). -/
def Packet.header (p : Packet) : List Word :=
  let x := p.fmt % 16 * 2 ^ 124 + p.stream % 128 * 2 ^ 117 + ofBool p.holdover * 2 ^ 116 + ofBool p.reanchor * 2 ^ 115
    + ofBool p.epoch * 2 ^ 114 + ofBool p.compressed * 2 ^ 113 + ofBool p.degraded * 2 ^ 112 + ofBool p.start * 2 ^ 111
    + ofBool p.stop * 2 ^ 110 + p.epochNo % 16 * 2 ^ 106 + p.count % 4096 * 2 ^ 94 + p.seq % 2 ^ 32 * 2 ^ 62 + p.mt.pack
  [BitVec.ofNat 32 (x / 2 ^ 96), BitVec.ofNat 32 (x / 2 ^ 64), BitVec.ofNat 32 (x / 2 ^ 32), BitVec.ofNat 32 x]

/-- The nine words of a GAP body (R261). -/
def Gap.body (g : Gap) : List Word :=
  ([g.cause * 2 ^ 24 + min g.pkts 65535, g.seqFirst, g.seqLast] ++
    (wide g.units ++ wide g.mtFirst.pack ++ wide g.mtLast.pack)).map (BitVec.ofNat 32)

/-! ### Link frames -/

/-- A frame with its content, given as 32-bit words: WORDS, the pad count and the CRC of its EOF, which covers the LT block, the content
and the pad (R283, R284). -/
def SentFrame.carry (f : SentFrame) (content : List Word) : SentFrame :=
  let odd := content.length % 2 == 1
  { f with
    words := (content.length + 1) / 2, pad := if odd then 4 else 0
    crc := some (crc32c (beBytes ((wide f.lt).map (BitVec.ofNat 32) ++ content ++ if odd then [0] else []))) }

/-! ### The Siphon coder -/

/-- Residual width b of a ratio (R265). -/
def residualBits (ratio : Nat) : Nat := if ratio = 1 then 11 else if ratio = 2 then 7 else 5

/-- The bytes Blk of a block (R265). -/
def blockBytes (ratio : Nat) : Nat := 4 + 4 * residualBits ratio

/-- The prediction of an order from the reconstructed history (R267). -/
def predict (order : Nat) (h : Int × Int × Int) : Int :=
  match order with
  | 0 => 0
  | 1 => h.1
  | 2 => 2 * h.1 - h.2.1
  | _ => 3 * h.1 - 3 * h.2.1 + h.2.2

/-- One trial of R267: the residuals and the history after them, or none where the shift is too small for the order. -/
def trial (b order s : Nat) : List Int → Int × Int × Int → Option (List Int × (Int × Int × Int))
  | [], h => some ([], h)
  | v :: rest, h =>
    let e := roundConv (v - predict order h) (2 ^ s)
    if e < -(2 ^ (b - 1) : Nat) ∨ ((2 ^ (b - 1) : Nat) : Int) - 1 < e then none
    else (trial b order s rest (sat24 (predict order h + e * (2 ^ s : Nat)), h.1, h.2.1)).map
      fun (r, h') => (e :: r, h')

/-- The first order that succeeds at a shift. -/
def trialOrders (b s : Nat) (xs : List Int) (h : Int × Int × Int) :
    List Nat → Option (Nat × List Int × (Int × Int × Int))
  | [] => none
  | o :: rest => match trial b o s xs h with
    | some (r, h') => some (o, r, h')
    | none => trialOrders b s xs h rest

/-- The least shift at which an order succeeds, the lower order on a tie (R267): order, shift, residuals, history. -/
def encodeBlock (b : Nat) (xs : List Int) (h : Int × Int × Int) : List Nat → Nat × Nat × List Int × (Int × Int × Int)
  | [] => (0, 20, xs.map (fun v => roundConv v (2 ^ 20)), h)
  | s :: rest => match trialOrders b s xs h [0, 1, 2, 3] with
    | some (o, r, h') => (o, s, r, h')
    | none => encodeBlock b xs h rest

/-- The shifts 0 to 20. -/
def shifts : List Nat := List.range 21

/-- Residuals packed back to back, most significant bit first, into the b words of a full block (R265, R266). -/
def residualWords (b : Nat) (rs : List Int) : List Word :=
  let x := rs.foldl (fun a r => a * 2 ^ b + unsigned b r) 0 * 2 ^ (b * (32 - rs.length))
  (List.range b).map (fun i => BitVec.ofNat 32 (x / 2 ^ (32 * (b - 1 - i))))

/-- A block header (R266). -/
def blockHeader (order shift n unit : Nat) (fail reenc hreset : Bool) : Word :=
  BitVec.ofNat 32 (order * 2 ^ 30 + shift * 2 ^ 25 + ofBool fail * 2 ^ 24 + ofBool reenc * 2 ^ 23
    + ofBool hreset * 2 ^ 22 + unit * 2 ^ 21 + n)

/-- The three reconstructed values of a history (R269). -/
def histValues (h : BitVec 128) : Int × Int × Int :=
  (signed 24 (bits h.toNat 127 104), signed 24 (bits h.toNat 103 80), signed 24 (bits h.toNat 79 56))

/-- A history word (R269). -/
def histPack (x : Int × Int × Int) (order shift seq : Nat) : BitVec 128 :=
  BitVec.ofNat 128 (unsigned 24 x.1 * 2 ^ 104 + unsigned 24 x.2.1 * 2 ^ 80 + unsigned 24 x.2.2 * 2 ^ 56
    + order * 2 ^ 54 + shift * 2 ^ 49 + 2 ^ 48 + seq % 2 ^ 32)

end Sys2Proof.Machine
end

