-- ==== Sys2Proof/Machine/Streams.lean ====
section
/-!
DEFINITION. Shared operations of streams and rings (R241-R261, R268-R272): packets close, records and sets are produced,
streams start, stop and are flushed, GAP records are written. The commands of the chapter stand in Cistern.lean.
-/

namespace Sys2Proof.Machine.Hub

/-- Stream `s` with its ring. -/
def ring (h : Hub) (s : Nat) : Ring := SMap.get (fun _ => {}) h.cis.rings s

def setRing (s : Nat) (r : Ring) (h : Hub) : Hub :=
  { h with cis := { h.cis with rings := SMap.set (fun _ => {}) h.cis.rings s r } }

/-- Bytes from ACK to WR. -/
def ringBytes (h : Hub) (s : Nat) : Nat := ((h.ring s).packets.map Packet.bytes).sum

def ringSize (h : Hub) (s : Nat) : Nat := 4096 * h.fld (CIS_RING_SIZE_SIZE s)

/-- A stream runs; stream 0 always does (R256). -/
def runs (h : Hub) (s : Nat) : Bool := s == 0 || (h.ring s).running

/-- A stream takes what carries the MT of absolute slot `t`: from a start on, up to the stop that followed it (R256). Stops whose last
set is still to come count. -/
def takes (h : Hub) (s : Nat) (t : Int) : Bool :=
  let r := h.ring s
  s == 0 || (r.running && decide (r.startAt ≤ t)) || r.spans.any fun p => decide (p.1 ≤ t) && decide (t < p.2)

/-- The ring's STATE, LEVEL and HIGH; RING_HIGH is raised when occupancy passes 75 % and re-armed below 50 % (R272, R273). -/
def refreshRing (s : Nat) (h : Hub) : Hub :=
  let r := h.ring s
  let size := h.ringSize s
  let bytes := h.ringBytes s
  let level := (bytes + 255) / 256
  let st := if size = 0 then 0 else if r.flushDue then 4 else if r.held.isSome then 3 else if h.runs s then 2 else 1
  let h := (h.put (CIS_RING_STAT_STATE s) st).put (CIS_RING_STAT_LEVEL s) level
  if 3 * size < 4 * bytes ∧ ¬ h.flag (CIS_RING_STAT_HIGH s) then
    (h.put (CIS_RING_STAT_HIGH s) 1).raise 145 0 [s, level]
  else if 2 * bytes < size then h.put (CIS_RING_STAT_HIGH s) 0
  else h

/-- The EPOCH_NO in force (R249, R436). -/
def epochNo (h : Hub) : Nat := h.fld TWN_EPOCH_EPOCH % 16

/-- A GAP record takes the stream's next number, is reported on EV[144], and resets the Siphon history of the next block
(R250, R259, R261, R268). As the first packet after a start it carries START (R249). -/
def placeGap (s : Nat) (g : Gap) (h : Hub) : Hub :=
  let r := h.ring s
  let pk : Packet := { fmt := fmtGap, stream := s, epoch := r.epochDue, start := r.startDue, epochNo := h.epochNo, count := 9
                       seq := h.fld (CIS_SEQ_NEXT s), mt := g.mtFirst, lastMt := g.mtLast, body := g.body
                       closed := h.cis.closed }
  let h : Hub := { h with cis := { h.cis with closed := h.cis.closed + 1 } }
  let h := h.setRing s { r with packets := r.packets ++ [pk], startDue := false, epochDue := false, hreset := true, loaded := false }
  let h := (h.bumpMod (CIS_SEQ_NEXT s) 1).bump (CIS_GAP_CNT_GAPS s) 1
  (h.tally 129 1).raise 144 0 ([s, g.cause, min g.pkts 65535] ++ wide g.units)

/-- A GAP record is due: it enters the ring at once, or behind the packet being filled. -/
def writeGap (s : Nat) (g : Gap) (h : Hub) : Hub :=
  let r := h.ring s
  if r.open?.isSome then h.setRing s { r with gapsDue := r.gapsDue ++ [g] } else h.placeGap s g

/-- The GAP records that waited for the open packet enter the ring. -/
def placeGaps (s : Nat) (h : Hub) : Hub :=
  (h.ring s).gapsDue.foldl (fun (h : Hub) g => h.placeGap s g) (h.setRing s { h.ring s with gapsDue := [] })

/-- The ring issues the credit for the next packet if the free space covers one of the greatest size and the 64 B reserve;
a span dropped before it is then reported first (R251, R258). -/
def issueCredit (s : Nat) (h : Hub) : Hub :=
  let r := h.ring s
  let free := h.ringSize s - h.ringBytes s
  if r.maxPkt + 64 ≤ free then
    let h := h.setRing s { r with credit := true, held := none }
    match r.held with
    | some g => h.writeGap s g
    | none => h
  else h.setRing s { r with credit := false }

/-- Packets discarded without being sent, reported as one span. -/
def gapOf (cause : Nat) (ps : List Packet) : Option Gap :=
  match ps with
  | [] => none
  | p :: rest =>
    let q := rest.getLastD p
    some { cause := cause, pkts := ps.length, seqFirst := p.seq, seqLast := q.seq
           units := (ps.map Packet.count).sum, mtFirst := p.mt, mtLast := q.lastMt }

/-- The flush of a stream at a packet boundary: every closed packet between TX and WR is discarded, and a GAP record of
cause FLUSH is written (R257). A flush that finds none names its own number with no packets. -/
def flushNow (s : Nat) (h : Hub) : Hub :=
  let r := h.ring s
  let gone := r.packets.drop r.sent
  let seq := h.fld (CIS_SEQ_NEXT s)
  let g := (gapOf 2 gone).getD { cause := 2, seqFirst := seq, seqLast := seq, mtFirst := h.mtNow, mtLast := h.mtNow }
  let h := h.setRing s { r with packets := r.packets.take r.sent, flushDue := false }
  let h := (h.writeGap s g).raise 147 0 [s, gone.length]
  ((h.tally 130 1).issueCredit s).refreshRing s

/-! ### The Siphon coder (R264-R271) -/

/-- The ratio in force for a stream, and whether it is the degraded one (R271). -/
def ratioOf (h : Hub) (s : Nat) : Nat × Bool :=
  if h.cis.degraded ∧ h.fld (CIS_STREAM_CFG_CLASS s) = 3 ∧ h.fld (CIS_STREAM_CFG_DEG_RATIO s) ≠ 0 then (h.fld (CIS_STREAM_CFG_DEG_RATIO s), true)
  else (h.fld (CIS_STREAM_CFG_RATIO s), false)

/-- The unit that codes a stream: s mod 2 while both are in service, else the one that is (R270). -/
def unitOf (h : Hub) (s : Nat) : Nat :=
  if h.flag (SIP_UNIT_STAT_IN_SERVICE (s % 2)) then s % 2 else 1 - s % 2

/-- Code the next block of the packet a stream is filling: up to 32 of the containers not yet coded. `first` and `second`
say whether the output of the stream's unit, and then that of the other unit, verifies (R267, R270). -/
def codeBlock (s : Nat) (first second : Bool) (h : Hub) : Hub :=
  match (h.ring s).open? with
  | none => h
  | some p =>
    let xs := ((p.conts.drop p.coded).take 32).map Cont.value
    if p.ratio = 0 ∨ xs = [] then h else
    let r := h.ring s
    let seq := h.fld (CIS_SEQ_NEXT s)
    let b := residualBits p.ratio
    let h0 := if r.hreset then (0, 0, 0) else histValues r.hist
    let (order, shift, rs, h1) := encodeBlock b xs h0 shifts
    let u := h.unitOf s
    let both := h.flag (SIP_UNIT_STAT_IN_SERVICE 0) && h.flag (SIP_UNIT_STAT_IN_SERVICE 1)
    let reenc := !first && both
    let fail := !first && (!both || !second)
    let unit := if reenc then 1 - u else u
    let p' := { p with blocks := p.blocks ++ (blockHeader order shift xs.length unit fail reenc r.hreset :: residualWords b rs)
                       coded := p.coded + xs.length, shiftMax := max p.shiftMax shift }
    let h := h.setRing s { r with open? := some p', hist := histPack h1 order shift seq, hreset := fail, loaded := false }
    let idx := p.coded / 32
    let h := if first then h else (h.bump (SIP_UNIT_STAT_MISMATCH u) 1).raise (160 + u) 0 [s, seq, idx]
    let h := if reenc then h.bump SIP_CNT_REENC 1 else h
    let h := if reenc && !second then h.bump (SIP_UNIT_STAT_MISMATCH (1 - u)) 1 else h
    let h := if fail then (h.bump SIP_CNT_VERIFY_FAIL 1).raise 162 0 [s, seq, idx] else h
    let h := if fail && both then (h.put (SIP_UNIT_STAT_IN_SERVICE u) 0).raise 163 0 [u] else h
    let h := h.bumpMod (SIP_UNIT_STAT_BLOCKS u) 1
    let h := if reenc then h.bumpMod (SIP_UNIT_STAT_BLOCKS (1 - u)) 1 else h
    (((h.tally (132 + u) 1).tally (133 - u) (ofBool reenc)).tally 134 xs.length).tally 135 (blockBytes p.ratio)

/-- Code what is left of a packet, block by block, with output that verifies. -/
def codeRest (s : Nat) (fuel : Nat) (h : Hub) : Hub :=
  match fuel with
  | 0 => h
  | n + 1 => codeRest s n (h.codeBlock s true true)

/-! ### Packets -/

/-- An INTERLOCK stream, whose packets hold one frame or one urgent word each (R252). -/
def interlock (h : Hub) (s : Nat) : Bool := s != 0 && h.fld (CIS_STREAM_CFG_CLASS s) == 0

/-- The frame that carries packet `k` of a ring, sent and not acknowledged, can be sent no more: it keeps its LSN, under no stream
(R255). -/
def loseFrame (s k : Nat) (h : Hub) : Hub :=
  match (h.wl.unacked.filter fun p => p.2 == s)[k]? with
  | none => h
  | some f => { h with wl := { h.wl with
      unacked := h.wl.unacked.map fun p => if p.1 = f.1 then (p.1, 128) else p, resend := h.wl.resend.erase f.1 } }

/-- The closed packet of `p` in the ring of stream `s`. -/
def sealed (h : Hub) (s : Nat) (p : OpenPkt) (seq : Nat) (stop : Bool) : Packet :=
  let r := h.ring s
  { fmt := p.fmt, stream := s, holdover := p.holdover, reanchor := p.reanchor, epoch := r.epochDue, compressed := p.ratio ≠ 0
    degraded := p.degraded, start := r.startDue, stop := stop, epochNo := p.epochNo, count := p.conts.length, seq := seq
    mt := p.mt, lastMt := p.lastMt, body := p.body, closed := h.cis.closed }

/-- A closed packet enters the ring. One the consumer began to send before counts as sent, and is released where it is an
INTERLOCK packet (R252, R288). -/
def enterRing (s : Nat) (p : OpenPkt) (pk : Packet) (h : Hub) : Hub :=
  let r := h.ring s
  let h : Hub := { h with cis := { h.cis with closed := h.cis.closed + 1 } }
  let gone := p.cut && h.interlock s
  let h := h.setRing s { r with open? := none, startDue := false, epochDue := false
                                packets := if gone then r.packets else r.packets ++ [pk]
                                sent := if p.cut && !gone then r.sent + 1 else r.sent }
  let h := if p.ratio = 0 then h else
    ((h.put (SIP_STREAM_STAT_SHIFT_MAX s) p.shiftMax).put (SIP_STREAM_STAT_UNIT s) (h.unitOf s))
  let fill (f : SentFrame) : SentFrame := if f.stream = s ∧ f.seq = pk.seq ∧ f.crc = none then f.carry (pk.header ++ pk.body) else f
  let h : Hub := if p.cut then
      { h.tally 125 pk.bytes with wl := { h.wl with
        lanes := h.wl.lanes.map fun x => (x.1, fill x.2), inner := h.wl.inner.map fun x => (x.1, x.2.map fill) } }
    else h
  (h.tally 124 pk.bytes).tally 127 1

/-- The packet a stream is filling closes (R242): it takes the next number, enters the ring, or is dropped whole where it
was opened without a credit (R258) or is unsendable (R255). A requested flush takes effect at this boundary (R257). -/
def closePacket (s : Nat) (stop : Bool) (h : Hub) : Hub :=
  match (h.ring s).open? with
  | none => h
  | some p0 =>
    let h := if p0.ratio = 0 then h else h.codeRest s ((p0.conts.length - p0.coded + 31) / 32)
    let r := h.ring s
    let p := r.open?.getD p0
    let seq := h.fld (CIS_SEQ_NEXT s)
    let h := h.bumpMod (CIS_SEQ_NEXT s) 1
    let lost : Gap := { cause := if p.dropped then 1 else 3, pkts := 1, seqFirst := seq, seqLast := seq, units := p.conts.length
                        mtFirst := p.mt, mtLast := p.lastMt }
    let h :=
      if p.dropped then
        let g := match r.held with
          | some g => { g with pkts := g.pkts + 1, seqLast := seq, units := g.units + p.conts.length, mtLast := p.lastMt }
          | none => lost
        (h.setRing s { r with open? := none, held := some g }).tally 128 1
      else if p.spoilt then
        let h := if p.cut then h.loseFrame s r.sent else h
        h.setRing s { r with open? := none, gapsDue := lost :: r.gapsDue }
      else h.enterRing s p (h.sealed s p seq stop)
    let h := h.placeGaps s
    if r.flushDue then h.flushNow s else (h.issueCredit s).refreshRing s

/-- Open a packet whose first container stands at position `pos` of the set `k` (R247). A coded packet takes the ratio in force;
a change from uncoded to coded, and a loaded history whose SEQ does not match, reset the history (R268, R269). -/
def openPacket (s pos : Nat) (k : Delivery) (h : Hub) : Hub :=
  let r := h.ring s
  let sample := k.fmt == fmtS32
  let (ratio, deg) := if sample then h.ratioOf s else (0, false)
  let stale := r.loaded && (bits r.hist.toNat 31 0 + 1) % 2 ^ 32 != h.fld (CIS_SEQ_NEXT s)
  let p : OpenPkt := { fmt := k.fmt, holdover := k.hold, reanchor := k.re, epochNo := h.epochNo, mt := k.mt, lastMt := k.mt
                       slot := k.slot, pos := pos, setw := k.setw, ratio := ratio, degraded := deg, dropped := !r.credit }
  let h := h.setRing s { r with open? := some p, closeDue := false
                                lastRatio := if sample then some ratio else r.lastRatio
                                hreset := r.hreset || (sample && stale) || (r.lastRatio == some 0 && ratio != 0) }
  if sample then (h.put (SIP_STREAM_STAT_RATIO s) ratio).put (SIP_STREAM_STAT_DEGRADED s) (ofBool deg) else h

/-- Put one container of a set into the packet a stream is filling, opening one where none is; the container that fills it, or that
makes the 64th exception run of an S16 or coded packet, closes it (R242). -/
def putCont (s pos : Nat) (k : Delivery) (c : Cont) (h : Hub) : Hub :=
  let h := if (h.ring s).open?.isNone then h.openPacket s pos k else h
  match (h.ring s).open? with
  | none => h
  | some p =>
    let p := { p with conts := p.conts ++ [c], lastMt := k.mt }
    let h := h.setRing s { h.ring s with open? := some p }
    let full := if h.interlock s then 4095 else h.fld (CIS_STREAM_CFG_PKT_SAMPLES s)
    if full ≤ p.conts.length ∨ ((k.fmt = fmtS16 ∨ p.ratio ≠ 0) ∧ 64 ≤ (exceptionRuns 0 p.conts).length)
    then h.closePacket s false else h

/-- The containers of a set, one after the other. -/
def putConts (s pos : Nat) (k : Delivery) (cs : List Cont) (h : Hub) : Hub :=
  match cs with
  | [] => h
  | c :: rest => putConts s (pos + 1) k rest (h.putCont s pos k c)

/-- A record of whole words enters the packet a stream is filling: a sample packet closes, a record that does not fit the open
RECORDS packet starts the next one, and the packet closes when it holds 64 words (R242, R248). -/
def putRecord (s : Nat) (mt : MT) (ws : List Word) (h : Hub) : Hub :=
  let fits := match (h.ring s).open? with
    | some p => p.fmt == fmtRecords && decide (p.conts.length + ws.length ≤ 64)
    | none => true
  let h := if fits then h else h.closePacket s false
  let h := if (h.ring s).open?.isNone then
      h.openPacket s 0 { fmt := fmtRecords, mt := mt, slot := h.now, hold := h.flag MT_STATE_HOLDOVER, re := h.mt.span == .opened }
    else h
  match (h.ring s).open? with
  | none => h
  | some p =>
    let p := { p with conts := p.conts ++ ws.map Cont.word, lastMt := mt }
    let h := h.setRing s { h.ring s with open? := some p }
    let h := if s = 0 then h.tally 131 1 else h
    if 64 ≤ p.conts.length then h.closePacket s false else h

def putRecords (s : Nat) (rs : List (MT × List Word)) (h : Hub) : Hub :=
  rs.foldl (fun (h : Hub) (p : MT × List Word) => h.putRecord s p.1 p.2) h

/-- The set being written ends: its packet closes where that is due, or in an INTERLOCK stream, and the records that waited
follow (R242, R252). -/
def endSet (s : Nat) (h : Hub) : Hub :=
  let r := h.ring s
  let h := h.setRing s { r with inSet := false, closeDue := false, waiting := [] }
  let h := if r.closeDue || !r.waiting.isEmpty || h.interlock s then h.closePacket s false else h
  h.putRecords s r.waiting

/-- What a start has for the stream's next packet: START, and no Siphon history without RESUME (R256, R268). -/
def markStart (s : Nat) (h : Hub) : Hub :=
  let r := h.ring s
  h.setRing s { r with startDue := true, hreset := r.hreset || !h.flag (CIS_STREAM_CFG_RESUME s) }

/-- The last set before the oldest stop has been written: the open packet closes with STOP; with none open, STOP stands on nothing. The
stop is reported with the MT of its slot, and what a later start brings may follow (R256, R272). -/
def finishStop (s : Nat) (h : Hub) : Hub :=
  match (h.ring s).spans with
  | [] => h
  | (_, t) :: rest =>
    let h := if (h.ring s).waiting.isEmpty then h.setRing s { h.ring s with inSet := false } else h.endSet s
    let h := h.closePacket s true
    let h := h.setRing s { h.ring s with spans := rest }
    let h := (h.raiseAt (h.mtAt t) 148 0 [s, 1, h.fld (CIS_SEQ_NEXT s)]).refreshRing s
    if rest.isEmpty && !(h.ring s).running then h else
    let h := h.markStart s
    if rest.isEmpty then (h.setRing s { h.ring s with later := [] }).putRecords s (h.ring s).later else h

/-- A source has reached absolute slot `t`: the stops at or before it have had their last set (R256). -/
def offered (s : Nat) (t : Int) (h : Hub) : Hub :=
  (List.range ((h.ring s).spans.countP fun p => decide (p.2 ≤ t))).foldl (fun (h : Hub) _ => h.finishStop s) h

/-- A source may still bring the stream a set from before a stop: a tap, a burst not emitted to its end, a transfer that runs. -/
def sourceLags (h : Hub) (s : Nat) : Bool :=
  (h.loaded.any fun r => (SMap.get (fun _ => {}) h.se.recipes r).recipe.taps.any fun t => t.2.2 == s)
    || (h.flag TRG_SP_CFG_EN && h.fld TRG_SP_CFG_STREAM == s && (h.sp.burst.isSome || !h.sp.queue.isEmpty))
    || h.mem.chans.any fun p => p.2.feeds == some s

/-- A stop of a stream whose source holds nothing back any more has had its last set (R256). -/
def settleStop (s : Nat) (h : Hub) : Hub :=
  if h.sourceLags s then h else (List.range (h.ring s).spans.length).foldl (fun (h : Hub) _ => h.finishStop s) h

/-- The packet being filled closes before a set that does not follow the cadence or needs other flags (R242). -/
def cutPacket (s : Nat) (k : Delivery) (h : Hub) : Hub :=
  let r := h.ring s
  let cut := match r.open? with
    | some p => r.cad != k.cad || !k.follows || p.fmt != k.fmt || p.holdover != k.hold || p.reanchor != k.re || p.epochNo != h.epochNo
    | none => false
  let h := if cut then h.closePacket s false else h
  h.setRing s { h.ring s with cad := k.cad, lastSet := some k.slot }

/-- While a planned swap waits for the final checkpoint, what a source delivers is held (R441). -/
def holds (h : Hub) (s : Nat) : Bool := h.twn.swap.held && s != 0

def keepBack (s : Nat) (k : Delivery) (h : Hub) : Hub := h.setRing s { h.ring s with kept := (h.ring s).kept ++ [k] }

/-- A source delivers a set to its stream (R241, R242). Nothing is written for a stream without a ring or a stopped one, or before
the slot of its start (R256). -/
def produceSet (s : Nat) (k : Delivery) (h : Hub) : Hub :=
  if h.holds s then h.keepBack s k else
  let h := h.offered s k.slot
  if h.ringSize s == 0 || !h.takes s k.slot || k.conts.isEmpty then h else
  (h.cutPacket s k).putConts s 0 k k.conts

/-- A raw result word of a frame enters a stream: the first word of a frame that does not follow the cadence starts a packet, the
last one ends the set, and an urgent word starts a packet and closes it (R241, R242). -/
def produceRaw (s : Nat) (k : Delivery) (h : Hub) : Hub :=
  if h.holds s then h.keepBack s { k with kind := 2 } else
  let h := if k.urgent && (h.ring s).inSet && !h.takes s k.slot then h else h.offered s k.slot
  if h.ringSize s == 0 || !h.takes s k.slot then h else
  let h := if k.first && (h.ring s).inSet then h.endSet s else h
  let h := if k.urgent || k.first then h.cutPacket s { k with follows := k.follows && !k.urgent } else h
  let h := h.putConts s 0 k k.conts
  if k.urgent then h.closePacket s false
  else if k.last then h.endSet s
  else h.setRing s { h.ring s with inSet := true }

/-- A record of whole words enters a stream, at the end of the set being written (R242); one with an MT from before a stop while sets
from before it may still come (R256). -/
def produceRecord (s : Nat) (mt : MT) (ws : List Word) (h : Hub) : Hub :=
  if h.holds s then h.keepBack s { kind := 1, mt := mt, conts := ws.map Cont.word } else
  if h.ringSize s == 0 then h
  else if s = 0 then h.putRecord s mt ws
  else
    let t := h.slotOf mt
    let h := if h.flag TRG_SP_CFG_EN && h.fld TRG_SP_CFG_STREAM == s then h.offered s t else h
    let r := h.ring s
    if !h.takes s t then h
    else if r.spans.head?.any fun p => decide (p.2 ≤ t) then h.setRing s { r with later := r.later ++ [(mt, ws)] }
    else if r.inSet then h.setRing s { r with waiting := r.waiting ++ [(mt, ws)] }
    else h.putRecord s mt ws

/-! ### Starting and stopping -/

/-- A stream starts at absolute slot `t` (R256). Its Siphon history is kept only with RESUME (R268). -/
def startStream (s : Nat) (t : Int) (h : Hub) : Hub :=
  if s = 0 ∨ (h.ring s).running then h else
  let h := h.setRing s { h.ring s with running := true, startAt := t }
  let h := if (h.ring s).spans.isEmpty then h.markStart s else h
  (h.raise 148 0 [s, 0, h.fld (CIS_SEQ_NEXT s)]).refreshRing s

/-- A stream stops at the current slot: the sets before it are still taken, and the packet that holds the last of them carries
STOP (R256). -/
def stopStream (s : Nat) (h : Hub) : Hub :=
  if s = 0 ∨ ¬ (h.ring s).running then h else
  let r := h.ring s
  let h := (h.setRing s { r with running := false, spans := r.spans ++ [(r.startAt, h.now)] }).refreshRing s
  let h := if h.flag TRG_SP_CFG_EN && h.fld TRG_SP_CFG_STREAM == s then h.cutBurst else h
  h.settleStop s

/-- Starts and stops held for the slot boundary act there (R256, R481). -/
def applyStreamCtl (h : Hub) : Hub :=
  let due := h.cis.ctlDue
  due.foldl (fun h p => if p.2 then h.stopStream p.1 else h.startStream p.1 h.now) { h with cis := { h.cis with ctlDue := [] } }

/-- A packet's release moves ACK; the producer may then get its credit (R251, R253). -/
def releasePackets (s n : Nat) (h : Hub) : Hub :=
  let r := h.ring s
  let h := h.setRing s { r with packets := r.packets.drop n, sent := r.sent - n }
  let dropping : Bool := match r.open? with | some p => p.dropped | none => false
  (if r.credit ∨ dropping then h else h.issueCredit s).refreshRing s

/-- The packets between ACK and WR that have not been acknowledged are reported as lost and released (R259), the one being filled
among them; a span dropped before is then reported too (R258). -/
def gapUnacked (s cause : Nat) (h : Hub) : Hub :=
  let h := h.closePacket s false
  let r := h.ring s
  match gapOf cause r.packets with
  | none => h
  | some g =>
    let h := (h.setRing s { r with packets := [], sent := 0 }).writeGap s g
    (if r.credit then h else h.issueCredit s).refreshRing s

/-- Three-lane operation begins or ends: BULK streams step to or from their degraded ratios at their next packet (R271). -/
def setDegraded (d : Bool) (h : Hub) : Hub :=
  if h.cis.degraded = d then h else
  let h := { h with cis := { h.cis with degraded := d } }
  let n := (List.range 128).countP fun s => h.fld (CIS_STREAM_CFG_CLASS s) == 3 && h.fld (CIS_RING_SIZE_SIZE s) != 0 &&
    h.fld (CIS_STREAM_CFG_DEG_RATIO s) != h.fld (CIS_STREAM_CFG_RATIO s)
  (h.bump SIP_CNT_RATIO_STEPS 1).raise 164 0 [ofBool (!d), n]

/-- Every stream's cadence is broken (R241). -/
def breakCadence (h : Hub) : Hub :=
  { h with mt := { h.mt with breaks := h.mt.breaks + 1 } }

/-! ### Histories (R269) -/

/-- The staged history (R269, R274). -/
def stagedHist (h : Hub) : BitVec 128 :=
  BitVec.ofNat 128 ((h.reg (SIP_HIST_STAGE 3)).toNat * 2 ^ 96 + (h.reg (SIP_HIST_STAGE 2)).toNat * 2 ^ 64
    + (h.reg (SIP_HIST_STAGE 1)).toNat * 2 ^ 32 + (h.reg (SIP_HIST_STAGE 0)).toNat)

/-- RESULT of a load of a history: only a stopped stream with a ring that is coded takes it (R269, R274). -/
def histResult (h : Hub) (s : Nat) : Nat :=
  if s = 0 || h.ringSize s == 0 then 3
  else if h.runs s then 1
  else if h.fld (CIS_STREAM_CFG_RATIO s) = 0 && (h.fld (CIS_STREAM_CFG_CLASS s) != 3 || h.fld (CIS_STREAM_CFG_DEG_RATIO s) == 0) then 2
  else 0

/-- A write of SIP.HIST_COMMIT, held for the next frame tick (R3, R269). -/
def histCommit (s : Nat) (h : Hub) : Hub := { h with cis := { h.cis with histDue := h.cis.histDue ++ [s % 128] } }

/-- A write of SIP.HIST_COMMIT takes effect: the stream takes the staged history, or the load is refused (R269). -/
def loadHist (h : Hub) (s : Nat) : Hub :=
  let r := h.histResult s
  let h := h.put SIP_HIST_COMMIT_STREAM s
  let h := if r = 0 then h.setRing s { h.ring s with hist := h.stagedHist, loaded := true, hreset := false } else h
  ((h.put SIP_HIST_STATUS_RESULT r).put SIP_HIST_STATUS_STREAM s).raise 165 0 [s, r]

/-- The writes of SIP.HIST_COMMIT that were held take effect, in their order. -/
def applyHists (h : Hub) : Hub := h.cis.histDue.foldl loadHist { h with cis := { h.cis with histDue := [] } }

end Sys2Proof.Machine.Hub
end

