-- ==== Sys2Proof/Machine/TrigOps.lean ====
section
/-!
DEFINITION. Shared operations of triggers and trips: arming (R209), mark records (R217), the votes of the trip outputs
(R230, R231) and their clearing (R232).
-/

namespace Sys2Proof.Machine

/-- The flags of word 0 of a mark (R217). -/
structure MarkFlags where
  forced : Bool := false
  frameRes : Bool := false
  noBurst : Bool := false
  extend : Bool := false
  short : Bool := false
  capped : Bool := false
  late : Bool := false
  laterEdge : Bool := false
  deriving DecidableEq, Repr

/-- Word 0 of a mark record (R217). -/
def markWord (kind trg : Nat) (f : MarkFlags) (burst : Nat) : Word :=
  BitVec.ofNat 32 (kind * 2 ^ 28 + trg % 16 * 2 ^ 24 + ofBool f.forced * 2 ^ 23 + ofBool f.frameRes * 2 ^ 22
    + ofBool f.noBurst * 2 ^ 21 + ofBool f.extend * 2 ^ 20 + ofBool f.short * 2 ^ 19 + ofBool f.capped * 2 ^ 18
    + ofBool f.late * 2 ^ 17 + ofBool f.laterEdge * 2 ^ 16 + burst % 65536)

/-- A mark of four words (R217). -/
def markRecord (kind trg : Nat) (f : MarkFlags) (burst : Nat) (m : MT) (w3 : Nat) : List Word :=
  markWord kind trg f burst :: (wide m.pack ++ [w3]).map (BitVec.ofNat 32)

namespace Hub

/-- A USER mark goes to the service stream with the MT of the slot in which its entry executed (R217). -/
def userMark (arg : Nat) (late : Bool) (h : Hub) : Hub :=
  h.produceRecord 0 h.mtNow (markRecord 2 0 { late := late } 0xFFFF h.mtNow arg)

/-- An MMSG mark carries the effective slot E, the code and the argument of the word (R217). -/
def mmsgMark (code arg : Nat) (e : Int) (late : Bool) (h : Hub) : Hub :=
  h.produceRecord 0 (h.mtAt e) (markRecord 3 0 { late := late } 0xFFFF (h.mtAt e) (code * 2 ^ 24 + arg % 4096 * 2 ^ 12))

/-! ### Arming (R208, R209) -/

/-- TRG[t] is armed. -/
def isArmed (h : Hub) (t : Nat) : Bool := bit (h.fld TRG_STAT_ARMED) t

/-- The tick of the window that runs lies in the current slot. -/
def tickedNow (h : Hub) : Bool := match h.trg.window with | some w => w.tick == h.now | none => false

/-- Change the window that runs, where its tick lies in the current slot: an action in slot s governs every frame whose tick
falls at s or later. -/
def onWindowNow (f : Window → Window) (h : Hub) : Hub :=
  match h.trg.window with
  | some w => if w.tick = h.now then { h with trg := { h.trg with window := some (f w) } } else h
  | none => h

/-- Arm TRG[t]; `cause` is 0 Timetable, 1 MMSG, 2 register, 3 arm (R237). The previous match counts as none and the auto
count starts (R208, R211). -/
def armTrigger (cause t : Nat) (h : Hub) : Hub :=
  if h.isArmed t then h else
  let b := BitVec.ofNat 16 (2 ^ t)
  let h := h.put TRG_STAT_ARMED (h.fld TRG_STAT_ARMED + 2 ^ t)
  let h := { h with trg := { h.trg with
    renewed := if h.tickedNow then h.trg.renewed else h.trg.renewed ||| b
    autoRef := SMap.set (fun _ => 0) h.trg.autoRef t h.now } }
  (h.onWindowNow fun w => { w with
    armed := w.armed ||| b, renewed := w.renewed ||| b, refs := SMap.set (fun _ => 0) w.refs t h.now }).raise (80 + t) 1 [cause]

/-- Disarm TRG[t]; `cause` is 0 Timetable, 1 MMSG, 2 register, 3 ONESHOT (R237). A disarmed trigger keeps its auto timer
stopped (R209). -/
def disarmTrigger (cause t : Nat) (h : Hub) : Hub :=
  if ¬ h.isArmed t then h else
  let b := BitVec.ofNat 16 (2 ^ t)
  let h := h.put TRG_STAT_ARMED (h.fld TRG_STAT_ARMED - 2 ^ t)
  (h.onWindowNow fun w => { w with armed := w.armed &&& ~~~b }).raise (80 + t) 2 [cause]

/-- Arm, or disarm, every trigger of a mask in ascending index. -/
def armMask (cause mask : Nat) (h : Hub) : Hub :=
  (List.range 16).foldl (fun h t => if bit mask t then h.armTrigger cause t else h) h

def disarmMask (cause mask : Nat) (h : Hub) : Hub :=
  (List.range 16).foldl (fun h t => if bit mask t then h.disarmTrigger cause t else h) h

/-- Writes to TRG.ARM act at the slot boundary; a bit set in both halves disarms (R209, R481). -/
def applyTrgArm (h : Hub) : Hub :=
  let due := h.trg.armDue
  due.foldl (fun h p => ((h.armMask 2 (p.1 &&& (0xFFFF ^^^ (p.1 &&& p.2)))).disarmMask 2 p.2))
    { h with trg := { h.trg with armDue := [] } }

/-! ### Trip outputs -/

/-- The flag with a number of R230. -/
def tripFlag (h : Hub) (f : Nat) : Bool :=
  if f < 512 then h.flag (AFE_CELL_STAT_CMP_HI f)
  else if f < 1024 then h.flag (AFE_CELL_STAT_CMP_LO (f - 512))
  else if f < 1536 then h.flag (AFE_CELL_STAT_SW (f - 1024))
  else if f < 2048 then h.se.dt.getLsbD (f - 1536)
  else if f < 2112 then h.trg.zones.getLsbD (f - 2048)
  else if f < 2128 then bit (h.fld TRG_TRIG_IN_LEVEL) (f - 2112)
  else if f < 2144 then (match h.trg.window with | some w => w.mmsg.getLsbD (f - 2128) | none => false)
  else decide (h.mt.clock < SMap.get (fun _ => 0) h.trg.fireEnds (f - 2144))

/-- A comparator flag has not changed for `filt` × 5 ns by the end of the current slot; other flags count at once (R231). -/
def filtered (h : Hub) (f filt : Nat) : Bool :=
  decide (1536 ≤ f) || match SMap.find? h.trg.flagAt f with
    | some t => decide (((5 * filt * 1024 * h.bclk : Nat) : Int) ≤ ((h.mt.clock * 1024 + 1024 : Nat) - t) * 10000000)
    | none => true

/-- Input i of TRIP[n] votes and counts as active (R231). -/
def tripActive (h : Hub) (n i : Nat) : Bool :=
  let f := h.fld (TRG_TRIP_SEL_FLAG n i)
  h.flag (TRG_TRIP_SEL_EN n i) && (h.tripFlag f != h.flag (TRG_TRIP_SEL_INV n i)) && h.filtered f (h.fld (TRG_TRIP_CFG_FILT n))

/-- The active inputs of TRIP[n] (R231). -/
def tripVotes (h : Hub) (n : Nat) : Nat := (List.range 64).countP (h.tripActive n)

/-- The condition of TRIP[n] holds (R231). -/
def tripCond (h : Hub) (n : Nat) : Bool :=
  h.flag (TRG_TRIP_CFG_EN n) && decide (h.fld (TRG_TRIP_CFG_K n) ≤ h.tripVotes n)

/-- The hub drives the shared balls as far as its role goes (R424): SOLO, ACTIVE, or RELEASING until H. -/
def holdsActive (h : Hub) : Bool :=
  h.fld TWN_STAT_ROLE == 0 || h.fld TWN_STAT_ROLE == 4 || (h.fld TWN_STAT_ROLE == 6 && !h.twn.swap.past)

/-- The hub drives its TRIP outputs: armed, and ACTIVE or without a twin (R229). -/
def drivesTrips (h : Hub) : Bool := h.fld DEV_STATE_STEP == 6 && h.holdsActive

/-- The trip logic evaluates: where the outputs are driven, and before the resume point of a takeover or swap (R433, R440). -/
def evaluatesTrips (h : Hub) : Bool :=
  h.drivesTrips || (h.fld DEV_STATE_STEP == 6 && (h.fld TWN_STAT_ROLE == 3 || h.fld TWN_STAT_ROLE == 5))

/-- An orderly thermal shutdown, or the entry to the Quiescent state, has driven the shared balls low (R454, R458). -/
def heldLow (h : Hub) : Bool := h.pwr.shutdown || h.pwr.draining

/-- … and has released them, 1 µs later (DESIGN CHOICE, log entry 129). -/
def released (h : Hub) : Bool :=
  (h.pwr.shutdown && decide (h.pwr.shutAt + 1000 ≤ h.lt)) || (h.pwr.draining && decide (h.pwr.entryLt + 1000 ≤ h.lt))

/-- The hub drives TRIP[n] (R229). -/
def tripDriven (h : Hub) (n : Nat) : Bool := h.flag (TRG_TRIP_STAT_DRIVEN n) && !h.released

/-- The carrier of TRIP[n] runs (R228, R232). -/
def tripRuns (h : Hub) (n : Nat) : Bool := h.flag (TRG_TRIP_STAT_PERMIT n) && !h.trg.starting.getLsbD n

/-- The level of ball TRIP[n]: none while it is high impedance, the carrier while it permits, else low (R228, R229). -/
def tripPin (h : Hub) (n : Nat) : Option Bool :=
  if h.tripDriven n then some (h.tripRuns n && decide (h.trg.divider % 4 < 2)) else none

/-- TRIP[n] permits where the hub drives it: its carrier starts with the divider's next high phase (R232, R233); the first one since
the outputs started is reported (R237). -/
def startCarrier (n : Nat) (h : Hub) : Hub :=
  if !h.flag (TRG_TRIP_STAT_DRIVEN n) || h.heldLow || h.flag (TRG_TRIP_STAT_PERMIT n) then h else
  let h : Hub := { h.put (TRG_TRIP_STAT_PERMIT n) 1 with trg := { h.trg with starting := h.trg.starting ||| BitVec.ofNat 16 (2 ^ n) } }
  if h.trg.carried.getLsbD n then h else
  let h : Hub := { h with trg := { h.trg with carried := h.trg.carried ||| BitVec.ofNat 16 (2 ^ n) } }
  h.raise (96 + n) 4 [ofBool h.trg.byTakeover]

/-- A clear request for TRIP[n]; `source` is 0 for a register write, else the code (R232). -/
def clearTrip (source n : Nat) (h : Hub) : Hub :=
  if ¬ h.flag (TRG_TRIP_CFG_EN n) ∨ ¬ h.flag (TRG_TRIP_STAT_LATCHED n) then h
  else if h.tripCond n then h.raise (96 + n) 3 [h.tripVotes n]
  else ((h.put (TRG_TRIP_STAT_LATCHED n) 0).raise (96 + n) 2 [source]).startCarrier n

def clearTrips (source mask : Nat) (h : Hub) : Hub :=
  (List.range 16).foldl (fun h n => if bit mask n then h.clearTrip source n else h) h

/-- The hub starts its TRIP outputs, at arm or at the end of a takeover (R233): each enabled output starts latched, or clear
with the carrier waiting for 1 µs of false condition; latches in `set` start set. -/
def startTrips (byTakeover : Bool) (set : Nat) (h : Hub) : Hub :=
  let h : Hub := { h with trg := { h.trg with carried := 0, byTakeover := byTakeover, permitDue := 0, starting := 0 } }
  (List.range 16).foldl (fun (h : Hub) n =>
    let en := h.flag (TRG_TRIP_CFG_EN n)
    let latched := en && (!h.flag (TRG_TRIP_CFG_ARM_CLEAR n) || bit set n)
    let h := ((h.put (TRG_TRIP_STAT_DRIVEN n) 1).put (TRG_TRIP_STAT_PERMIT n) 0).put (TRG_TRIP_STAT_LATCHED n) (ofBool latched)
    if en && !latched then
      { h with trg := { h.trg with permitDue := h.trg.permitDue ||| BitVec.ofNat 16 (2 ^ n) } }
    else h) h

/-- Every TRIP output that the hub drives goes static low (R233). -/
def lowTrips (h : Hub) : Hub :=
  let h : Hub := { h with trg := { h.trg with permitDue := 0, starting := 0 } }
  (List.range 16).foldl (fun (h : Hub) n => h.put (TRG_TRIP_STAT_PERMIT n) 0) h

/-- The hub stops driving its TRIP outputs (R229). -/
def releaseTrips (h : Hub) : Hub :=
  let h : Hub := { h with trg := { h.trg with permitDue := 0, starting := 0 } }
  (List.range 16).foldl (fun (h : Hub) n => (h.put (TRG_TRIP_STAT_DRIVEN n) 0).put (TRG_TRIP_STAT_PERMIT n) 0) h

end Hub

end Sys2Proof.Machine
end

