-- ==== Sys2Proof/Machine/Time.lean ====
section
/-!
DEFINITION. Shared operations of Machine Time: the slot clock and the flywheel (R26, R35), anchoring and re-anchoring (R30,
R33, R43), late entries (R53, R54), and what acts at a slot boundary (R55, R481).
-/

namespace Sys2Proof.Machine

/-- States of the MT counter (R29). -/
inductive CounterState where
  | waitBclk | unanchored | track | pending | holdover | relocked
  deriving DecidableEq, Repr

def CounterState.code : CounterState → Nat
  | .waitBclk => 0 | .unanchored => 1 | .track => 2 | .pending => 3 | .holdover => 4 | .relocked => 5

namespace Hub

/-- The state MT.STATE.STATE reports (R29). -/
def counter (h : Hub) : CounterState :=
  match h.fld MT_STATE_STATE with
  | 0 => .waitBclk | 1 => .unanchored | 2 => .track | 3 => .pending | 4 => .holdover | _ => .relocked

def setCounter (c : CounterState) (h : Hub) : Hub := h.put MT_STATE_STATE c.code

/-- The 40-bit turn of the count (R7). -/
def turn40 (h : Hub) : Nat := (h.mt.turn % 1099511627776).toNat

def revEn (h : Hub) : Bool := h.flag MT_CTRL_REV_EN
def revOffset (h : Hub) : Nat := h.fld MT_TURN_CFG_REV_OFFSET

/-- Put the count on an absolute slot. -/
def placeAt (t : Int) (h : Hub) : Hub :=
  { h with mt := { h.mt with turn := t / (h.spt : Int), slot := (t % (h.spt : Int)).toNat } }

/-! ### Late entries -/

/-- The smallest number of instances to skip so that the next one of a series lies after slot W + 2 (R53). -/
def lateCount (e : TtEntry) (w : Int) : Nat :=
  if w + 2 < e.next then 0 else ((w + 2 - e.next) / (e.period : Int)).toNat + 1

/-- The next grid instance of the series that runs (R47, R123). -/
def moveGrid (i : Nat) (e : TtEntry) (h : Hub) : Hub :=
  if h.cnv.series = some i ∧ e.ran then { h with cnv := { h.cnv with gridNext := some e.next } } else h

/-- Judge entry `i`, written at slot `w`, for lateness (R53). Late instances of a series are skipped against COUNT; a late
one-shot is dropped, or put down for slot W + 1. -/
def judgeLate (i : Nat) (w : Int) (h : Hub) : Hub :=
  let e : TtEntry := h.entry i
  if ¬ e.enable ∨ e.type = 0 ∨ 11 ≤ e.type ∨ e.spent ∨ w + 2 < e.next then h
  else if e.period ≠ 0 then
    let n := lateCount e w
    let n := if e.count = 0 then n else min n (e.count - e.done)
    let e' := { e with done := e.done + n }
    let h := h.moveGrid i e'
    (h.setEntry i (if e'.spent then e'.withEnable false else e')).raise 200 0 [i, n]
  else if e.lateNow then
    { h with tt := { h.tt with lateNow := h.tt.lateNow.filter (fun p => p.1 ≠ i) ++ [(i, e.next, w + 1)] } }
  else (h.setEntry i ({ e with done := 1 }.withEnable false)).raise 200 0 [i, 1]

/-- N₀ of an entry on the extended turn: START_TURN lies within 2^39 turns of the turn current when it is written (R27). -/
def placedEntry (h : Hub) (raw : BitVec 128) : TtEntry :=
  let e : TtEntry := { raw := raw }
  { e with base := extend h.mt.turn e.startTurn * h.spt + e.startSlot }

/-- The commit that waits is applied whole, cancels what is pending of the old content, and is judged for lateness with W the
slot of the boundary (R53, R55). INDEX of MT.TT_COMMIT_STATUS stays that of the last write, also where the RESULT of lateness is
that of an earlier one (log entry 116). -/
def applyCommit (h : Hub) : Hub :=
  match h.tt.commit with
  | none => h
  | some (i, raw) =>
    let h : Hub := { h with tt := { h.tt with
      commit := none
      actions := h.tt.actions.filter (fun a => a.entry ≠ i)
      carried := h.tt.carried.filter (fun p => p.1 ≠ i)
      lateNow := h.tt.lateNow.filter (fun p => p.1 ≠ i) } }
    let h : Hub := { h with fi := { h.fi with known := h.fi.known.filter (fun e => e ≠ i) } }
    let h := h.setEntry i (h.placedEntry raw)
    let e : TtEntry := h.entry i
    let late : Bool := if e.next ≤ h.now + 2 then e.enable && e.type != 0 && decide (e.type < 11) else false
    let h := h.put MT_TT_COMMIT_STATUS_PENDING 0
    let h := if late then h.put MT_TT_COMMIT_STATUS_RESULT (if e.period = 0 && e.lateNow then 7 else 6) else h
    h.judgeLate i h.now

/-- Move an action late: MT moved forward from `old` to the anchoring slot `w` at or past its slot E before it has run, so it
runs in slot w + 1 (R482). -/
def lateAction (old w : Int) (a : EvAction) : EvAction :=
  if old < w ∧ a.due ≤ w then { a with due := w + 1, late := true } else a

def lateActions (old w : Int) (h : Hub) : Hub :=
  { h with tt := { h.tt with actions := h.tt.actions.map (lateAction old w) } }

/-- After a move of MT forward from `old` to `w`, every entry whose due time was passed is written anew at `w` (R53). -/
def judgePassed (old w : Int) (h : Hub) : Hub :=
  h.tt.entries.foldl (fun (h : Hub) (p : Nat × TtEntry) =>
    if old ≤ (h.entry p.1).next ∧ (h.entry p.1).next < w then h.judgeLate p.1 w else h) h

/-- Place an entry on the extended turn in force (R27). -/
def replace (h : Hub) (e : TtEntry) : TtEntry := { e with base := (h.placedEntry e.raw).base }

/-! ### Slot boundaries -/

/-- What acts at a slot boundary: the live commit first (R50, R55), then writes to TRG.ARM and CIS.STREAM_CTL (R481). -/
def slotBoundary (h : Hub) : Hub := h.applyCommit.applyTrgArm.applyStreamCtl

/-- Slot-clock edges turn the trip divider, which is independent of MT (R228) and at whose high phase carriers start (R232), run off the 16 turns of MT.STATE.MMSG_SEEN, and
are counted (R351). -/
def clockEdges (n : Nat) (h : Hub) : Hub :=
  let left := h.mt.seenLeft
  let h := if 0 < left ∧ left ≤ n then h.put MT_STATE_MMSG_SEEN 0 else h
  let starting := if h.trg.divider % 4 + n < 4 then h.trg.starting else 0
  ({ h with mt := { h.mt with seenLeft := left - n, clock := h.mt.clock + n }
            trg := { h.trg with divider := (h.trg.divider + n) % 4, starting := starting } }).tally 184 n

/-- MT moves from one absolute slot to another: what is interpolated across the move is marked (R33, R43), and the edge of the
last tick, and those from which conversions count their slots, keep their distance in physical slots (R38). -/
def noteJump (old new : Int) (h : Hub) : Hub :=
  { h with
    mt := { h.mt with lastEdge := h.mt.lastEdge.map (· + (new - old)) }
    cnv := { h.cnv with convs := h.cnv.convs.map fun cv => { cv with base := cv.base + (new - old) } }
    se := { h.se with jumps := h.se.jumps ++ [(old, new)], cross := true }, ft := { h.ft with moved := true } }

/-- The 16 turns of R43 begin, where MMSG is enabled. -/
def openAdopt (h : Hub) : Hub :=
  { h with mt := { h.mt with adoptUntil := if h.flag MT_CTRL_MMSG_EN then some (h.now + 16 * h.spt) else none } }

/-- Compare a turn word that announced this edge with the count, or adopt its turn after a re-lock (R37, R43). -/
def compareTurn (h : Hub) (tw : TurnWord) : Hub :=
  let old := h.turn40
  match h.mt.adoptUntil with
  | some _ =>
    let h : Hub := { h with mt := { h.mt with adoptUntil := none } }
    if tw.turn = old then h.put MT_STATE_TURN_MISMATCH 0 else
    let t := extend h.mt.turn tw.turn
    let before := h.now
    let h : Hub := { h with mt := { h.mt with turn := t, turnFlag := some t } }
    let h := h.raise 197 0 (wide old ++ wide tw.turn)
    let h := h.breakCadence.noteJump before h.now
    let h := h.lateActions before h.now
    h.judgePassed before h.now
  | none =>
    if h.counter ≠ .track then h
    else if tw.turn = old then h.put MT_STATE_TURN_MISMATCH 0
    else (h.put MT_STATE_TURN_MISMATCH 1).raise 199 0 (wide old ++ wide tw.turn)

/-- Every turn word that announced this edge is compared with the count, in the order of acceptance (R23, R37, R43). -/
def checkTurnWord (h : Hub) : Hub :=
  let due (tw : TurnWord) : Bool := decide (tw.notBefore ≤ h.now)
  (h.mt.turnWords.filter due).foldl compareTurn
    { h with mt := { h.mt with turnWords := h.mt.turnWords.filter fun tw => !due tw } }

/-- What a turn's end clears: the records kept to one per turn. -/
def turnEnd (h : Hub) : Hub :=
  { h with trg := { h.trg with noBurstDone := 0 }
           wl := { h.wl with retxDone := false }
           mem := { h.mem with chans := SMap.update (fun _ => {}) (fun _ c => { c with missedReported := false }) h.mem.chans } }

/-- The flywheel wraps at this edge: slot becomes 0 and turn increments (R26). A wrap in TRACK or PENDING without an on-count
REV in the turn that ends, or on this edge where REV_OFFSET is 0, is a missing marker (R35). -/
def wrap (revHere : Bool) (h : Hub) : Hub :=
  let seen := if h.revOffset = 0 then revHere else h.mt.revSeen
  let h : Hub := { h with mt := { h.mt with turn := h.mt.turn + 1, slot := 0, revSeen := false } }
  let h := h.turnEnd
  let h := if h.flag MT_STATE_HOLDOVER then h.bump MT_HOLD_TURNS_TURNS 1 else h
  if h.revEn && !seen && (h.counter == .track || h.counter == .pending) then
    let h := (h.bump MT_REV_ERR_CNT_MISSING 1).raise 193 0 (wide h.turn40)
    let h : Hub := { h with mt := { h.mt with missRun := h.mt.missRun + 1 } }
    if h.fld MT_CTRL_REV_MISS_LIMIT ≤ h.mt.missRun then h.put MT_STATE_REV_OK 0 else h
  else if h.revEn then h else h.checkTurnWord

/-- One slot-clock edge of the anchored count, `rev` telling whether a REV marker falls on it. -/
def edge (rev : Bool) (h : Hub) : Hub :=
  let h := (h.clockEdges 1).passTime
  if h.mt.slot + 1 < h.spt then { h with mt := { h.mt with slot := h.mt.slot + 1 } }
  else h.wrap rev

/-- The count runs on over `n` wraps, from slot to slot 0 of the following turns; no marker falls on them. -/
def runWraps (n : Nat) (h : Hub) : Hub :=
  match n with
  | 0 => h
  | n + 1 =>
    let k := h.spt - 1 - h.mt.slot
    let h := (h.clockEdges k).passTime
    runWraps n ({ h with mt := { h.mt with slot := h.spt - 1 } }.edge false)

/-- The count runs on to absolute slot `t`, without effect where it lies behind. What waits for a slot boundary acts at the
first boundary passed. -/
def advanceTo (t : Int) (h : Hub) : Hub :=
  if t ≤ h.now ∨ ¬ h.mt.anchored then h else
  let h := (h.edge false).slotBoundary
  let h := runWraps (t / (h.spt : Int) - h.mt.turn).toNat h
  if h.now < t then ((h.clockEdges (t - h.now).toNat).passTime).placeAt t else h

/-! ### Anchors -/

/-- The first anchor (R30): turn and slot are set, the counter enters TRACK, the image's entries are placed on the extended
turn and judged for lateness with W the anchoring slot, held writes act, and streams with RUN_INIT start, in a pair on the active hub
(R53, R256, R425, R481). -/
def firstAnchor (turn slot : Nat) (byRev : Bool) (h : Hub) : Hub :=
  let t := if h.mt.placed then extend h.mt.turn turn else (turn : Int)
  let h : Hub := { h with mt := { h.mt with
    turn := t, slot := slot, anchored := true, placed := true, fly := none, turnWords := [], revSeen := byRev,
    missRun := 0, lastGood := t * (h.spt : Int) + slot } }
  let h := (h.setCounter .track).put MT_STATE_REV_OK (ofBool byRev)
  let h := h.raise 207 0 (wide turn)
  let h : Hub := { h with tt := { h.tt with entries := SMap.update (fun _ => {}) (fun _ => h.replace) h.tt.entries } }
  let h := h.applyCommit
  let h := h.tt.entries.foldl (fun (h : Hub) (p : Nat × TtEntry) => h.judgeLate p.1 h.now) h
  let h := (List.range 127).foldl (fun h s =>
    if h.flag (CIS_STREAM_CFG_RUN_INIT (s + 1)) ∧ h.holdsActive then h.startStream (s + 1) h.now else h) h
  h.applyTrgArm.applyStreamCtl

/-- The count is placed by a re-anchoring REV whose edge the flywheel gives slot `h.mt.slot` (R33): slot becomes REV_OFFSET,
on the nearest on-count position. A move forward past an entry's due time, or past an action's slot, makes it late
(R53, R482); what has run never runs again (R54). -/
def reanchor (h : Hub) : Hub :=
  let n := h.spt
  let off := h.revOffset
  let s := h.mt.slot
  let s' := (s + n - off) % n
  let old := h.now
  let d : Int := if n ≤ 2 * s' then (n : Int) - s' else -(s' : Int)
  let h := h.placeAt (old + d)
  let h := ((h.put MT_LAST_ANCHOR_VALID 1).sput MT_LAST_ANCHOR_D d).setCounter .track
  let h : Hub := { h with mt := { h.mt with revSeen := true, missRun := 0, span := .closing } }
  let h := (h.put MT_STATE_REV_OK 1).raise 194 0 [sword d]
  let w := h.now
  let h := h.breakCadence.noteJump old w
  let h := h.lateActions old w
  h.judgePassed old w

end Hub

end Sys2Proof.Machine
end

