-- ==== Sys2Proof/Machine/CellOps.lean ====
section
/-!
DEFINITION. Shared operations of input cells and groups (R61-R104): modes and roles, FAULT and SETTLING marking, comparator
outputs, the dead-interval estimate of a range switch, the Dipstick estimate.
-/

namespace Sys2Proof.Machine

namespace Hub

def cell (h : Hub) (c : Nat) : Cell := SMap.get (fun _ => {}) h.afe.cells c

def setCell (c : Nat) (x : Cell) (h : Hub) : Hub :=
  { h with afe := { h.afe with cells := SMap.set (fun _ => {}) h.afe.cells c x } }

def group (h : Hub) (g : Nat) : Group := SMap.get (fun _ => {}) h.afe.groups g

def setGroup (g : Nat) (x : Group) (h : Hub) : Hub :=
  { h with afe := { h.afe with groups := SMap.set (fun _ => {}) h.afe.groups g x } }

/-! ### Modes and roles -/

/-- MODE of an input (R62). -/
def mode (h : Hub) (c : Nat) : Nat := h.fld (AFE_CELL_CFG_MODE c)

/-- The odd input of a BR or RES pair (R75). -/
def isPartner (h : Hub) (c : Nat) : Bool := c % 2 == 1 && (h.mode (c - 1) == 3 || h.mode (c - 1) == 4)

/-- The input whose settings hold for an input: the even one of a pair (R75). -/
def pairOf (h : Hub) (c : Nat) : Nat := if h.isPartner c then c - 1 else c

/-- An input that produces result words (R62, R111). -/
def acquires (h : Hub) (c : Nat) : Bool := h.mode c != 0 && !h.isPartner c

/-- GAIN, or CA_RANGE in CA mode (R63). -/
def setting (h : Hub) (c : Nat) : Nat :=
  if h.mode c == 2 then h.fld (AFE_CELL_CFG_CA_RANGE c) else h.fld (AFE_CELL_CFG_GAIN c)

/-- Full scale of a CA range in fC (R63). -/
def rangeFs (r : Nat) : Nat := 1000 * 10 ^ r

/-- The group's AFE domain is powered. -/
def afePowered (h : Hub) (g : Nat) : Bool := bit (h.fld PWR_DOM_STAT_AFE) g

/-- The ADC of an input converts (R131, R135). -/
def adcIn (h : Hub) (c : Nat) : Bool := h.flag (CNV_ADC_STAT_IN_SERVICE (c / 32))

/-- The spare stands in for an input (R100). -/
def spareIn (h : Hub) (c : Nat) : Bool := h.flag (AFE_CELL_STAT_SPARE_IN c)

/-- The cell that serves an input: n = 17g + i (R105). -/
def servingCell (h : Hub) (c : Nat) : Nat := 17 * (c / 16) + (if h.spareIn c then 16 else c % 16)

/-- The MT of the last frame tick. -/
def tickMt (h : Hub) : MT := match h.mt.lastTick with | some t => h.mtAt t | none => h.mtNow

/-- A group event (R103): its details open with the input index within the group, 15 for a group-wide cause. -/
def groupEvent (g cause idx : Nat) (detail : List Nat) (h : Hub) : Hub := h.raise g cause (idx :: detail)

/-! ### Spans -/

/-- Frames whose tick lies at most `ns` after a tick, on the frame period in force (R132). -/
def framesWithin (h : Hub) (ns : Nat) : Nat :=
  let p := h.fld CNV_FRAME_PERIOD_SLOTS
  if p = 0 then 0 else ns * h.bclk / (10000000 * p)

/-- A change at this tick opens a span of at least `n` frames and `ns` nanoseconds (R132-R134). -/
def openSpan (c n ns : Nat) (h : Hub) : Hub :=
  let x := h.cell c
  h.setCell c { x with settle := max x.settle (max n (h.framesWithin ns)) }

/-- A change freezes the comparators of an input through the last SETTLING frame it causes (R86). -/
def freezeFor (c n : Nat) (h : Hub) : Hub :=
  if n = 0 then h else
  (h.setCell c { h.cell c with freeze := max (h.cell c).freeze (n + 1) }).put (AFE_CELL_STAT_FROZEN c) 1

/-- The odd input of a pair shows SETTLING, SETTLE_LEFT, FROZEN and SPARE_IN of the pair (R75, R100), which are its even input's. -/
def mirrorPair (c : Nat) (h : Hub) : Hub :=
  let copy (f : Nat → Fld) (h : Hub) : Hub := h.put (f c) (h.fld (f (c - 1)))
  copy AFE_CELL_STAT_SPARE_IN (copy AFE_CELL_STAT_FROZEN (copy AFE_CELL_STAT_SETTLE_LEFT (copy AFE_CELL_STAT_SETTLING h)))

/-- An input that is no partner any more shows what is its own. -/
def leavePair (c : Nat) (h : Hub) : Hub :=
  (((h.put (AFE_CELL_STAT_SPARE_IN c) 0).put (AFE_CELL_STAT_FROZEN c) (ofBool (decide (0 < (h.cell c).freeze)))).put
    (AFE_CELL_STAT_SETTLE_LEFT c) 0).put (AFE_CELL_STAT_SETTLING c) 0

/-- A span of at least `n` frames and `ns`, with the comparators frozen through it. -/
def changeSpan (c n ns : Nat) (h : Hub) : Hub := (h.openSpan c n ns).freezeFor c (max n (h.framesWithin ns))

/-- The wait for 16 lead measurements of a 3-wire pair (R80). -/
def leadWait (h : Hub) (c : Nat) : Bool :=
  h.mode c == 4 && h.fld (AFE_CELL_CFG_WIRES c) == 1 && decide ((SMap.get (fun _ => []) h.afe.leads c).length < 16)

/-! ### Comparators -/

/-- The source of an input's channel bit (R204). -/
def chSrc (h : Hub) (c : Nat) : Nat := bits (h.reg (TRG_CH_SRC (c / 16))).toNat (2 * (c % 16) + 1) (2 * (c % 16))

/-- The cell of an input is switched away to be measured in place (R367): from the end of its conversion to the end of the group's
calibration slot, in a frame that measures it. -/
def switchedOut (h : Hub) (c : Nat) : Bool :=
  match SMap.find? h.cal.groups (c / 16), h.mt.lastEdge with
  | some r, some t0 =>
    let t : Int := 2 * (h.now - t0)
    r.place.any (fun p => p.1 == h.pairOf c) && r.placeFrame.any fun f =>
      f + 1 == h.cnv.taken && decide (t < (33 + c / 16 % 2 + (SMap.get (fun _ => {}) h.cnv.adcs (c / 32)).shift : Nat))
        && h.cnv.convs.all fun cv => cv.input != h.pairOf c || cv.frame != f || cv.urgent || decide ((cv.slot : Int) < t)
  | _, _ => false

/-- The outputs of an input's comparators, HI, LO and SW: forced while it is marked FAULT (R87), kept while frozen (R86, R367), 0 in
OFF mode (R84). A change to OFF freezes them first, although an OFF input has no SETTLING frame (DESIGN CHOICE, log entry 119). -/
def cmpOut (h : Hub) (c : Nat) : Bool × Bool × Bool :=
  let x := h.cell c
  if h.flag (AFE_CELL_STAT_FAULT c) then
    (if h.flag (AFE_CELL_CFG_CMP_FAILSAFE (h.pairOf c)) then (true, false, true) else (false, false, false))
  else if h.flag (AFE_CELL_STAT_FROZEN c) || h.switchedOut c then
    (h.flag (AFE_CELL_STAT_CMP_HI c), h.flag (AFE_CELL_STAT_CMP_LO c), h.flag (AFE_CELL_STAT_SW c))
  else if h.acquires c then (x.rawHi, x.rawLo, x.rawSw)
  else (false, false, false)

/-- Drive one of an input's comparator flags, at `fine`/1024 of the current slot: a change of it is timed (R231). -/
def driveFlag (f : Fld) (number fine : Nat) (on : Bool) (h : Hub) : Hub :=
  if h.flag f = on then h else
  { h.put f (ofBool on) with trg := { h.trg with
    flagAt := SMap.insert h.trg.flagAt number ((h.mt.clock * 1024 + fine : Nat) : Int) } }

/-- Drive an input's comparator outputs at `fine`/1024 of the current slot. -/
def driveCmpAt (c fine : Nat) (h : Hub) : Hub :=
  let (hi, lo, sw) := h.cmpOut c
  ((h.driveFlag (AFE_CELL_STAT_CMP_HI c) c fine hi).driveFlag (AFE_CELL_STAT_CMP_LO c) (512 + c) fine lo).driveFlag
    (AFE_CELL_STAT_SW c) (1024 + c) fine sw

/-- Drive an input's comparator outputs. -/
def driveCmp (c : Nat) (h : Hub) : Hub := h.driveCmpAt c 0

/-- The channel bit of an input as its source stands (R204): 0 for a partner or an OFF input. -/
def chanBit (h : Hub) (c : Nat) : Bool :=
  h.acquires c && match h.chSrc c with
    | 0 => h.flag (AFE_CELL_STAT_CMP_HI c)
    | 1 => h.flag (AFE_CELL_STAT_CMP_LO c)
    | 3 => h.flag (AFE_CELL_STAT_SW c)
    | _ => false

/-! ### FAULT marking -/

/-- The excitation fault of R77 applies to an input: a BR or RES one. -/
def excApplies (h : Hub) (c : Nat) : Bool :=
  (h.mode c == 3 || h.mode c == 4) && ((h.group (c / 16)).limitFault || (h.group (c / 16)).senseFault)

/-- The string fault of R82 applies to an input: a RES one. -/
def strApplies (h : Hub) (c : Nat) : Bool := h.mode c == 4 && (h.group (c / 16)).stringFault

/-- What marks an input FAULT: the excitation, the Dipstick or the string until R98 clears them (R77, R82, R97), a failed cell until
the spare joins (R130). -/
def faulty (h : Hub) (c : Nat) : Bool :=
  (h.cell c).dipFault || (h.cell c).strFault || (h.cell c).cellFault || (h.cell c).excFault

/-- Mark an input FAULT, or end the marking; the group bitmaps follow and the comparators take the fail state (R87). -/
def markFault (c : Nat) (on : Bool) (h : Hub) : Hub :=
  let h := h.put (AFE_CELL_STAT_FAULT c) (ofBool on)
  let b := 2 ^ (c % 16)
  let w := h.fld (AFE_GRP_STAT_FAULT (c / 16))
  let w' := if on then w ||| b else w &&& (65535 ^^^ b)
  (h.put (AFE_GRP_STAT_FAULT (c / 16)) w').driveCmp c

/-- FAULT_SUSPECT of an input shows what its ball has given, or either ball of a pair (R94). -/
def showSuspect (c : Nat) (h : Hub) : Hub :=
  let on := (h.cell c).suspect || (h.isPartner (c + 1) && (h.cell (c + 1)).suspect)
  let h := h.put (AFE_CELL_STAT_FAULT_SUSPECT c) (ofBool on)
  let b := 2 ^ (c % 16)
  let w := h.fld (AFE_GRP_STAT_SUSPECT (c / 16))
  h.put (AFE_GRP_STAT_SUSPECT (c / 16)) (if on then w ||| b else w &&& (65535 ^^^ b))

/-- The FAULT marking of an input or pair ends, and is reported (R98). -/
def endFault (c : Nat) (h : Hub) : Hub :=
  let h := (h.setCell c { h.cell c with source := none, clear := false }).markFault c false
  let h := if h.isPartner (c + 1) then h.markFault (c + 1) false else h
  h.groupEvent (c / 16) 3 (c % 16) (wide h.mtNow.pack)

/-- INEXACT is set, and reported when it was clear (R69, R72). -/
def setInexact (c : Nat) (m : MT) (h : Hub) : Hub :=
  let x := h.cell c
  if x.inexact then h else
  (h.setCell c { x with inexact := true }).groupEvent (c / 16) 6 (c % 16) (wide m.pack)

/-- The dead-interval charge of R72 for the frame with charge `q1` after `q2`, in the unit of the two: numerator and
denominator. `d` and `t` are D and T in CLK_ADC periods. -/
def deadCharge (q1 q2 : Int) (sloped : Bool) (d t : Nat) : Int × Nat :=
  if t = 0 then (0, 1)
  else if sloped then ((d : Int) * (2 * t * q1 + (q1 - q2) * (t + d)), 2 * t * t)
  else ((d : Int) * q1, t)

/-! ### The Dipstick -/

/-- DIV: 64 × m with the least m that brings f_frame / DIV to 20 kHz or below, for a period in slots (R88). -/
def dipDiv (h : Hub) (period : Nat) : Nat :=
  -- f_frame = 100 × bclk / period Hz ≤ 20,000 × 64 × m
  if period = 0 then 0 else 64 * max 1 ((100 * h.bclk + 1280000 * period - 1) / (1280000 * period))

/-- The sliding estimate over the last 256 period sums: magnitude in Q1.15 (R90). -/
def dipMag (x : Cell) : Nat :=
  let i := (x.sums.map ToneSum.i).sum
  let q := (x.sums.map ToneSum.q).sum
  min 65535 (isqrt (i * i + q * q).toNat / 256)

/-- Its phase in units of 2π/1,024 rad, as a code of 10 bits: one of the two next to it, the spec stating no rounding; of an
estimate that is 0, any (R90). -/
def dipPhase (x : Cell) : Nat :=
  let i := (x.sums.map ToneSum.i).sum
  let q := (x.sums.map ToneSum.q).sum
  let free := Config.dipPhase i q
  if i = 0 ∧ q = 0 then free % 1024
  else unsigned 10 (argFloor 10 i q + (if onOctant i q then 0 else ((free % 2 : Nat) : Int)))

/-- The magnitude of one tone period. -/
def periodMag (p : ToneSum) : Nat := min 65535 (isqrt (p.i * p.i + p.q * p.q).toNat)

/-- A magnitude lies in the healthy band BASE_MAG ± TOL × BASE_MAG / 256 (R91). -/
def healthy (h : Hub) (c mag : Nat) : Bool :=
  let b := h.fld (AFE_DIP_BASE_BASE_MAG c)
  let t := h.fld (AFE_DIP_BASE_TOL c)
  decide (256 * b ≤ 256 * mag + t * b) && decide (256 * mag ≤ 256 * b + t * b)

/-- The tone runs for an input: its cell is powered and acquires, with DIP_EN, while a series runs (R89, R92). -/
def toneRuns (h : Hub) (c : Nat) : Bool :=
  h.acquires c && h.flag (AFE_CELL_CFG_DIP_EN c) && h.afe.dipFrames.isSome && h.afePowered (c / 16)

/-- The tick that opened the tone period that ended last (R97). -/
def periodTick (h : Hub) : MT :=
  let div := h.fld AFE_DIP_STAT_DIV
  let n := h.afe.dipFrames.getD 0
  h.afe.dipTicks.getD (ceilDiv n div - n / div) {}

/-- The Dipstick decides for an input (R91, R98). -/
def dipDecides (h : Hub) (c : Nat) : Bool := h.flag (AFE_CELL_CFG_DIP_EN c) && h.fld (AFE_DIP_BASE_TOL c) != 0

/-- An open-detect comparator of an input, or of either ball of a pair, reads high (R94). -/
def openReads (h : Hub) (c : Nat) : Bool := (h.cell c).openHi || (h.isPartner (c + 1) && (h.cell (c + 1)).openHi)

/-- The conditions of R98: the estimate in band for 256 periods, the open-detect comparator low, no excitation or string fault,
and with FAULT_LATCH a clear request. -/
def mayClear (h : Hub) (c : Nat) : Bool :=
  (!h.dipDecides c || decide (256 ≤ (h.cell c).inBand)) && (h.mode c == 2 || !h.openReads c)
    && !h.excApplies c && !h.strApplies c && (!h.flag (AFE_CELL_CFG_FAULT_LATCH c) || (h.cell c).clear)

/-- A FAULT of the excitation, the Dipstick or the string clears once the conditions of R98 hold. -/
def tryClear (c : Nat) (h : Hub) : Hub :=
  if ((h.cell c).dipFault || (h.cell c).strFault || (h.cell c).excFault) && h.mayClear c then
    h.setCell c { h.cell c with dipFault := false, strFault := false, excFault := false }
  else h

/-- The tone and the lock-in restart at the first tick of a FRAME_SERIES; every group reports the new DIV (R92). -/
def dipRestart (period : Nat) (h : Hub) : Hub :=
  let div := h.dipDiv period
  let h := (h.put AFE_DIP_STAT_FULL 0).put AFE_DIP_STAT_DIV div
  let h : Hub := { h with afe := { h.afe with
    dipFrames := some 0
    dipTicks := []
    cells := SMap.update (fun _ => {}) (fun _ x => { x with sums := [], periods := 0, inBand := 0, lastPeriod := none }) h.afe.cells } }
  (List.range 32).foldl (fun (h : Hub) (g : Nat) => h.groupEvent g 0x0B 15 [div]) h

end Hub

end Sys2Proof.Machine
end

