-- ==== Sys2Proof/Machine/Kernels.lean ====
section
/-!
DEFINITION. The kernels of the signal engines (R144-R152): what one stage makes of the next set of its chain. Codes and
parameter words are those of R146.
-/

namespace Sys2Proof.Machine

/-- The rank of a quality code in the order of R9: FILL, FAULT, CLIPPED, SETTLING, DEFERRED, WEAK, SPARE, VALID. -/
def qRank (q : Nat) : Nat :=
  match q with
  | 7 => 0 | 6 => 1 | 2 => 2 | 1 => 3 | 4 => 4 | 5 => 5 | 3 => 6 | _ => 7

/-- Of two codes, the one that stands first in R9. -/
def qJoin (a b : Nat) : Nat := if qRank b < qRank a then b else a

/-- FILL or FAULT. -/
def Sample.lost (x : Sample) : Bool := x.q == 7 || x.q == 6

/-- A stage's FILL output. -/
def Sample.fill : Sample := { v := 0, q := 7 }

/-- The parameter words of a bank. -/
def Stage.params (s : Stage) (bank : Nat) : List Word := s.banks.getD bank (s.banks.getD 0 [])

/-- Parameter word `i` of a bank. -/
def Stage.word (s : Stage) (bank i : Nat) : Nat := ((s.params bank).getD i 0).toNat

/-- The payload bytes of a recipe's record (R158). -/
def Recipe.bytes (r : Recipe) : Nat := 4 * r.words.length

/-- A filtering stage (R148). -/
def Stage.filters (s : Stage) : Bool :=
  s.kernel == 1 || s.kernel == 2 || s.kernel == 3 || s.kernel == 4 || s.kernel == 10 || s.kernel == 11

/-- Saturation to `w` bits; answers whether it acted (R147). -/
def satTo (w : Nat) (x : Int) : Int × Bool :=
  let lo : Int := -(2 ^ (w - 1) : Nat)
  let hi : Int := (2 ^ (w - 1) : Nat) - 1
  if x < lo then (lo, true) else if hi < x then (hi, true) else (x, false)

/-! ### Filtering stages -/

/-- A lane takes its next input: the value it computes with, where a FILL or FAULT input is replaced by the last earlier one
that was neither, or 0 (R148). -/
def Lane.take (x : Sample) (l : Lane) : Lane × Int :=
  let v := if x.lost then l.last else x.v
  ({ l with n := l.n + 1, last := v, seen := l.seen.set x.q (l.n + 1) }, v)

/-- The first code, in the order of R9, among the last `span` inputs of a lane. -/
def Lane.spanQ (span : Nat) (l : Lane) : Nat :=
  (List.range 8).foldl (fun q c =>
    let k := l.seen.getD c 0
    if k != 0 && decide (l.n < k + span) then qJoin q c else q) 0

/-- An output of a filtering stage: its code from the span of inputs, the stage's history, and saturation (R148). -/
def Lane.emit (span history : Nat) (v : Int) (sat : Bool) (l : Lane) : Lane × Option Sample :=
  let q := l.spanQ span
  let q := if l.outs < history then qJoin q 1 else q
  let q := if sat then qJoin q 2 else q
  ({ l with outs := l.outs + 1 }, some { v := v, q := q })

/-- The least s with 2^s ≥ n. -/
def clog2 (n : Nat) : Nat := if n ≤ 1 then 0 else Nat.log2 (n - 1) + 1

/-- The integrators of a CIC in registers of `w` bits. -/
def integrate (w : Nat) : List Int → Int → List Int × Int
  | [], x => ([], x)
  | a :: rest, x =>
    let y := (a + x) % (2 ^ w : Nat)
    let (r, z) := integrate w rest y
    (y :: r, z)

/-- The combs of a CIC, differential delay 1. -/
def comb (w : Nat) : List Int → Int → List Int × Int
  | [], x => ([], x)
  | p :: rest, x =>
    let (r, z) := comb w rest ((x - p) % (2 ^ w : Nat))
    (x :: r, z)

/-- CIC: order M, ratio R, register width, PRESHIFT and the stored gain correction G_C; integrators and combs are modular,
y = round(acc × G_C / 2^(s + 23)), multiplied back by 2^PRESHIFT (R152 and its kernel text). -/
def cicStep (s : Stage) (bank bits' : Nat) (x : Sample) (l : Lane) : Lane × Option Sample :=
  let w0 := s.word bank 0
  let r := max 1 (bits w0 31 16)
  let m := bits w0 2 0
  let pre := bits w0 15 8
  let g := bits (s.word bank 1) 23 0
  let gain := clog2 (r ^ m)
  let w := if 24 + gain ≤ 40 then 40 else 80
  let (l, v) := l.take x
  let l := if l.a.isEmpty then { l with a := List.replicate m 0, b := List.replicate m 0 } else l
  let (a, y) := integrate w l.a (roundConv v (2 ^ pre))
  let l := { l with a := a }
  if l.n % r != 0 then (l, none) else
  let (b, c) := comb w l.b y
  let (y, sat) := satTo bits' (roundConv (signed w c.toNat * g) (2 ^ (gain + 23)) * (2 ^ pre : Nat))
  { l with b := b }.emit (m * (r - 1) + 1) (ceilDiv ((m - 1) * (r - 1)) r) y sat

/-- Coefficient i of a FIR, Q1.15, two to a word. -/
def firCoef (s : Stage) (bank i : Nat) : Int :=
  let w := s.word bank (1 + i / 2)
  signed 16 (if i % 2 = 0 then w / 65536 else w)

/-- FIR: y = round(Σ h[i] x[mD + D − 1 − i] / 2^15), only the outputs it keeps. -/
def firStep (s : Stage) (bank bits' : Nat) (x : Sample) (l : Lane) : Lane × Option Sample :=
  let n := bits (s.word bank 0) 31 16
  let d := max 1 (bits (s.word bank 0) 15 0)
  let (l, v) := l.take x
  let l := { l with a := (v :: l.a).take n }
  if l.n % d != 0 then (l, none) else
  let sum := ((List.range n).map fun i => firCoef s bank i * l.a.getD i 0).sum
  let (y, sat) := satTo bits' (roundConv sum 32768)
  l.emit n (ceilDiv n d - 1) y sat

/-- The sections of an IIR in Direct Form I: five products, each rounded by 22 bits, summed and saturated to 32 bits; the
states of a section are x₁, x₂, y₁, y₂. Answers the states, the output and whether a section saturated. -/
def iirSections (s : Stage) (bank k : Nat) : List Int → Int → Nat → List Int × Int × Bool
  | x1 :: x2 :: y1 :: y2 :: rest, x, j + 1 =>
    let c (i : Nat) : Int := signed 24 (s.word bank (1 + 5 * k + i))
    let p (i : Nat) (v : Int) : Int := roundConv (c i * v) 4194304
    let (y, sat) := satTo 32 (p 0 x + p 1 x1 + p 2 x2 - p 3 y1 - p 4 y2)
    let (r, z, sat') := iirSections s bank (k + 1) rest y j
    (x :: x1 :: y :: y1 :: r, z, sat || sat')
  | st, x, _ => (st, x, false)

def iirStep (s : Stage) (bank bits' : Nat) (x : Sample) (l : Lane) : Lane × Option Sample :=
  let h := bits (s.word bank 0) 31 16
  let n := bits (s.word bank 0) 3 0
  let (l, v) := l.take x
  let l := if l.a.isEmpty then { l with a := List.replicate (4 * n) 0 } else l
  let (a, y, sat) := iirSections s bank 0 l.a (v * 256) n
  let (y, sat') := satTo bits' (roundConv y 256)
  { l with a := a }.emit h h y (sat || sat')

/-- The entry of the 1,024-entry Q1.15 table for a position in a tone period of `div` frames, cosine and sine, rounded convergently and
saturated (R147, R152). With DIV 64 or 128 every position has an entry of its own. -/
def toneTable (pos div : Nat) : Int × Int :=
  let z := onCircle 10 (1024 * pos / max 1 div)
  let q (x : Int) : Int := clamp (-32768) 32767 (roundConv (32768 * x) (2 ^ 60))
  (q z.1, q z.2)

/-- TONE_REMOVE: the sums over the running period, then the sums of the last AVG periods, newest first; the amplitude pair
they give is subtracted throughout the next period. -/
def toneStep (s : Stage) (bank bits' : Nat) (set : SampleSet) (x : Sample) (l : Lane) : Lane × Option Sample :=
  let avg := bits (s.word bank 0) 7 0
  let (co, si) := toneTable set.pos set.div
  let (l, v) := l.take x
  let i := (List.range (l.b.length / 2)).map (fun k => l.b.getD (2 * k) 0) |>.sum
  let q := (List.range (l.b.length / 2)).map (fun k => l.b.getD (2 * k + 1) 0) |>.sum
  let den := set.div * avg * 2 ^ 30
  let y := if den = 0 then v else roundConv (v * (den : Nat) - 2 * (i * co + q * si)) den
  let si' := l.a.getD 0 0 + v * co
  let sq' := l.a.getD 1 0 + v * si
  let l := if set.pos + 1 = set.div then { l with a := [0, 0], b := (si' :: sq' :: l.b).take (2 * avg) }
           else { l with a := [si', sq'] }
  let (y, sat) := satTo bits' y
  l.emit 1 (avg * set.div) y sat

/-- The filtering kernels that work lane by lane. -/
def laneStep (s : Stage) (bank bits' : Nat) (set : SampleSet) (x : Sample) (l : Lane) : Lane × Option Sample :=
  match s.kernel with
  | 1 => toneStep s bank bits' set x l
  | 2 => cicStep s bank bits' x l
  | 3 => firStep s bank bits' x l
  | 4 => iirStep s bank bits' x l
  | _ => (l, some x)

/-- The lanes of a stage, one for each value of the set. -/
def StageState.fit (n : Nat) (st : StageState) : List Lane :=
  st.lanes ++ List.replicate (n - st.lanes.length) ({} : Lane)

def filterStage (s : Stage) (bank bits' : Nat) (set : SampleSet) (st : StageState) : StageState × List SampleSet :=
  let r := (set.xs.zip (st.fit set.xs.length)).map fun (x, l) => laneStep s bank bits' set x l
  let st := { st with lanes := r.map Prod.fst, started := some (st.started.getD set.slot) }
  let out := r.filterMap Prod.snd
  (st, if out.length = set.xs.length && out.length != 0 then [{ set with xs := out }] else [])

/-! ### RESAMPLE -/

/-- Cubic Lagrange interpolation of inputs i − 1 to i + 2 at μ in Q0.16, rounded convergently. -/
def lagrange (mu a b c d : Int) : Int :=
  let one : Int := 65536
  roundConv (-(mu * (mu - one) * (mu - 2 * one)) * a + 3 * (mu + one) * (mu - one) * (mu - 2 * one) * b
    - 3 * (mu + one) * mu * (mu - 2 * one) * c + (mu + one) * mu * (mu - one) * d) (6 * 2 ^ 48)

/-- The grid points of absolute slots `lo` ≤ p < `hi` (every turn has its points at PHASE + j × STEP). -/
def gridPoints (spt phase step : Nat) (lo hi : Int) : List Int :=
  (List.range (hi - lo).toNat).map (fun i => lo + (i : Nat)) |>.filter fun p =>
    let s := (p % (spt : Int)).toNat
    decide (phase ≤ s) && (s - phase) % max 1 step == 0

/-- The moves of MT put an absolute slot on the count before them: none where the slot was skipped. -/
def unjump : List (Int × Int) → Int → Option Int
  | [], p => some p
  | (old, new) :: rest, p =>
    match unjump rest p with
    | none => none
    | some p => if new < p then some (p - (new - old)) else if old < p then none else some p

/-- RESAMPLE takes input i + 2 and makes the grid points from tick i to tick i + 1: skipped points are FILL, points of a span
with a re-anchor, turn correction or skipped tick are computed on uniform spacing and SETTLING. -/
def resampleStage (s : Stage) (bank bits' spt : Nat) (mtOf : Int → MT) (set : SampleSet) (st : StageState) :
    StageState × List SampleSet :=
  let step := bits (s.word bank 0) 27 16
  let phase := bits (s.word bank 0) 11 0
  let r := (set.xs.zip (st.fit set.xs.length)).map fun (x, l) =>
    let (l, v) := l.take x
    { l with a := (v :: l.a).take 4 }
  let sets := (set :: st.sets).take 3
  let st := { st with lanes := r, sets := sets, started := some (st.started.getD set.slot) }
  match sets with
  | c :: b :: a :: _ =>
    -- ticks a.slot ≤ p < b.slot, with c the newest
    let moved := c.cross || b.cross || a.cross
    let ps := (gridPoints spt phase step a.slot b.slot).filter fun p =>
      match st.emitted with | some e => decide (e < p) | none => true
    let one (p : Int) : SampleSet :=
      match unjump b.jumps p with
      | none => { a with slot := p, mt := mtOf p, xs := set.xs.map fun _ => .fill }
      | some u =>
        let mu := roundConv (65536 * (u - a.slot)) (max 1 c.period)
        { a with slot := p, mt := mtOf p, xs := r.map fun l =>
            let (y, sat) := satTo bits' (lagrange mu (l.a.getD 3 0) (l.a.getD 2 0) (l.a.getD 1 0) (l.a.getD 0 0))
            let q := l.spanQ 4
            let q := if l.n ≤ 3 || moved then qJoin q 1 else q
            { v := y, q := if sat then qJoin q 2 else q } }
    ({ st with emitted := ps.getLast?.orElse fun _ => st.emitted }, ps.map one)
  | _ => (st, [])

/-! ### Window stages -/

/-- A block takes an input: FILL and FAULT spoil it, else the first code in the order of R9 is kept (R149). -/
def Lane.note (x : Sample) (l : Lane) : Lane := { l with n := l.n + 1, bad := l.bad || x.lost, q := qJoin l.q x.q }

/-- The outputs of a lane's block, FILL throughout where an input of the block was FILL or FAULT (R149). -/
def Lane.close (spoilt : Bool) (out : List (Int × Bool)) (l : Lane) : List Sample :=
  out.map fun (v, sat) => if l.bad || spoilt then .fill else { v := v, q := if sat then qJoin l.q 2 else l.q }

/-- BAND_POWER of bin `k` over a block (R152): 2|X_k|/L, or |X_k|/L for k = 0 and k = L/2, with an error of at most 1 value code plus
64 codes (2^-16 FS), or 1,024 of them (2^-12 FS) for L above 4,096; a free value decides within that limit. -/
def bandPower (k : Nat) (xs : List Int) : Int :=
  let len := xs.length
  let sum := (xs.zip (List.range len)).foldl (fun (a : Int × Int) p =>
    let z := circleAt (k * p.2) len
    (a.1 + p.1 * z.1 / 2 ^ 40, a.2 + p.1 * z.2 / 2 ^ 40)) (0, 0)
  -- |X_k| in units of 2^-20
  let x := isqrt (sum.1 * sum.1 + sum.2 * sum.2).toNat * (if k = 0 ∨ 2 * k = len then 1 else 2)
  let den := 2 ^ 20 * max 1 len
  let near : Nat := (x + den / 2) / den
  let whole := decide (x < near * den + den / 1024) && decide (near * den < x + den / 1024)
  let err : Nat := if len ≤ 4096 then 65 else 1025
  let free := Config.bandError k xs
  max 0 (if whole then (near : Int) + (free % (2 * err + 1) : Nat) - err else (x / den : Nat) + ((free % (2 * err) : Nat) : Int) + 1 - err)

/-- RMS and BAND_POWER over blocks of L inputs: the set that opened the block gives the MT. -/
def blockStage (s : Stage) (bank bits' : Nat) (set : SampleSet) (st : StageState) : StageState × List SampleSet :=
  let len := bits (s.word bank 0) 31 16 + 1
  let opened := st.opened.getD set
  let ls := (set.xs.zip (st.fit set.xs.length)).map fun (x, l) =>
    let l := l.note x
    if s.kernel = 5 then { l with a := [l.a.getD 0 0 + x.v, l.a.getD 1 0 + x.v * x.v] } else { l with a := l.a ++ [x.v] }
  let st := { st with lanes := ls, opened := some opened, started := some (st.started.getD set.slot) }
  if (ls.headD {}).n < len then (st, []) else
  let outs (l : Lane) : List (Int × Bool) :=
    if s.kernel = 5 then
      let s1 := l.a.getD 0 0
      let s2 := l.a.getD 1 0
      let v : Nat := if bit (s.word bank 0) 0 then sqrtConv (len * s2 - s1 * s1).toNat (len * len) else sqrtConv s2.toNat len
      [satTo bits' v]
    else (List.range (bits (s.word bank 0) 3 0 + 1)).map fun k =>
      satTo bits' (bandPower (bits (s.word bank (1 + 2 * k)) 15 0) l.a)
  ({ st with lanes := ls.map fun _ => {}, opened := none },
    [{ set with mt := opened.mt, slot := opened.slot, xs := ls.flatMap fun l => l.close false (outs l) }])

/-- Full scale of a CA range in fC, the unit of the exact charge being 2^-22 fC (R63). -/
def chargeFs (mode : Nat) : Int := 1000 * (10 ^ (mode % 8) : Nat)

/-- The outputs of a window that closes: MIN, MAX, MEAN, COUNT, or the charge as two samples (kernels 7 and 8). -/
def windowOut (s : Stage) (bits' : Nat) (l : Lane) : List (Int × Bool) :=
  if s.kernel = 7 then
    let n := (l.a.getD 3 0).toNat
    if n = 0 then [satTo bits' (Config.emptyWindow 0), satTo bits' (Config.emptyWindow 1), satTo bits' (Config.emptyWindow 2),
      (0, false)]
    else [(l.a.getD 0 0, false), (l.a.getD 1 0, false), (roundConv (l.a.getD 2 0) n, false), satTo 24 n]
  else
    let fc := unsigned 48 (l.a.getD 0 0 / 4194304)
    [(signed 24 (fc / 2 ^ 24), false), (signed 24 fc, false)]

/-- The window closes: its outputs carry the start of its first turn. The fraction below 1 fC goes into the next window. -/
def closeWindow (s : Stage) (bits' spt : Nat) (mtOf : Int → MT) (st : StageState) : StageState × List SampleSet :=
  match st.turn, st.opened with
  | some t, some o =>
    let at' := t * (spt : Int)
    ({ st with turn := none, opened := none, partial? := false
               lanes := st.lanes.map fun l => if s.kernel = 8 then { a := [l.a.getD 0 0 % 4194304] } else {} },
      [{ o with mt := mtOf at', slot := at', xs := st.lanes.flatMap fun l => l.close st.partial? (windowOut s bits' l) }])
  | _, _ => (st, [])

/-- The first turn of the window that holds turn `t`: the last turn with turn mod TURNS = PHASE. -/
def windowTurn (s : Stage) (bank : Nat) (t : Int) : Int :=
  let n : Nat := bits (s.word bank 0) 31 16 + 1
  let p : Nat := bits (s.word bank 0) 15 0
  t - (t % (2 ^ 40 : Nat) - (p : Int)) % (n : Int)

/-- TURN_WINDOW and CHARGE_ACC take an input; the first one beyond a window closes it. -/
def windowStage (s : Stage) (bank bits' spt : Nat) (mtOf : Int → MT) (set : SampleSet) (st : StageState) :
    StageState × List SampleSet :=
  let t := windowTurn s bank (set.slot / (spt : Int))
  let (st, out) := match st.turn with
    | some u => if u = t then (st, []) else closeWindow s bits' spt mtOf st
    | none => (st, [])
  let started := st.started.getD set.slot
  let st := if st.turn.isSome then st else
    { st with turn := some t, opened := some set, partial? := decide (t * (spt : Int) < started) }
  let ls := ((set.xs.zip (st.fit set.xs.length)).zip (List.range set.xs.length)).map fun ((x, l), i) =>
    if s.kernel = 7 then
      if bit (s.word bank 1) 0 && x.q == 1 then l else
      let l := l.note x
      let n := l.a.getD 3 0
      { l with a := [if n = 0 then x.v else min (l.a.getD 0 0) x.v, if n = 0 then x.v else max (l.a.getD 1 0) x.v,
                     l.a.getD 2 0 + x.v, n + 1] }
    else
      let mode := set.modes.getD i 0
      let x := if mode / 8 == 2 then x else { x with q := 7 }
      if bit (s.word bank 1) 0 && x.q == 1 then l else
      let l := l.note x
      { l with a := [l.a.getD 0 0 + x.v * chargeFs mode] }
  ({ st with lanes := ls, started := some started }, out)

/-! ### DTS_TEMP -/

/-- L(z) = ln(S/A) in units of 2^-60. -/
def dtsLog (b : Nat × Sample × Sample) : Int := lnFix b.2.1.v.toNat - lnFix b.2.2.v.toNat

/-- K = GAMMA / T_ref − L_ref + Δα·z_ref in units of 2^-60: GAMMA in Q10.22, T_ref as `ref` m°C above 273.15 K, Δα in 2^-40 per metre,
the reference section from bin `first` to bin `last` at `pitch` mm, and its bins. -/
def dtsK (gamma : Nat) (ref dalpha : Int) (pitch first last : Nat) (good : List (Nat × Sample × Sample)) : Int :=
  (gamma : Int) * 1000 * 2 ^ 38 / (ref + 273150) - (good.map dtsLog).sum / (good.length : Int)
    + dalpha * 2 ^ 20 * (pitch * (first + last) : Nat) / 2000

/-- T(z) = GAMMA / (L(z) + K − Δα·z) in m°C relative to 273.15 K, off by less than 1 m°C: one of the two next to it. -/
def dtsT (gamma : Nat) (k dalpha : Int) (pitch : Nat) (b : Nat × Sample × Sample) : Int :=
  let x := dtsLog b + k - dalpha * 2 ^ 20 * (pitch * b.1 : Nat) / 1000
  let n : Int := (gamma : Int) * 1000 * 2 ^ 38
  let free := Config.dtsError k b.1 b.2.1.v.toNat b.2.2.v.toNat
  if x = 0 then signed 24 free
  else n / x - 273150 + (if n % x = 0 then 0 else ((free % 2 : Nat) : Int))

/-! ### DAS_BIN and ZONE_ENERGY -/

/-- DAS_BIN groups B consecutive gates: the mean of those that are not WEAK; fewer than MIN_GOOD of them give WEAK, value 0. -/
def binStage (s : Stage) (bank bits' : Nat) (set : SampleSet) (st : StageState) : StageState × List SampleSet :=
  let b := max 1 (bits (s.word bank 0) 24 16)
  let good := bits (s.word bank 0) 8 0
  let r := (set.xs.zip (st.fit set.xs.length)).map fun (x, l) =>
    let (l, v) := l.take x
    (l, ({ v := v, q := x.q } : Sample))
  let ys := r.map Prod.snd
  let bin (j : Nat) : Sample :=
    let gs := ((ys.drop (j * b)).take b).filter fun x => x.q != 5
    if gs.length < good || gs.isEmpty then { v := 0, q := 5 } else
    let (y, sat) := satTo bits' (roundConv (gs.map Sample.v).sum gs.length)
    let q := gs.foldl (fun q x => qJoin q x.q) 0
    { v := y, q := if sat then qJoin q 2 else q }
  ({ st with lanes := r.map Prod.fst, started := some (st.started.getD set.slot) },
    [{ set with xs := (List.range (ys.length / b)).map bin }])

/-- A zone of ZONE_ENERGY: FIRST, LAST, ZONE_BIT, TH_HI, TH_LO. -/
def zoneOf (s : Stage) (bank z : Nat) : Nat × Nat × Nat × Nat × Nat :=
  let w (i : Nat) : Nat := s.word bank (1 + 4 * z + i)
  (bits (w 0) 31 16, bits (w 0) 15 0, bits (w 1) 5 0, bits (w 2) 23 0, bits (w 3) 23 0)

/-- ZONE_ENERGY at a block end: for each zone the bit, and its new value where it has one. Lanes hold, by position, the value
of the launch before; the sums of the block stand in one further lane for each zone. -/
def zoneStage (s : Stage) (bank : Nat) (set : SampleSet) (st : StageState) :
    StageState × List SampleSet × List (Nat × Bool) :=
  let launches := bits (s.word bank 0) 31 16 + 1
  let zones := bits (s.word bank 0) 5 0 + 1
  let n := set.xs.length
  let prev := (st.lanes.take n).map fun l => l.last
  let had := !st.lanes.isEmpty
  let zs := (List.range zones).map fun z =>
    let (first, last, _, _, _) := zoneOf s bank z
    let l : Lane := st.lanes.getD (n + z) {}
    ((List.range n).filter fun i => decide (first ≤ i) && decide (i ≤ last)).foldl (fun (l : Lane) i =>
      let x := set.xs.getD i {}
      let l := if x.q = 5 then l else l.note x
      if x.q = 5 || !had then l else
      let d := x.v - prev.getD i 0
      { l with a := [l.a.getD 0 0 + d * d, l.a.getD 1 0 + 1] }) l
  let count := (st.lanes.getD (n + zones) {}).n + 1
  let keep := set.xs.map fun x => ({ last := x.v } : Lane)
  let opened := st.opened.getD set
  let started := some (st.started.getD set.slot)
  if count < launches then
    ({ st with lanes := keep ++ zs ++ [{ n := count }], opened := some opened, started := started }, [], [])
  else
    let out := (List.range zones).map fun z =>
      let (_, _, zb, hi, lo) := zoneOf s bank z
      let l : Lane := zs.getD z {}
      let sum := l.a.getD 0 0
      let c := (l.a.getD 1 0).toNat
      let e := if c = 0 then Config.emptyZone z else roundConv sum (256 * c)
      let y := if 8388607 < e then 8388607 else e
      let x : Sample := if l.bad then .fill else { v := y, q := if y = e then l.q else qJoin l.q 2 }
      let set1 := if c = 0 then decide ((hi : Int) < e) else decide (((256 * c * hi : Nat) : Int) < sum)
      let clr := if c = 0 then decide (e < (lo : Int)) else decide (sum < ((256 * c * lo : Nat) : Int))
      (x, if l.bad then none else if set1 then some (zb, true) else if clr then some (zb, false) else none)
    ({ st with lanes := keep ++ List.replicate (zones + 1) ({} : Lane), opened := none, started := started },
      [{ set with xs := out.map Prod.fst }], out.filterMap Prod.snd)

end Sys2Proof.Machine
end

