-- ==== Sys2Proof/Machine/Engines.lean ====
section
/-!
DEFINITION. Shared operations of the signal engines (R140-R165): chains run, digital thresholds are evaluated, taps fill
streams, engines fail and are replaced. The commands of the chapter stand in EngineCmds.lean.
-/

namespace Sys2Proof.Machine.Hub

def recipe (h : Hub) (r : Nat) : RecipeState := SMap.get (fun _ => {}) h.se.recipes r

def setRecipe (r : Nat) (x : RecipeState) (h : Hub) : Hub :=
  { h with se := { h.se with recipes := SMap.set (fun _ => {}) h.se.recipes r x } }

/-- The recipes an engine holds by their records. -/
def recipesOf (h : Hub) (e : Nat) : List Nat := h.loaded.filter fun r => (h.recipe r).recipe.engine == e

/-- The width of the values of a recipe: DAS phases have 16 bits (R147). -/
def valueBits (h : Hub) (r : Nat) : Nat := if (h.recipe r).recipe.source = 1 then 16 else 24

/-! ### Turn boundaries (R156) -/

/-- The number of slots that covers 20 µs. -/
def slots20us (h : Hub) : Int := ((2 * h.bclk + 999) / 1000 : Nat)

/-- The first tick of the running FRAME_SERIES at or after slot `t`; `t` itself while none runs (R156). -/
def tickFrom (h : Hub) (t : Int) : Int :=
  match h.cnv.series with
  | none => t
  | some e =>
    let x : TtEntry := h.entry e
    let p : Int := x.period
    if x.period = 0 then t else t + (x.base - t) % p

/-- The first turn boundary at or after slot `t`: the frame tick at or after slot 0 of a turn (R156). -/
def boundaryFrom (h : Hub) (t : Int) : Int :=
  let turn := t / (h.spt : Int)
  let b := h.tickFrom (turn * h.spt)
  if t ≤ b then b else h.tickFrom ((turn + 1) * h.spt)

/-! ### Digital thresholds (R153-R155) -/

def setDt (c : Nat) (on : Bool) (h : Hub) : Hub :=
  let b := BitVec.ofNat 512 (2 ^ c)
  { h with se := { h.se with dt := if on then h.se.dt ||| b else h.se.dt &&& ~~~b } }

def dtCounts (h : Hub) (c : Nat) : Nat × Nat :=
  (SMap.get (fun _ => 0) h.se.dtHi c, SMap.get (fun _ => 0) h.se.dtLo c)

def setDtCounts (c : Nat) (hi lo : Nat) (h : Hub) : Hub :=
  { h with se := { h.se with
    dtHi := SMap.set (fun _ => 0) h.se.dtHi c hi
    dtLo := SMap.set (fun _ => 0) h.se.dtLo c lo } }

/-- The flag takes its fail state and both counts are cleared (R153, R161). -/
def dtFail (c : Nat) (h : Hub) : Hub := (h.setDt c (h.flag (SE_DT_CFG_FAILSAFE c))).setDtCounts c 0 0

/-- A value of input `c` is evaluated (R153). -/
def evalDt (c : Nat) (x : Sample) (h : Hub) : Hub :=
  if !h.flag (SE_DT_CFG_EN c) || x.q == 1 then h
  else if x.lost then h.dtFail c
  else
    let n := h.fld (SE_DT_CFG_PERSIST c)
    let (hi, lo) := h.dtCounts c
    let up := decide (h.sfld (SE_DT_TH_HI_TH c) < x.v)
    let dn := decide (x.v < h.sfld (SE_DT_TH_LO_TH c))
    let hi := if up then min 255 (hi + 1) else 0
    let lo := if dn then min 255 (lo + 1) else 0
    let h := h.setDtCounts c hi lo
    if up && decide (n ≤ hi) then h.setDt c true else if dn && decide (n ≤ lo) then h.setDt c false else h

/-- The fast form evaluates a frame word; the state vectors of its frame and of later ones see the result (R154, R205). -/
def fastDt (c frame : Nat) (x : Sample) (h : Hub) : Hub :=
  if h.flag (SE_DT_CFG_SRC c) then h else
  let h := h.evalDt c x
  let on := h.se.dt.getLsbD c
  let b := BitVec.ofNat 512 (2 ^ c)
  let f (w : Window) : Window := if frame ≤ w.frame then { w with dt := if on then w.dt ||| b else w.dt &&& ~~~b } else w
  { h with trg := { h.trg with window := h.trg.window.map f, closedWin := h.trg.closedWin.map f } }

/-- The engine form evaluates the values of each input at the DIG_THRESHOLD stage of recipe `r` (R155). -/
def engineDt (r : Nat) (set : SampleSet) (h : Hub) : Hub :=
  let ins := (h.recipe r).recipe.inputs
  let w := set.xs.length / max 1 ins.length
  (ins.zip (List.range ins.length)).foldl (fun (h : Hub) (c, i) =>
    if h.flag (SE_DT_CFG_SRC c) && h.fld (SE_DT_CFG_RECIPE c) == r then
      ((set.xs.drop (i * w)).take w).foldl (fun (h : Hub) x => h.evalDt c x) h
    else h) h

/-! ### Zones -/

def setZone (z : Nat) (on : Bool) (h : Hub) : Hub :=
  let b := BitVec.ofNat 64 (2 ^ z)
  { h with trg := { h.trg with zones := if on then h.trg.zones ||| b else h.trg.zones &&& ~~~b } }

/-! ### Chains -/

def stageState (h : Hub) (r k : Nat) : StageState := (h.recipe r).chain.getD k {}

def setStageState (r k : Nat) (st : StageState) (h : Hub) : Hub :=
  let x := h.recipe r
  h.setRecipe r { x with chain := (x.chain ++ List.replicate (k + 1 - x.chain.length) ({} : StageState)).set k st }

/-- The source on which a recipe's engine raises its events (R165). -/
def engineSource (h : Hub) (r : Nat) : Nat := 48 + h.fld (SE_RECIPE_STAT_ENGINE r)

/-- DTS_TEMP over a cycle whose bins arrive as pairs of Stokes and anti-Stokes sums, each with its count of 2^16: FILL where a
sum is 0, WEAK below MIN_COUNT; without a reference the last K is kept and every bin is SETTLING. -/
def dtsStage (r bank : Nat) (s : Stage) (set : SampleSet) (st : StageState) (h : Hub) : StageState × List SampleSet × Hub :=
  let first := (h.recipe r).recipe.first
  let gamma := s.word bank 0
  let dalpha := signed 32 (s.word bank 1)
  let refF := bits (s.word bank 2) 31 16
  let refL := bits (s.word bank 2) 15 0
  let minCount := s.word bank 3
  let pitch := bits (s.word bank 4) 15 0
  let bins := (List.range (set.xs.length / 2)).map fun i => (first + i, set.xs.getD (2 * i) {}, set.xs.getD (2 * i + 1) {})
  let code (b : Nat × Sample × Sample) : Nat :=
    if b.2.1.lost || b.2.2.lost || b.2.1.v ≤ 0 || b.2.2.v ≤ 0 then 7
    else if b.2.1.v < (minCount * 65536 : Nat) then qJoin 5 (qJoin b.2.1.q b.2.2.q) else qJoin b.2.1.q b.2.2.q
  let good := bins.filter fun b => decide (refF ≤ b.1) && decide (b.1 ≤ refL) && code b != 7 && code b != 5
  let ev (cause : Nat) (h : Hub) : Hub := h.raise (h.engineSource r) cause (r :: wide set.mt.pack)
  let lostNow := good.isEmpty
  let h := if lostNow && !st.lost then ev 6 h else if !lostNow && st.lost then ev 7 h else h
  let k := if lostNow then st.kept else
    some (dtsK gamma (h.sfld SE_DTS_REF_T_TEMP) dalpha pitch refF refL good)
  let out := bins.map fun b =>
    match k with
    | none => Sample.fill
    | some k =>
      if code b = 7 then .fill else
      let (t, sat) := satTo 24 (dtsT gamma k dalpha pitch b)
      let q := if lostNow then qJoin (code b) 1 else code b
      { v := t, q := if sat then qJoin q 2 else q }
  ({ st with kept := k, lost := lostNow }, [{ set with xs := out }], h)

/-- Stage `k` of recipe `r` takes a set; `fill` says that its engine has failed. Answers the sets it makes. -/
def runStage (r k : Nat) (s : Stage) (fill : Bool) (set : SampleSet) (h : Hub) : List SampleSet × Hub :=
  let st := h.stageState r k
  let bank := (h.recipe r).bank
  let w := h.valueBits r
  match s.kernel with
  | 9 => ([set], if fill then h else h.engineDt r set)
  | 10 =>
    let (st, out) := resampleStage s bank w h.spt h.mtAt set st
    (out, h.setStageState r k st)
  | 11 =>
    let (st, out) := binStage s bank w set st
    (out, h.setStageState r k st)
  | 12 =>
    let (st, out, zs) := zoneStage s bank set st
    let h := h.setStageState r k st
    let settling := out.any fun o => o.xs.any fun x => x.q == 1
    let x := h.recipe r
    let h := if x.failHold && !fill && !out.isEmpty && !settling then h.setRecipe r { x with failHold := false } else h
    (out, if fill || (h.recipe r).failHold then h else zs.foldl (fun (h : Hub) z => h.setZone z.1 z.2) h)
  | 13 =>
    if fill then ([{ set with xs := List.replicate (set.xs.length / 2) .fill }], h) else
    let (st, out, h) := h.dtsStage r bank s set st
    (out, h.setStageState r k st)
  | 5 | 6 =>
    let (st, out) := blockStage s bank w set st
    (out, h.setStageState r k st)
  | 7 | 8 =>
    let (st, out) := windowStage s bank w h.spt h.mtAt set st
    (out, h.setStageState r k st)
  | _ =>
    let (st, out) := filterStage s bank w set st
    (out, h.setStageState r k st)

/-- A value of a set as a container of a tap (R244, R245). -/
def tapCont (das s16 : Bool) (x : Sample) : Cont :=
  if !s16 then .sample x.v x.q
  else if das then
    let (v, sat) := satTo 16 x.v
    .sample v (if sat then qJoin x.q 2 else x.q)
  else s16Of x.v x.q

/-- The output of stage `k` goes to its taps; a failed engine's outputs are paced as FILL with value 0 (R161). -/
def tapOut (r k : Nat) (fill : Bool) (set : SampleSet) (h : Hub) : Hub :=
  let x := h.recipe r
  let xs := if fill then set.xs.map fun _ => Sample.fill else set.xs
  let taps := x.recipe.taps.countP fun t => t.1 == k
  let h := if fill then h.setRecipe r { x with paced := x.paced + taps * xs.length } else h
  x.recipe.taps.foldl (fun (h : Hub) (t : Nat × Bool × Nat) =>
    if t.1 = k then
      h.produceSet t.2.2 { fmt := if t.2.1 then fmtS16 else fmtS32, mt := set.mt, slot := set.slot, setw := xs.length, cad := set.cad
                           hold := set.hold, re := set.re, conts := xs.map (tapCont (x.recipe.source == 1) t.2.1) }
    else h) h

/-- Sets pass through the stages of a chain from stage number `k` on. -/
def runStages (r : Nat) (fill : Bool) (k : Nat) : List Stage → List SampleSet → Hub → Hub
  | [], _, h => h
  | s :: rest, sets, h =>
    let (outs, h) := sets.foldl (fun (acc : List SampleSet × Hub) set =>
      let (o, h) := acc.2.runStage r k s fill set
      (acc.1 ++ o, h)) ([], h)
    let st := h.stageState r k
    let h := h.setStageState r k { st with made := st.made + outs.length }
    let h := outs.foldl (fun (h : Hub) set => h.tapOut r (k + 1) fill set) h
    runStages r fill (k + 1) rest outs h

/-- Restarts whose boundary lies at or before a set clear the chain from their stage on and set the bank (R150, R156). -/
def meetRestarts (r : Nat) (t : Int) (h : Hub) : Hub :=
  let x := h.recipe r
  let due := x.restarts.filter fun p => decide (p.1 ≤ t)
  let h := h.setRecipe r { x with restarts := x.restarts.filter fun p => decide (t < p.1) }
  due.foldl (fun (h : Hub) (p : Int × Nat × Nat) =>
    let x := h.recipe r
    h.setRecipe r { x with chain := x.chain.take p.2.1, bank := p.2.2 }) h

/-- The next set of a recipe's input passes through its chain. -/
def runRecipe (r : Nat) (set : SampleSet) (h : Hub) : Hub :=
  let h := h.meetRestarts r set.slot
  let x := h.recipe r
  let before : Bool := match x.fillTo with | some t => decide (set.slot < t) | none => false
  let fill := h.flag (SE_RECIPE_STAT_FILLING r) || before
  h.runStages r fill 0 x.recipe.stages [set]

/-- A chain restarts at slot `t` from its first stage, with the bank in force from there on (R150). -/
def restartChain (r : Nat) (t : Int) (h : Hub) : Hub :=
  let x := h.recipe r
  let bank := (x.restarts.getLast?.map fun p => p.2.2).getD x.bank
  h.setRecipe r { x with restarts := x.restarts ++ [(t, 0, bank)] }

def restartChains (t : Int) (h : Hub) : Hub := h.loaded.foldl (fun (h : Hub) r => h.restartChain r t) h

/-! ### Frames into chains (R142) -/

/-- The frames of a recipe that are complete pass through the chain, oldest first. -/
def runGathered (r fuel : Nat) (h : Hub) : Hub :=
  match fuel with
  | 0 => h
  | n + 1 =>
    let x := h.recipe r
    match x.gather with
    | g :: rest =>
      if g.got.all Option.isSome then
        runGathered r n ((h.setRecipe r { x with gather := rest }).runRecipe r { g.set with xs := g.got.map fun o => o.getD .fill })
      else h
    | [] => h

/-- A frame opens for every CELLS recipe with stages: inputs without a conversion deliver FILL at once (R131). -/
def openGather (frame : Nat) (set : SampleSet) (converts : Nat → Bool) (h : Hub) : Hub :=
  h.loaded.foldl (fun (h : Hub) r =>
    let x := h.recipe r
    if x.recipe.source = 0 && !x.recipe.stages.isEmpty then
      let g : Gather := { frame := frame
                          set := { set with modes := x.recipe.inputs.map fun c => h.mode c * 8 + h.setting c }
                          got := x.recipe.inputs.map fun c => if converts c then none else some .fill }
      (h.setRecipe r { x with gather := x.gather ++ [g] }).runGathered r 1
    else h) h

/-- The words that the frame of this tick will give each recipe: one of each input that acquires, a pair counting once. Of frames
before the last one nothing is left (R241). -/
def openRaw (frame : Nat) (h : Hub) : Hub :=
  h.loaded.foldl (fun (h : Hub) r =>
    let x := h.recipe r
    let left := x.rawLeft.filter fun p => decide (frame ≤ p.1 + 1)
    if x.recipe.source = 0 then
      h.setRecipe r { x with rawLeft := SMap.insert left frame (x.recipe.inputs.countP h.acquires) }
    else h) h

/-- A frame word enters the chains of every recipe that names its input. -/
def gatherWord (c frame : Nat) (v : Sample) (h : Hub) : Hub :=
  h.loaded.foldl (fun (h : Hub) r =>
    let x := h.recipe r
    if x.recipe.source = 0 && x.recipe.inputs.contains c then
      let f (g : Gather) : Gather :=
        if g.frame = frame then
          { g with got := (x.recipe.inputs.zip g.got).map fun (i, o) => if i = c then some v else o }
        else g
      (h.setRecipe r { x with gather := x.gather.map f }).runGathered r (x.gather.length)
    else h) h

/-- A result word goes unchanged into the streams of the raw taps that name its input (R143, R241). An urgent word never
follows the cadence and closes its packet. -/
def rawWord (cv : Conv) (w : BitVec 64) (h : Hub) : Hub :=
  let frame := cv.frame
  h.loaded.foldl (fun (h : Hub) r =>
    let x := h.recipe r
    if x.recipe.source = 0 && x.recipe.inputs.contains cv.input then
      let first := !cv.urgent && x.rawFrame != some frame
      let follows := match x.rawFrame with | some f => f + 1 == frame | none => true
      let left := (SMap.find? x.rawLeft frame).getD 1 - 1
      let h := if cv.urgent then h else h.setRecipe r { x with rawFrame := some frame, rawLeft := SMap.insert x.rawLeft frame left }
      x.recipe.taps.foldl (fun (h : Hub) (t : Nat × Bool × Nat) =>
        if t.1 != 0 then h else
        h.produceRaw t.2.2 { fmt := fmtRaw64, mt := h.mtAt cv.tick, slot := cv.tick, setw := if cv.urgent then 1 else left + 1
                             cad := cv.cad, first := first, last := left == 0, follows := follows, urgent := cv.urgent
                             hold := cv.holdover, re := cv.reanchor, conts := [.raw w] }) h
    else h) h

/-! ### Settling left (R152) -/

/-- Outputs a stage marks SETTLING after a restart when its first `prev` inputs are marked. -/
def settleStage (div : Nat) (s : Stage) (bank prev : Nat) : Nat :=
  let w0 := s.word bank 0
  match s.kernel with
  | 1 => max prev (bits w0 7 0 * div)
  | 2 =>
    let r := max 1 (bits w0 31 16)
    let m := bits w0 2 0
    max (ceilDiv ((m - 1) * (r - 1)) r) (if prev = 0 then 0 else ceilDiv (prev + m * (r - 1) - (r - 1)) r)
  | 3 =>
    let n := bits w0 31 16
    let d := max 1 (bits w0 15 0)
    max (ceilDiv n d - 1) (if prev = 0 then 0 else ceilDiv (prev + n - d) d)
  | 4 => max (bits w0 31 16) (if prev = 0 then 0 else prev + bits w0 31 16 - 1)
  | 5 | 6 => ceilDiv prev (bits w0 31 16 + 1)
  | 7 | 8 | 10 | 12 => Config.settleCount prev
  | _ => prev

/-- SETTLING outputs left on the last stage of a recipe. -/
def settleLeft (h : Hub) (r : Nat) : Nat :=
  let x := h.recipe r
  let bank := x.bank
  let total := x.recipe.stages.foldl (fun n s => settleStage (h.fld AFE_DIP_STAT_DIV) s bank n) 0
  min 65535 (total - (h.stageState r (x.recipe.stages.length - 1)).made)

/-! ### Failure and the spare (R160-R164) -/

/-- The engine's recipes are paced as FILL; engine-form flags and zone bits take their fail state (R161). -/
def fillEngine (e : Nat) (h : Hub) : Hub :=
  (h.recipesOf e).foldl (fun (h : Hub) r =>
    let x := h.recipe r
    let h := (h.setRecipe r { x with failHold := true, paced := 0 }).put (SE_RECIPE_STAT_FILLING r) 1
    let h := x.recipe.inputs.foldl (fun (h : Hub) c =>
      if h.flag (SE_DT_CFG_EN c) && h.flag (SE_DT_CFG_SRC c) && h.fld (SE_DT_CFG_RECIPE c) == r then h.dtFail c else h) h
    x.recipe.stages.foldl (fun (h : Hub) s =>
      if s.kernel = 12 then
        (List.range (bits (s.word x.bank 0) 5 0 + 1)).foldl (fun (h : Hub) z => h.setZone (zoneOf s x.bank z).2.2.1 true) h
      else h) h) h

/-- A failed engine cannot get the spare: its outputs stay FILL until reset (R164). -/
def loseEngine (e : Nat) (h : Hub) : Hub := h.raise (48 + e) 3 [e, (h.recipesOf e).length]

/-- Engine `e` is declared failed (R160, R161, R164); 16 is SE_SPARE, which loads the failed engine's records until the boundary of the
takeover (R162). -/
def failEngine (e cause : Nat) (h : Hub) : Hub :=
  if 17 ≤ e || h.fld (SE_ENG_STAT_STATE e) == 4 then h else
  let serving := h.fld (SE_ENG_STAT_STATE 16) == 5
  let serves := h.fld (SE_ENG_STAT_SERVES 16)
  let h := (h.put (SE_ENG_STAT_STATE e) 4).put (SE_ENG_STAT_CAUSE e) cause
  let h := h.raise (48 + e) 1 (cause :: wide h.mtNow.pack)
  if e = 16 then
    let h : Hub := { h with se := { h.se with spareOut := true, swap := none } }
    let h := h.raise 64 8 [cause]
    let h := if serving then
        let h : Hub := { h with se := { h.se with planned := false } }
        (h.fillEngine serves).loseEngine serves
      else h
    match h.se.takeover with
    | some (f, _) => { h.loseEngine f with se := { h.se with takeover := none } }
    | none => h
  else
    let h := if serving && serves == e && h.se.planned then h else h.fillEngine e
    let load (h : Hub) : Hub := if serving then h else h.put (SE_ENG_STAT_STATE 16) 3
    if h.se.spareOut || (serving && !h.se.planned) then h.loseEngine e
    else match h.se.takeover with
      | some (f, t) =>
        if e < f then { h.loseEngine f with se := { h.se with takeover := some (e, h.now + h.slots20us) } }
        else { h.loseEngine e with se := { h.se with takeover := some (f, t) } }
      | none => load { h with se := { h.se with takeover := some (e, h.now + h.slots20us), swap := none } }

/-- The spare runs the recipes of engine `e` from slot `t` on. -/
def spareServes (e : Nat) (t : Int) (h : Hub) : Hub :=
  let h := (h.put (SE_ENG_STAT_STATE 16) 5).put (SE_ENG_STAT_SERVES 16) e
  (h.recipesOf e).foldl (fun (h : Hub) r =>
    let x := h.recipe r
    let wasFill := h.flag (SE_RECIPE_STAT_FILLING r)
    let h := h.setRecipe r { x with fillTo := if wasFill then some t else x.fillTo }
    ((h.put (SE_RECIPE_STAT_ENGINE r) 16).put (SE_RECIPE_STAT_FILLING r) 0).restartChain r t) h

/-- The spare hands the recipes it runs back to their engine at slot `t`. -/
def spareReturns (t : Int) (h : Hub) : Hub :=
  let e := h.fld (SE_ENG_STAT_SERVES 16)
  let h := (h.put (SE_ENG_STAT_STATE 16) 2).put (SE_ENG_STAT_SERVES 16) 31
  let h := if h.fld (SE_ENG_STAT_STATE e) == 2 then h.put (SE_ENG_STAT_STATE e) 1 else h
  (h.recipesOf e).foldl (fun (h : Hub) r => (h.put (SE_RECIPE_STAT_ENGINE r) e).restartChain r t) h

/-- The boundary of a takeover (R162, R163); an engine whose recipe shadow is still to be reloaded is lost (R330). -/
def takeOver (h : Hub) : Hub :=
  match h.se.takeover with
  | none => h
  | some (e, req) =>
    let t := h.boundaryFrom req
    let h := h.advanceTo t
    if h.se.shadowDue.contains e then
      let h := if h.fld (SE_ENG_STAT_STATE 16) = 3 then h.put (SE_ENG_STAT_STATE 16) 2 else h
      { h.loseEngine e with se := { h.se with takeover := none } }
    else
    let h := if h.se.planned then
        { h.spareReturns t with se := { h.se with planned := false } }
      else h
    let paced := ((h.recipesOf e).map fun r => (h.recipe r).paced).sum
    let h := h.spareServes e t
    let h : Hub := { h with se := { h.se with takeover := none } }
    h.raise 64 2 (e :: (wide (h.mtAt t).pack ++ [paced]))

/-- The boundary of a planned swap or hand-back (R163). -/
def swapDone (h : Hub) : Hub :=
  match h.se.swap with
  | none => h
  | some (e, back, req) =>
    let t := h.boundaryFrom req
    let h := h.advanceTo t
    if h.se.swap.isNone then h else
    let h := if back then h.spareReturns t else (h.put (SE_ENG_STAT_STATE e) 2).spareServes e t
    let h : Hub := { h with se := { h.se with swap := none, planned := !back } }
    h.raise 64 4 [e, ofBool back]

/-! ### Bank switches (R156) -/

def twoBanks (h : Hub) (r : Nat) : Bool := (h.recipe r).recipe.stages.any fun s => decide (2 ≤ s.banks.length)

/-- The boundary of a bank switch: the chain restarts from the first stage that switched. -/
def bankSwitch (r : Nat) (h : Hub) : Hub :=
  match (h.recipe r).bankDue with
  | none => h
  | some (bank, req) =>
    let t := h.boundaryFrom req
    let h := h.advanceTo t
    let x := h.recipe r
    let k := x.recipe.stages.findIdx fun s => decide (2 ≤ s.banks.length)
    let h := (h.setRecipe r { x with bankDue := none, restarts := x.restarts ++ [(t, k, bank)] }).put (SE_RECIPE_STAT_BANK r) bank
    h.raise (h.engineSource r) 5 ([r, bank] ++ wide (h.mtAt t).pack)

/-! ### Windows that close without a further input (R151) -/

/-- Windows whose last turn ended a turn ago or more are given out. -/
def closeWindows (h : Hub) : Hub :=
  h.loaded.foldl (fun (h : Hub) r =>
    let x := h.recipe r
    let k := x.recipe.stages.findIdx fun s => s.kernel == 7 || s.kernel == 8
    match x.recipe.stages[k]? with
    | none => h
    | some s =>
      let bank := x.bank
      let st := h.stageState r k
      match st.turn with
      | some t =>
        if t + (bits (s.word bank 0) 31 16 : Nat) + 1 < h.mt.turn then
          let (st, out) := closeWindow s (h.valueBits r) h.spt h.mtAt st
          let h := h.setStageState r k st
          let fill := h.flag (SE_RECIPE_STAT_FILLING r)
          let h := h.setStageState r k { h.stageState r k with made := st.made + out.length }
          let h := out.foldl (fun (h : Hub) set => h.tapOut r (k + 1) fill set) h
          h.runStages r fill (k + 1) (x.recipe.stages.drop (k + 1)) out
        else h
      | none => h) h

end Sys2Proof.Machine.Hub
end

