-- ==== Sys2Proof/Machine/MachineTime.lean ====
section
/-!
DEFINITION. The commands of the timing inputs and of the MT counter (R16-R44): REV markers, the flywheel, MMSG words, the
measurement, loss and re-lock of BCLK.
-/

namespace Sys2Proof.Machine

namespace Hub

/-- The next absolute slot after the current one whose slot value is `s`. -/
def nextSlot (h : Hub) (s : Nat) : Int :=
  let t := h.mt.turn * (h.spt : Int) + s
  if h.now < t then t else t + h.spt

/-- The turn of the turn word that announces the edge at count `c`: the edge lies at or after its slot A + 2. -/
def announced (h : Hub) (c : Int) : Option Nat :=
  (h.mt.turnWords.find? fun tw => decide (tw.notBefore ≤ c)).map TurnWord.turn

/-- The turn of the first anchor after the Quiescent state: the turn held at entry and the elapsed LT in nominal turn periods,
rounded to the nearest (R456). -/
def wakeTurn (h : Hub) : Nat :=
  let d := h.spt * 1000000
  let n := (h.lt - h.pwr.entryLt) * h.fld MT_BCLK_NOM_KHZ
  ((h.pwr.entryTurn + ((2 * n + d) / (2 * d) : Nat)) % (2 ^ 40 : Nat)).toNat

/-- The turn a first anchor without turn words takes: MT.TURN_PRESET (R30), or that of R456. -/
def turnPreset (h : Hub) : Nat :=
  if h.pwr.woke then h.wakeTurn else h.fld MT_TURN_PRESET_HI_TURN * 2 ^ 32 + h.fld MT_TURN_PRESET_LO_TURN

/-- REV, sampled high at edge `e` of the slot clock, is a marker: at least two low samples lie before it (R17). -/
def marksAt (h : Hub) (e : Nat) : Bool :=
  match h.mt.revHigh with
  | some p => decide (p + 3 ≤ e)
  | none => true

/-- REV has been sampled high at the current edge. -/
def sawRev (h : Hub) : Hub := { h with mt := { h.mt with revHigh := some h.mt.clock } }

/-- A REV marker in UNANCHORED, at the edge at which the start-up flywheel gives slot `s` (R30). -/
def revBeforeAnchor (s : Nat) (h : Hub) : Hub :=
  let c0 := match h.mt.fly with | some c => c + 1 | none => 0
  let c := c0 + (s % h.spt + h.spt - c0 % h.spt) % h.spt
  let h := (h.clockEdges (c + 1 - c0)).passTime
  let marker := h.marksAt h.mt.clock
  let h := ({ h with mt := { h.mt with fly := some c } } : Hub).sawRev
  if !h.revEn || !marker then h
  else if h.flag MT_CTRL_TURN_FROM_MMSG then
    match h.announced c with
    | some t => h.firstAnchor t h.revOffset true
    | none => h
  else h.firstAnchor h.turnPreset h.revOffset true

/-- How a REV marker is judged at the edge just taken (R28, R32, R33, R35, R36, R40, R42). -/
def judgeRev (h : Hub) : Hub :=
  if !h.revEn then h else
  match h.counter with
  | .track =>
    if h.mt.slot = h.revOffset then
      let h : Hub := { h with mt := { h.mt with revSeen := true, missRun := 0 } }
      (h.put MT_STATE_REV_OK 1).checkTurnWord
    else
      let h := ((h.raise 192 0 [h.mt.slot]).bump MT_REV_ERR_CNT_MISCOUNT 1).checkTurnWord
      let h : Hub := { h with mt := { h.mt with span := .opened } }
      h.setCounter .pending
  | .pending => h.reanchor.checkTurnWord
  | .relocked =>
    let h := h.reanchor.put MT_STATE_HOLDOVER 0
    { h with mt := { h.mt with turnWords := [] } }.openAdopt
  | _ => h

/-- REV is first sampled high at the next edge at which the flywheel gives `slot`: a marker, unless it was high less than three
edges before (R17, R28). -/
def revMarker (slot : Nat) (h : Hub) : Hub :=
  match h.counter with
  | .waitBclk => h
  | .unanchored => h.revBeforeAnchor slot
  | c =>
    let t := h.nextSlot (slot % h.spt)
    let h := h.advanceTo (t - 1)
    let marker := h.marksAt (h.mt.clock + 1)
    let h := (h.edge (h.revEn && marker && c != .holdover)).sawRev
    (if marker then h.judgeRev else h).slotBoundary.closeWindows

/-- The flywheel runs on to its next wrap, which carries no marker (R26); before the first anchor it is the start-up
flywheel, whose wrap a turn word may announce (R30). -/
def flywheelWrap (h : Hub) : Hub :=
  match h.counter with
  | .waitBclk => h
  | .unanchored =>
    let c0 := match h.mt.fly with | some c => c + 1 | none => 0
    let c := c0 + (h.spt - c0 % h.spt) % h.spt
    let h := (h.clockEdges (c + 1 - c0)).passTime
    let h : Hub := { h with mt := { h.mt with fly := some c } }
    if h.revEn then h else
    match h.announced c with
    | some t => if h.flag MT_CTRL_TURN_FROM_MMSG then h.firstAnchor t 0 false else h
    | none => h
  | _ =>
    let h := h.advanceTo (h.nextSlot 0 - 1)
    (h.edge false).slotBoundary.closeWindows

/-- The decoder searches MMSG for words (R23, R24). -/
def decoding (h : Hub) : Bool :=
  h.flag MT_CTRL_MMSG_EN && (match h.counter with | .waitBclk => false | .holdover => false | _ => true)

/-- The slot clock runs on by `n` slots, on the count or on the start-up flywheel (R30). -/
def runSlots (n : Nat) (h : Hub) : Hub :=
  match h.counter with
  | .waitBclk => h
  | .unanchored =>
    if n = 0 then h else
    let c0 := match h.mt.fly with | some c => c + 1 | none => 0
    let h := (h.clockEdges n).passTime
    { h with mt := { h.mt with fly := some (c0 + n - 1) } }
  | _ => h.advanceTo (h.now + n)

/-- The arrival slot A of a word whose bit 0 is sampled in the current slot (R23, R30). -/
def arrival (h : Hub) : Int :=
  if h.mt.anchored then h.now else match h.mt.fly with | some c => c | none => 0

/-- The decoder searches from the edge that lies `bits` before the next one (R22). -/
def searchFrom (bits : Nat) (h : Hub) : Hub := { h with mt := { h.mt with wordFrom := (h.mt.clock : Int) + 1 - bits } }

/-- The decoder finds a word of `n` bits whose bit 0 is sampled at the current edge: none of its bits lies before the point from
which it searches (R22). -/
def findsWord (h : Hub) (n : Nat) : Bool := decide (h.mt.wordFrom ≤ (h.mt.clock : Int) + 1 - n)

/-- A rejected word (R22). -/
def rejectWord (raw : Nat) (h : Hub) : Hub := (h.bump MT_MMSG_ERR_CNT_ERRORS 1).raise 198 0 (wide raw)

/-- A word has been accepted within the last 16 turns (MT.STATE.MMSG_SEEN). -/
def sawWord (h : Hub) : Hub :=
  let h : Hub := { h with mt := { h.mt with seenLeft := 16 * h.spt } }
  h.put MT_STATE_MMSG_SEEN 1

/-- The check of an ordinary word (R20). -/
def wordGood (w : Nat) : Bool := crc4 (bits w 23 4) == bits w 3 0

/-- An ordinary word with arrival slot A is accepted (R19, R22, R23, R25, R57). -/
def acceptWord (w : Nat) (a : Int) (h : Hub) : Hub :=
  let h := (h.setReg MT_MMSG_LAST (BitVec.ofNat 32 w)).sawWord
  let code := bits w 23 16
  if !h.mt.anchored || code == 0 || code == 0xFF then h else
  let set := (List.range 16).filter fun n => h.flag (MT_MMSG_BITSEL_EN n) && h.fld (MT_MMSG_BITSEL_CODE n) == code
  let h : Hub := { h with mt := { h.mt with bits := h.mt.bits ++ set.map fun n => (n, a + 2) } }
  h.scheduleCode code (bits w 15 4) a

/-- The 32 bits of an ordinary word come in, bit 0 in the slot `slots` slots on (R19-R25, R57). -/
def mmsgWord (slots w : Nat) (h : Hub) : Hub :=
  let h := h.runSlots slots
  if !h.decoding || bits w 31 24 != 0xE4 || !h.findsWord 32 then h
  else if wordGood w then (h.acceptWord w h.arrival).searchFrom 0
  else (h.rejectWord w).searchFrom 24

/-- The search goes on inside the 64 bits of a rejected turn word from bit position `o` on, counted from its first bit: an ordinary
word that lies in them whole is judged; a sync whose word ends after them is where the search stands (R22). -/
def rescan (fuel o : Nat) (w : Nat) (h : Hub) : Hub :=
  match fuel with
  | 0 => h.searchFrom (64 - o)
  | n + 1 =>
    if 57 ≤ o then h.searchFrom (64 - o) else
    let sync := bits w (63 - o) (56 - o)
    if sync = 0x1B ∨ (sync = 0xE4 ∧ 33 ≤ o) then h.searchFrom (64 - o)
    else if sync = 0xE4 then
      let x := bits w (63 - o) (32 - o)
      if wordGood x then rescan n (o + 32) w (h.acceptWord x (h.arrival - (32 - o : Nat)))
      else rescan n (o + 8) w (h.rejectWord x)
    else rescan n (o + 1) w h

/-- The 16 turns of R43 have passed without a turn word. -/
def adoptOver (h : Hub) : Bool :=
  match h.mt.adoptUntil with
  | some u => decide (u ≤ h.now) && h.mt.turnWords.isEmpty
  | none => false

/-- A turn word with arrival slot A is accepted; before the first anchor only the first one counts (R23, R30, R37, R43). -/
def acceptTurn (w : Nat) (h : Hub) : Hub :=
  let h := h.sawWord
  let tw : TurnWord := { turn := bits w 55 16, notBefore := h.arrival + 2 }
  let h : Hub := if h.adoptOver then { h with mt := { h.mt with adoptUntil := none } } else h
  if h.mt.anchored || (h.flag MT_CTRL_TURN_FROM_MMSG && h.mt.turnWords.isEmpty) then
    { h with mt := { h.mt with turnWords := h.mt.turnWords ++ [tw] } }
  else h

/-- The 64 bits of a turn word come in, bit 0 in the slot `slots` slots on (R21-R23, R30, R37, R43). -/
def turnWordIn (slots w : Nat) (h : Hub) : Hub :=
  let h := h.runSlots slots
  if !h.decoding || bits w 63 56 != 0x1B || !h.findsWord 64 then h
  else if crc8 (bits w 55 8) == bits w 7 0 then (h.acceptTurn w).searchFrom 0
  else (h.rejectWord w).rescan 64 8 w

/-- BCLK has met R18 for 10 µs in WAIT_BCLK: the start-up flywheel starts; with neither REV nor turn words, the first
slot-clock edge is the first anchor (R30). -/
def passToUnanchored (h : Hub) : Hub :=
  if h.counter != .waitBclk || h.fld DEV_STATE_STEP != 6 then h else
  let h := h.setCounter .unanchored
  let h := ({ h with mt := { h.mt with fly := none, turnWords := [] } } : Hub).searchFrom 0
  if h.revEn || h.flag MT_CTRL_TURN_FROM_MMSG then h
  else ((h.clockEdges 1).passTime).firstAnchor h.turnPreset 0 false

/-- BCLK lies within 30-45 MHz and within 1 % of MT.BCLK_NOM (R18); in units of 100 Hz. -/
def bclkGood (h : Hub) (freq : Nat) : Bool :=
  let nom := 10 * h.fld MT_BCLK_NOM_KHZ
  decide (300000 ≤ freq) && decide (freq ≤ 450000) && decide (99 * nom ≤ 100 * freq) && decide (100 * freq ≤ 101 * nom)

/-- A frame whose tick lies after slot `from` carries HOLDOVER, wherever it has got to: its window, its conversions, the sets its
words are gathered into, and its place in the Standpipe (R40). -/
def markHoldover (from_ : Int) (h : Hub) : Hub :=
  let late (t : Int) : Bool := decide (from_ < t)
  let win (w : Window) : Window := { w with holdover := w.holdover || late w.tick }
  let conv (c : Conv) : Conv := { c with holdover := c.holdover || late c.tick }
  let adc (x : Adc) : Adc := { x with deferred := x.deferred.map conv, atZero := x.atZero.map conv }
  let set (g : Gather) : Gather := { g with set := { g.set with hold := g.set.hold || late g.set.slot } }
  { h with
    trg := { h.trg with window := h.trg.window.map win, closedWin := h.trg.closedWin.map win }
    cnv := { h.cnv with
      convs := h.cnv.convs.map conv, fills := h.cnv.fills.map conv, adcs := SMap.update (fun _ => {}) (fun _ => adc) h.cnv.adcs }
    se := { h.se with recipes := SMap.update (fun _ => {}) (fun _ r => { r with gather := r.gather.map set }) h.se.recipes }
    sp := { h.sp with
      frames := SMap.update (fun _ => {}) (fun _ f => { f with holdover := f.holdover || late f.tick }) h.sp.frames } }

/-- BCLK is declared lost (R39, R40); before the first anchor the counter returns to WAIT_BCLK (R30). `last` is the absolute
slot the record names; frames after `flagFrom` carry HOLDOVER. -/
def loseBclk (last flagFrom : Int) (h : Hub) : Hub :=
  match h.counter with
  | .waitBclk => h
  | .holdover => { h with mt := { h.mt with backFreq := none } }
  | .unanchored =>
    let h := (h.setCounter .waitBclk).raiseAt {} 195 0 (wide 0)
    { h.put MT_BCLK_MEAS_FREQ 0 with mt := { h.mt with fly := none, turnWords := [] } }
  | _ =>
    let h := (((h.setCounter .holdover).put MT_STATE_HOLDOVER 1).put MT_BCLK_MEAS_FREQ 0).put MT_HOLD_TURNS_TURNS 0
    let h := h.raise 195 0 (wide (h.mtAt last).pack)
    ({ h with mt := { h.mt with turnWords := [], adoptUntil := none, backFreq := none } } : Hub).markHoldover flagFrom

/-- A measurement window ends (R39). While BCLK is lost, one that meets R18 is kept for the re-lock, and one that breaks it shows
as 0. -/
def bclkWindow (freq : Nat) (h : Hub) : Hub :=
  if h.counter == .holdover then
    { h with mt := { h.mt with backFreq := if h.bclkGood freq then some freq else none } }
  else if h.bclkGood freq then
    let h : Hub := { h with mt := { h.mt with lastGood := h.now, heldFreq := freq } }
    h.put MT_BCLK_MEAS_FREQ freq
  else if h.counter == .waitBclk then h.put MT_BCLK_MEAS_FREQ 0
  else h.loseBclk h.mt.lastGood h.now

/-- BCLK has met R18 for 10 µs after a loss (R41). -/
def relock (h : Hub) : Hub :=
  if h.counter != .holdover then h else
  let h := h.raise 196 0 [h.fld MT_HOLD_TURNS_TURNS]
  let f := h.mt.backFreq.getD h.mt.heldFreq
  let h := match h.mt.backFreq with | some b => h.put MT_BCLK_MEAS_FREQ b | none => h
  let h := ({ h with mt := { h.mt with lastGood := h.now, heldFreq := f, backFreq := none } } : Hub).searchFrom 0
  if h.revEn then h.setCounter .relocked
  else
    let h := (h.setCounter .track).put MT_STATE_HOLDOVER 0
    { h with mt := { h.mt with turnWords := [] } }.openAdopt

end Hub

def execMmsgWord (word : MmsgIn 32) (s : State) : Host.Outcome State Fault Refusal :=
  s.onHub (Hub.mmsgWord word.slots word.word.toNat)
def execTurnWord (word : MmsgIn 64) (s : State) : Host.Outcome State Fault Refusal :=
  s.onHub (Hub.turnWordIn word.slots word.word.toNat)
def execBclkMeasWindow (freq : Nat) (s : State) : Host.Outcome State Fault Refusal := s.onHub (Hub.bclkWindow freq)
def execBclkLost (slots : Nat) (s : State) : Host.Outcome State Fault Refusal :=
  s.onHub fun h => h.loseBclk (h.now - slots) (h.now - slots)
def execBclkRelock (s : State) : Host.Outcome State Fault Refusal := s.onHub Hub.relock

end Sys2Proof.Machine
end

