-- ==== Sys2Proof/Machine/Cells.lean ====
section
/-!
DEFINITION. The commands of input cells and groups (R66-R104): configuration, excitation, the string, comparators, Dipstick,
FAULT.
-/

namespace Sys2Proof.Machine

namespace Hub

/-- The value of an LV register as written last: what waits for the tick, else what is in force. -/
def written (h : Hub) (a : Nat) : Word := (SMap.find? h.staged a).getD (h.reg a)

/-- Hold a live write for the next frame tick (R3). -/
def stage (a : Nat) (v : Word) (h : Hub) : Hub := { h with staged := SMap.insert h.staged a v }

/-- The mode an input has once what waits is in force. -/
def nextMode (h : Hub) (c : Nat) : Nat := (AFE_CELL_CFG_MODE c).get (h.written (AFE_CELL_CFG c))

/-- Whether a value is refused for AFE.CELL_CFG[c]: reserved codes, and the pair rules of R75. -/
def cellCfgBad (h : Hub) (c v : Nat) : Bool :=
  let m := bits v 2 0
  let pair := m == 3 || m == 4
  decide (5 ≤ m) || bits v 9 8 == 3
    || (c % 2 == 1 && (h.nextMode (c - 1) == 3 || h.nextMode (c - 1) == 4))
    || (pair && c % 2 == 1)
    || (pair && (h.nextMode (c + 1) == 1 || h.nextMode (c + 1) == 2))

/-- A write of AFE.CELL_CFG[c]: refused with CFG_REFUSED, or held for the next frame tick (R75, R102). Answers whether it
was taken. -/
def writeCellCfg (c : Nat) (v : Word) (h : Hub) : Bool × Hub :=
  if h.cellCfgBad c v.toNat then
    (false, h.groupEvent (c / 16) 0x0A (c % 16) [AFE_CELL_CFG c - 0x20000, v.toNat])
  else (true, h.stage (AFE_CELL_CFG c) (v &&& 0xF3FF))

/-! ### Excitation and string (R77, R82) -/

def excLimit (g load : Nat) (h : Hub) : Hub :=
  if !h.flag (AFE_EXC_CFG_EN g) || !h.afePowered g || h.flag (AFE_EXC_STAT_LIMIT g) then h else
  let h := ((h.put (AFE_EXC_STAT_LOAD g) load).put (AFE_EXC_STAT_LIMIT g) 1).setGroup g { h.group g with limitFault := true }
  h.groupEvent g 7 15 [load]

def excLimitEnd (g : Nat) (h : Hub) : Hub :=
  (h.put (AFE_EXC_STAT_LIMIT g) 0).setGroup g { h.group g with limitFault := false }

def excSenseOpen (g mv : Nat) (h : Hub) : Hub :=
  if !h.flag (AFE_EXC_CFG_EN g) || !h.afePowered g || h.flag (AFE_EXC_STAT_SENSE_OPEN g) then h else
  let h := (h.put (AFE_EXC_STAT_SENSE_OPEN g) 1).setGroup g { h.group g with senseFault := true }
  h.groupEvent g 8 15 [mv]

def senseRestored (g : Nat) (h : Hub) : Hub :=
  (h.put (AFE_EXC_STAT_SENSE_OPEN g) 0).setGroup g { h.group g with senseFault := false }

/-- A group has a RES pair configured. -/
def hasRes (h : Hub) (g : Nat) : Bool := (List.range 16).any fun i => h.mode (16 * g + i) == 4

/-- The voltage across R_REF is measured: below 5 % of the baseline the string is open (R82); the onset is the first such
frame (R97). Without a baseline there is no decision. -/
def stringOpen (g mv : Nat) (h : Hub) : Hub :=
  let x := h.group g
  if !h.flag (AFE_EXC_CFG_EN g) || !h.afePowered g || !h.hasRes g then h else
  match x.baseline with
  | none => h
  | some b =>
    if 20000 * mv < b then
      if h.flag (AFE_EXC_STAT_STRING_OPEN g) then h else
      let h := (h.put (AFE_EXC_STAT_STRING_OPEN g) 1).setGroup g { x with stringFault := true, stringOnset := h.tickMt }
      let h := (List.range 16).foldl (fun (h : Hub) (i : Nat) =>
        let c := 16 * g + i
        if h.mode c = 4 ∧ h.acquires c then h.setCell c { h.cell c with strFault := true } else h) h
      h.groupEvent g 9 15 [mv]
    else (h.put (AFE_EXC_STAT_STRING_OPEN g) 0).setGroup g { x with stringFault := false }

/-- The baseline, in µV, is taken while EXC is driven and a RES pair is configured (R82). -/
def takeBaseline (g uv : Nat) (h : Hub) : Hub :=
  if h.flag (AFE_EXC_CFG_EN g) && h.afePowered g && h.hasRes g then h.setGroup g { h.group g with baseline := some uv } else h

/-! ### Open-detect (R94, R95) -/

/-- The open-detect comparator of a ball has read high at `ticks` consecutive ticks; from the fourth on the input, or the even one of
a pair, is suspect. Without bias an open input may drift there too (R94). -/
def faultSuspect (c ticks : Nat) (h : Hub) : Hub :=
  let p := h.pairOf c
  if !h.acquires p || h.mode p == 2 || !h.afePowered (p / 16) then h else
  let x := h.cell c
  let h := h.setCell c { x with openHi := true, suspect := x.suspect || decide (4 ≤ ticks) }
  if x.suspect || decide (ticks < 4) then h else (h.showSuspect p).groupEvent (p / 16) 1 (p % 16) (wide h.tickMt.pack)

/-- It has read low for `frames` frames; after 16 the ball is suspect no more (R95). That it reads low is a condition of R98. -/
def suspectClear (c frames : Nat) (h : Hub) : Hub :=
  let p := h.pairOf c
  let x := h.cell c
  let h := h.setCell c { x with openHi := false, suspect := x.suspect && decide (frames < 16) }
  (h.showSuspect p).tryClear p

/-- A clear request: kept for an input that is marked FAULT, discarded for another (R98). -/
def requestClear (g mask : Nat) (h : Hub) : Hub :=
  (List.range 16).foldl (fun (h : Hub) (i : Nat) =>
    let c := h.pairOf (16 * g + i)
    if bit mask i && h.flag (AFE_CELL_STAT_FAULT c) then
      (h.setCell c { h.cell c with clear := true }).tryClear c
    else h) h

/-- Requests that wait for the next tick, or for the next full window (R70, R102). -/
def requestZero (g mask : Nat) (h : Hub) : Hub :=
  (List.range 16).foldl (fun (h : Hub) (i : Nat) =>
    if bit mask i then h.setCell (16 * g + i) { h.cell (16 * g + i) with zeroDue := true } else h) h

def requestCapture (g mask : Nat) (h : Hub) : Hub :=
  (List.range 16).foldl (fun (h : Hub) (i : Nat) =>
    if bit mask i then h.setCell (16 * g + i) { h.cell (16 * g + i) with capture := true } else h) h

/-! ### The Dipstick (R88-R92, R97, R98) -/

/-- The onset of a fault that the Dipstick confirms: the opening tick of the earliest period of the unbroken run of periods whose
value lies outside the band (R97). -/
def dipOnset (h : Hub) (c : Nat) : MT :=
  let run := (h.cell c).sums.takeWhile fun p => !h.healthy c (periodMag p)
  (run.getLast?.map ToneSum.opened).getD h.periodTick

/-- A tone period of an input ends with the sums of its products. A window that had begun before DIP_CAPTURE was written counts as
the next full one (DESIGN CHOICE, log entry 123). -/
def dipPeriod (c : Nat) (i q : Int) (h : Hub) : Hub :=
  let div := h.fld AFE_DIP_STAT_DIV
  let n := h.afe.dipFrames.getD 0
  if !h.toneRuns c || div = 0 || decide (n < div) || (h.cell c).lastPeriod == some (n / div) then h else
  let x := h.cell c
  let sum : ToneSum := { i := i, q := q, opened := h.periodTick }
  -- a write to DIP_BASE takes effect at the end of the tone period (R102)
  let h := match x.baseDue with
    | some v => h.setReg (AFE_DIP_BASE c) v
    | none => h
  let x := { x with sums := (sum :: x.sums).take 256, periods := x.periods + 1, lastPeriod := some (n / div), baseDue := none }
  let h := h.setCell c x
  if x.sums.length < 256 then h else
  let mag := dipMag x
  -- the result register shows the estimate at the end of every 256th period (R90)
  let h := if x.periods % 256 = 0 then
      ((h.put (AFE_DIP_RESULT_MAG c) mag).put (AFE_DIP_RESULT_PHASE c) (dipPhase x)).put (AFE_DIP_RESULT_VALID c) 1
    else h
  let h := if x.periods % 256 = 0 && x.capture then
      (h.put (AFE_DIP_BASE_BASE_MAG c) mag).setCell c { h.cell c with capture := false }
    else h
  if !h.dipDecides c then h
  else if h.healthy c mag then (h.setCell c { h.cell c with inBand := (h.cell c).inBand + 1 }).tryClear c
  else
    let y := h.cell c
    h.setCell c { y with inBand := 0, dipFault := true, onset := if y.dipFault then y.onset else h.dipOnset c }

end Hub

def execExcLimit (group load : Nat) (s : State) : Host.Outcome State Fault Refusal := s.onHub (Hub.excLimit group load)
def execExcLimitEnd (group : Nat) (s : State) : Host.Outcome State Fault Refusal := s.onHub (Hub.excLimitEnd group)
def execExcSenseOpen (group mv : Nat) (s : State) : Host.Outcome State Fault Refusal := s.onHub (Hub.excSenseOpen group mv)
def execSenseRestored (group : Nat) (s : State) : Host.Outcome State Fault Refusal := s.onHub (Hub.senseRestored group)
def execStringOpen (group mv : Nat) (s : State) : Host.Outcome State Fault Refusal := s.onHub (Hub.stringOpen group mv)
def execRrefBaseline (group uv : Nat) (s : State) : Host.Outcome State Fault Refusal := s.onHub (Hub.takeBaseline group uv)
def execDipPeriodEnd (input : Nat) (i q : Int) (s : State) : Host.Outcome State Fault Refusal :=
  s.onHub (Hub.dipPeriod input i q)
def execFaultSuspect (ball : OpenRun) (s : State) : Host.Outcome State Fault Refusal :=
  s.onHub (Hub.faultSuspect ball.input ball.frames)
def execSuspectClear (ball : OpenRun) (s : State) : Host.Outcome State Fault Refusal :=
  s.onHub (Hub.suspectClear ball.input ball.frames)

end Sys2Proof.Machine
end

