-- ==== Sys2Proof/Machine/FrameOps.lean ====
section
/-!
DEFINITION. Shared operations of frames and conversions (R105-R134): the schedule of a frame, urgent captures, the correction
and the result word, and what an input does at a frame tick.
-/

namespace Sys2Proof.Machine

/-- The codes of R8. -/
abbrev qValid : Nat := 0
abbrev qSettling : Nat := 1
abbrev qClipped : Nat := 2
abbrev qSpare : Nat := 3
abbrev qDeferred : Nat := 4
abbrev qWeak : Nat := 5
abbrev qFault : Nat := 6
abbrev qFill : Nat := 7

namespace Hub

/-! ### Schedule -/

def adc (h : Hub) (a : Nat) : Adc := SMap.get (fun _ => {}) h.cnv.adcs a

def setAdc (a : Nat) (x : Adc) (h : Hub) : Hub :=
  { h with cnv := { h.cnv with adcs := SMap.set (fun _ => {}) h.cnv.adcs a x } }

/-- The local input that slot `j` of an ADC converts, by the map in force (R111, R115). -/
def mapSlot (h : Hub) (a j : Nat) : Nat :=
  bits (h.reg (CNV_SLOT_MAP (8 * a + j / 4))).toNat (8 * (j % 4) + 4) (8 * (j % 4))

/-- The frame's ADC periods P (R110). -/
def adcPeriods (h : Hub) : Nat := 2 * h.fld CNV_FRAME_PERIOD_SLOTS

/-- The key of a coefficient set. -/
def coefKey (n mode setting : Nat) : Nat := (n * 8 + mode) * 8 + setting

def coef (h : Hub) (n mode setting : Nat) : Coef := SMap.get (fun _ => {}) h.cal.sets (coefKey n mode setting)

/-- The lead correction of a RES pair in Q0.24 (R80, R81). -/
def leadRatio (h : Hub) (c : Nat) : Nat :=
  match h.fld (AFE_CELL_CFG_WIRES c) with
  | 0 => h.fld (AFE_LEAD_FIX_RATIO c)
  | 1 => h.fld (AFE_LEAD_MEAS_RATIO c)
  | _ => 0

/-- What holds for an input at a tick or a capture, as its word will tell (R126, R131), and what its code is corrected with: the
setting of the tick (R132), the coefficients and the lead in force then (R80, R81, R125). -/
def convOf (h : Hub) (c frame : Nat) (tick : Int) : Conv :=
  { input := c, frame := frame, tick := tick, base := tick, cad := h.mt.breaks, lead := h.leadRatio c
    coef := h.coef (h.servingCell c) (h.mode c) (h.setting c), mode := h.mode c, setting := h.setting c, spare := h.spareIn c
    fault := h.flag (AFE_CELL_STAT_FAULT c), settling := h.flag (AFE_CELL_STAT_SETTLING c)
    sw := h.flag (AFE_CELL_STAT_SW c), hi := h.flag (AFE_CELL_STAT_CMP_HI c), lo := h.flag (AFE_CELL_STAT_CMP_LO c) }

/-- The sequence of one ADC for a frame: its acquiring inputs in slot order; then the captures deferred to the frame, from
slot 36 on (R110, R111, R122). -/
def scheduleAdc (a frame : Nat) (tick : Int) (hold re : Bool) (h : Hub) : List Conv :=
  (List.range 32).filterMap fun j =>
    let c := 32 * a + h.mapSlot a j
    if h.acquires c && h.afePowered (c / 16) then
      some { h.convOf c frame tick with slot := j, holdover := hold, reanchor := re, zero := (h.cell c).release }
    else none

/-- The deferred captures stand in the slots from `s` on, counted from the edge `base`. -/
def placeDeferred (base : Int) (s : Nat) : List Conv → List Conv
  | [] => []
  | c :: rest => { c with slot := s, base := base, defer := true } :: placeDeferred base (s + 1) rest

/-! ### Urgent captures (R116-R123) -/

/-- The first slot at or after `u` that holds neither an urgent nor a deferred conversion (R119). -/
def freeSlot (busy : List Nat) (fuel u : Nat) : Nat :=
  match fuel with
  | 0 => u
  | n + 1 => if busy.contains u then freeSlot busy n (u + 1) else u

/-- Slot `v` of the running frame holds a scheduled channel or calibration conversion of ADC `a` (R119). -/
def holdsConv (h : Hub) (a frame v : Nat) : Bool :=
  v == 32 + (h.adc a).shift || v == 33 + (h.adc a).shift ||
    h.cnv.convs.any fun c => c.input / 32 == a && c.frame == frame && !c.urgent && c.slot == v

/-- The conversion in slot `v` is aborted and redone one slot later; all later ones of the frame move one slot (R119). -/
def shiftFrom (a frame v : Nat) (h : Hub) : Hub :=
  let move (c : Conv) : Conv :=
    if c.input / 32 == a && c.frame == frame && !c.urgent && decide (v ≤ c.slot) then
      { c with slot := c.slot + 1, shift := c.shift + 1, redo := c.redo || c.slot == v }
    else c
  { h with cnv := { h.cnv with convs := h.cnv.convs.map move } }

/-- A capture that is not taken is counted and reported (R122, R123). -/
def refuseCapture (c frame : Nat) (h : Hub) : Hub :=
  (h.bump (CNV_URG_CNT_REFUSED (c / 32)) 1).raise (32 + c / 32) 2 [c, frame % 65536]

/-- A capture is deferred to a deferred slot of the next frame, where one is left (R122). -/
def deferCapture (cv : Conv) (h : Hub) : Hub :=
  let a := cv.input / 32
  let x := h.adc a
  if x.deferred.length < h.adcPeriods - 36 then
    let h := h.setAdc a { x with deferred := x.deferred ++ [{ cv with defer := true }] }
    (h.bump (CNV_URG_CNT_DEFERRED a) 1).bump (CNV_ADC_STAT_PENDING a) 1
  else h.refuseCapture cv.input cv.frame

/-- An urgent capture of window k that is due in slot `u` (R118, R119). In a window that runs on over a tick that was not taken, u
may exceed P: the spec says nothing of it, and it counts as u = P (DESIGN CHOICE, log entry 120). -/
def placeCapture (cv : Conv) (u : Nat) (h : Hub) : Hub :=
  let a := cv.input / 32
  let x := h.adc a
  let p := h.adcPeriods
  let v := freeSlot x.busy 200 u
  if u < p ∧ v < p then
    if x.used < 2 then
      let hit := h.holdsConv a cv.frame v
      let h := h.setAdc a { x with used := x.used + 1, busy := x.busy ++ [v], shift := x.shift + ofBool hit }
      let h := if hit then h.shiftFrom a cv.frame v else h
      let h : Hub := { h with cnv := { h.cnv with convs := h.cnv.convs ++ [{ cv with slot := v }] } }
      (h.bump (CNV_URG_CNT_SERVED a) 1).tally 188 1
    else (h.deferCapture cv).tally 188 1
  else if x.usedNext < 2 then
    let h := h.setAdc a { x with usedNext := x.usedNext + 1, atZero := x.atZero ++ [cv] }
    (h.bump (CNV_URG_CNT_SERVED a) 1).tally 188 1
  else (h.deferCapture cv).tally 188 1

/-- t_c − t_k, the capture instant of an edge `fine`/1024 slot after the tick, 3.0 ns after it, with BCLK in units of 100 Hz; an ADC
period is 5,120,000,000 of its units (R116). -/
def captureTime (fine bclk : Nat) : Nat := fine * 10000000 + 3072 * bclk

/-- The slot u in which a capture is due: ⌊(t_c + 8.0 ns − t_k) / T_ADC⌋ (R118). -/
def captureSlot (t bclk : Nat) : Nat := (t + 8192 * bclk) / 5120000000

/-- The cell that makes a conversion (R105, R128). -/
def convCell (cv : Conv) : Nat := 17 * (cv.input / 16) + (if cv.spare then 16 else cv.input % 16)

/-- The second track-and-hold of cell `n` still holds a capture at time `t` after the edge of the last tick: one that is deferred, or
whose conversion is not over (R117). -/
def holdsCapture (h : Hub) (n t : Nat) : Bool :=
  let x := h.adc (n / 34)
  (x.deferred ++ x.atZero).any (fun cv => convCell cv == n) ||
    h.cnv.convs.any fun cv => cv.urgent && convCell cv == n &&
      decide ((t / 5120000000 : Nat) ≤ 2 * (cv.base - h.mt.lastEdge.getD 0) + (cv.slot : Int))

/-- The cell of an input captures at time `t` after the tick of the window that runs (R117, R118). A cell that is switched away for
calibration takes none (R367), nor does an ADC out of service (R135); that the request is then not counted either is the model's
choice (DESIGN CHOICE, log entry 121). -/
def captureAt (c t : Nat) (h : Hub) : Hub :=
  let a := c / 32
  if !h.flag CNV_CTRL_URG_EN || !h.flag (CNV_CH_CFG_ILK c) || !h.adcIn c || h.switchedOut c then h
  else match h.trg.window with
    | none => h.refuseCapture c (h.fld CNV_FRAME_NUM_FRAME)
    | some w =>
      if h.holdsCapture (h.servingCell c) t then h.bump (CNV_URG_CNT_MERGED a) 1
      else
        let cv : Conv := { h.convOf c w.frame w.tick with
          urgent := true, holdover := w.holdover, reanchor := w.reanchor
          base := h.mt.lastEdge.getD w.tick, ord := h.cnv.captures }
        ({ h with cnv := { h.cnv with captures := h.cnv.captures + 1 } } : Hub).placeCapture cv (captureSlot t h.bclk)

/-- The capture instant of an edge `fine`/1024 slot after the tick lies in a later slot than the edge (R116). -/
def capturesLater (fine bclk : Nat) : Bool := decide (10240000000 ≤ captureTime (fine % 1024) bclk)

/-- A rising selected comparator of an INTERLOCK input requests an urgent capture (R116). A capture instant at or after the next
tick belongs to that tick's window (R118), so the request waits for what happens at the grid instance. -/
def requestUrgent (c fine : Nat) (h : Hub) : Hub :=
  if h.cnv.gridNext = some (h.now + 1) ∧ h.cnv.series.isSome ∧ capturesLater fine h.bclk then
    { h with cnv := { h.cnv with spill := h.cnv.spill ++ [(c, fine)] } }
  else h.captureAt c (captureTime fine h.bclk)

/-! ### Comparator edges (R83, R205, R212, R213) -/

/-- The group TDC takes an edge `fine`/1024 slot after the tick: the first of the window is timed, later ones are counted. -/
def tdcEdge (c fine : Nat) (h : Hub) : Hub :=
  match h.trg.window with
  | none => h
  | some w =>
    let g := c / 16
    match SMap.find? w.first g with
    | none =>
      let h : Hub := { h with trg := { h.trg with window := some { w with first := SMap.insert w.first g (c, fine) } } }
      let h := (((h.put (TRG_TDC_VALID g) 1).put (TRG_TDC_SLOTS g) (fine / 1024)).put (TRG_TDC_FINE g) (fine % 1024))
      ((h.put (TRG_TDC_FRAME g) w.frame).put (TRG_TDC_INPUT g) (c % 16)).put (TRG_TDC_LATER g) 0
    | some _ =>
      let n := SMap.get (fun _ => 0) w.later g + 1
      let h : Hub := { h with trg := { h.trg with window := some { w with later := SMap.set (fun _ => 0) w.later g n } } }
      h.put (TRG_TDC_LATER g) (min 4095 n)

/-- The channel bit of an input rises in the window, `fine`/1024 slot after the tick. -/
def noteChan (c fine : Nat) (h : Hub) : Hub :=
  match h.trg.window with
  | none => h
  | some w =>
    let b := BitVec.ofNat 512 (2 ^ c)
    let at_ := if (SMap.find? w.riseAt c).isSome then w.riseAt else SMap.insert w.riseAt c fine
    { h with trg := { h.trg with window := some { w with high := w.high ||| b, rose := w.rose ||| b, riseAt := at_ } } }

/-- A comparator of the cell that serves input `c` crosses its threshold: the high one or the low one, up or down, `fine`/1024
slot after the last frame tick. Frozen and forced outputs do not follow (R86, R87) and request nothing (R116). -/
def crossing (c : Nat) (high rises : Bool) (fine : Nat) (h : Hub) : Hub :=
  if !h.acquires c || !h.afePowered (c / 16) then h else
  let h := match h.trg.window with
    | some w => h.advanceTo (h.mt.lastEdge.getD w.tick + (fine / 1024 : Nat))
    | none => h
  let x := h.cell c
  let x := if high then { x with rawHi := rises, rawSw := x.rawSw || rises }
           else { x with rawLo := rises, rawSw := x.rawSw && !rises }
  let was := h.cmpOut c
  let h := (h.setCell c x).driveCmpAt c (fine % 1024)
  let is := h.cmpOut c
  let hiUp := !was.1 && is.1
  let loUp := !was.2.1 && is.2.1
  let swUp := !was.2.2 && is.2.2
  let src := h.chSrc c
  let chanUp := (src == 0 && hiUp) || (src == 1 && loUp) || (src == 3 && swUp)
  let urg := h.fld (CNV_CH_CFG_URG_SRC c)
  let urgUp := h.flag CNV_CTRL_URG_EN && h.flag (CNV_CH_CFG_ILK c) &&
    ((bit urg 0 && hiUp) || (bit urg 1 && loUp))
  let h := if chanUp || urgUp then h.tdcEdge c fine else h
  let h := if chanUp then h.noteChan c fine else h
  if urgUp then h.requestUrgent c fine else h

/-! ### Correction (R124) -/

/-- Code to value: offset and gain, rounded convergently (R124). -/
def correct (k : Coef) (code : Int) : Int := roundConv ((136 * code - k.offset) * k.gain) 4194304

/-- The quality code of a cell result (R131, R9). -/
def cellQ (cv : Conv) (clipped : Bool) : Nat :=
  let q := if cv.spare then qSpare else qValid
  let q := if cv.defer then qJoin q qDeferred else q
  let q := if cv.settling then qJoin q qSettling else q
  let q := if clipped then qJoin q qClipped else q
  if cv.fault then qJoin q qFault else q

/-- The 64-bit result word (R126). -/
def resultWord (cv : Conv) (v : Int) (q : Nat) (qreset : Bool) : BitVec 64 :=
  BitVec.ofNat 64 (ofBool cv.spare * 2 ^ 63 + cv.input % 512 * 2 ^ 54 + q % 8 * 2 ^ 51 + cv.frame % 65536 * 2 ^ 35
    + unsigned 24 v * 2 ^ 11 + ofBool cv.urgent * 2 ^ 10 + ofBool cv.defer * 2 ^ 9 + ofBool cv.redo * 2 ^ 8
    + ofBool cv.calStep * 2 ^ 7 + ofBool cv.sw * 2 ^ 6 + ofBool cv.hi * 2 ^ 5 + ofBool cv.lo * 2 ^ 4
    + cv.shift % 4 * 4 + ofBool qreset * 2)

/-- y[k−1] and n[k] of R67 for the frame `f`; at the frame after a release y counts as 0 (R70). -/
def chargeFrom (x : Cell) (f : Nat) : Int × Int := if x.zeroY.map (· + 1) = some f then (0, 0) else (x.yPrev, x.nPrev)

/-- The charge of a CA frame: Q[k] = y[k] − y[k−1] + n[k] × Q_R, with the estimate of a dead interval that ended before it
(R67, R72), before saturation. -/
def chargeOf (h : Hub) (cv : Conv) (y : Int) : Int :=
  let x := h.cell cv.input
  let (y0, n) := chargeFrom x cv.frame
  let v := y - y0 + n * cv.coef.qr
  match x.switch.find? fun s => s.frame + 1 == cv.frame with
  | some s => v + roundConv s.num (s.den * rangeFs cv.setting)
  | none => v

/-- The charge of a frame is counted in QCUM: the frame lies after the last zeroing tick (R70). -/
def chargeCounted (x : Cell) (f : Nat) : Bool := x.zeroFrame.all (· < f)

/-- The switches whose second frame is that of `cv` are over, and reported: a change of range, a hand-over (R72, R101). -/
def endSwitches (cv : Conv) (h : Hub) : Hub :=
  let c := cv.input
  let x := h.cell c
  let m := h.mtAt cv.tick
  (x.switch.filter fun s => s.frame + 1 == cv.frame).foldl (fun (h : Hub) (s : RangeSwitch) =>
    let fc := roundConv s.num (s.den * 4194304)
    let h := if s.oldRange = s.newRange then h else
      h.groupEvent (c / 16) 4 (c % 16) ([s.oldRange, s.newRange, sword fc] ++ wide m.pack)
    match s.spare with
    | none => h
    | some toSpare => h.groupEvent (c / 16) 5 (c % 16) [ofBool (!toSpare), sword fc])
    (h.setCell c { x with switch := x.switch.filter fun s => decide (cv.frame ≤ s.frame) })

/-- What a CA frame leaves behind: the removal of a quantum or the discharge of a switch, QCUM, and INEXACT (R66-R72). `t` is
the frame period in ADC periods. An estimate without a bound is reported with the frame of tick k, whose conversion forms it
(DESIGN CHOICE, log entry 122). -/
def chargeAfter (cv : Conv) (y v : Int) (q : Nat) (clip : Bool) (t : Nat) (h : Hub) : Hub :=
  let c := cv.input
  let h := h.endSwitches cv
  let x := h.cell c
  let measured := q != qFill && q != qFault
  let starts := x.switch.any fun s => s.frame == cv.frame
  let sloped := x.q1Frame.map (· + 1) == some cv.frame && !clip
  let charge := v * (rangeFs cv.setting : Nat)
  let (num, den) := deadCharge charge x.q1 sloped (cv.slot + 2) t
  let n : Int := if starts then 0 else if 3145728 < y then 1 else if y < -3145728 then -1 else 0
  let counts := chargeCounted x cv.frame
  let h := h.setCell c { x with
    switch := x.switch.map fun s => if s.frame = cv.frame then { s with num := num, den := den } else s
    yPrev := if starts then 0 else y, nPrev := n
    q1 := charge, q1Frame := if measured then some cv.frame else none
    qacc := if counts then (x.qacc + charge) % (2 ^ 70 : Nat) else x.qacc }
  let unbounded := starts && !sloped && chargeCounted x (cv.frame + 1)
  if ((!measured || clip) && counts) || unbounded then h.setInexact c (h.mtAt cv.tick) else h

end Hub

end Sys2Proof.Machine
end

