-- ==== Sys2Proof/Machine/Nvm.lean ====
section
/-!
DEFINITION. The flash (R386).
-/

namespace Sys2Proof.Machine

/-! ### The flash (R386) -/

namespace Hub

/-- A byte of the flash; an erased one reads 0xFF. -/
def nvmByte (h : Hub) (a : Nat) : Byte := SMap.get (fun _ => 0xFF) h.boot.nvm a

/-- The flash is in canonical form: offsets rise, and no byte is listed that reads 0xFF unlisted. -/
def nvmWf (h : Hub) : Bool := SMap.wf (fun _ => 0xFF) h.boot.nvm

/-- `n` bytes of the flash from an offset on. -/
def nvmRead (h : Hub) (a n : Nat) : List Byte := (List.range n).map fun i => h.nvmByte (a + i)

/-- A word of the flash, most significant byte first. -/
def nvmWord (h : Hub) (a : Nat) : Nat := beNat (h.nvmRead a 4)

/-- Program bytes from an offset on. -/
def nvmWrite (a : Nat) (bs : List Byte) (h : Hub) : Hub :=
  let m := (bs.zip (List.range bs.length)).foldl (fun (m : SMap Byte) p => SMap.set (fun _ => 0xFF) m (a + p.2) p.1) h.boot.nvm
  { h with boot := { h.boot with nvm := m } }

/-- Erase the bytes from `a` up to `a + n`. -/
def nvmErase (a n : Nat) (h : Hub) : Hub :=
  { h with boot := { h.boot with nvm := h.boot.nvm.filter fun p => !(decide (a ≤ p.1) && decide (p.1 < a + n)) } }

/-- The flash reads wholly 0xFF over a range. -/
def nvmBlank (h : Hub) (a n : Nat) : Bool := !h.boot.nvm.any fun p => decide (a ≤ p.1) && decide (p.1 < a + n)

end Hub

end Sys2Proof.Machine
end

