-- ==== Sys2Proof/Machine/CalOps.lean ====
section
/-!
DEFINITION. Shared operations of calibration and of the spare cells: values kept in NVM and the journal (R377-R382), coefficient
sets in force (R124, R362), the spare's assignments (R100, R101, R129, R130), failed units (R375), FT as time stamps need it.
-/

namespace Sys2Proof.Machine

/-- Items of R359. -/
abbrev itemCoef : Nat := 1
abbrev itemTap : Nat := 2
abbrev itemTrim : Nat := 3
abbrev itemStage : Nat := 4
abbrev itemRef : Nat := 5
abbrev itemExc : Nat := 6
abbrev itemRref : Nat := 7
abbrev itemSkew : Nat := 8
abbrev itemIq : Nat := 9
abbrev itemRange : Nat := 10
abbrev itemFail : Nat := 14
abbrev itemRow : Nat := 15

/-- The key of a calibration value: item, index, setting (R378). -/
def calKey (item index setting : Nat) : Nat := (item % 256 * 65536 + index % 65536) * 256 + setting % 256

/-- SETTING of a cell value (R378). -/
def settingCode (mode setting : Nat) : Nat := mode % 8 * 32 + setting % 32

/-- The words of an entry before its check word (R378). -/
def entryWords (key : Nat) (v : CalValue) : List Word :=
  ([0xCA * 2 ^ 24 + key / 2 ^ 24 % 256 * 2 ^ 16 + v.payload.length % 256 * 2 ^ 8 + ofBool v.large * 128 + ofBool v.fallback * 64,
    v.seq, (if key / 2 ^ 24 % 256 = 15 then 0 else key / 256 % 65536) * 65536 + key % 256 * 256] ++ wide v.ft).map (BitVec.ofNat 32) ++ v.payload

/-- The bytes of an entry with its CRC-32C (R378). -/
def entryBytes (key : Nat) (v : CalValue) : List Byte :=
  let b := beBytes (entryWords key v)
  b ++ beWord (BitVec.ofNat 32 (crc32c b))

/-- A value differs from the one stored last by more than the threshold of its item (R380). -/
def beyond (item : Nat) (new old : List Word) : Bool :=
  let n (ws : List Word) (i : Nat) : Nat := (ws.getD i 0).toNat
  let apart (a b : Int) (t : Nat) : Bool := decide ((t : Int) < a - b) || decide ((t : Int) < b - a)
  if item = itemCoef then
    apart (signed 24 (n new 0)) (signed 24 (n old 0)) 1024 || apart (n new 1) (n old 1) 256
      || decide (n old 2 < 4096 * (if n old 2 < n new 2 then n new 2 - n old 2 else n old 2 - n new 2))
  else if item = itemRef || item = itemExc then apart (signed 16 (n new 0)) (signed 16 (n old 0)) 4
  else new != old

/-- The value an item has with no valid entry (R381), Q_R outside CA being 0 (R378); an item without a stated default has none. -/
def defaultPayload (item setting : Nat) : List Word :=
  if item = itemCoef then [0, 0x400000, if setting / 32 = 2 then 0x200000 else 0] else if item = itemTap || item = itemSkew then [32]
  else if item = itemTrim || item = itemRef || item = itemExc then [0] else []

namespace Hub

/-! ### Facility Time of an instant (R306) -/

/-- FT at an LT in units of 10^-12 ns. -/
def ftAt (h : Hub) (lt : Nat) : Int := h.ft.ft + ((lt : Int) - h.ft.at_) * (1000000000000 + h.ft.y)

/-- FT in ns, rounded down. -/
def ftNs (h : Hub) (lt : Nat) : Nat := (h.ftAt lt / 1000000000000 % (2 ^ 64 : Nat)).toNat

/-- FT as entries and records carry it: 0 while it is not valid. -/
def ftStamp (h : Hub) : Nat := if h.flag FT_STAT_FT_VALID then h.ftNs h.lt else 0

/-! ### The journal (R377-R382) -/

def calValue (h : Hub) (k : Nat) : CalValue := SMap.get (fun _ => {}) h.cal.values k

/-- The journal is written in COMMISSION, OPERATE and SERVICE (R380). -/
def journals (h : Hub) : Bool := h.lc == 1 || h.lc == 2 || h.lc == 3

/-- The base slot and the journal in the flash (R377). -/
def baseAt (slot : Nat) : Nat := 0x02000000 + slot % 2 * 0x80000
def journalAt : Nat := 0x02100000

/-- Compaction (R382): every value in force goes into the other base slot under the next generation, and the journal is
erased. -/
def compact (h : Hub) : Hub :=
  let slot := 1 - h.fld CAL_JOURNAL_STAT_BASE_SLOT
  let gen := (h.fld CAL_JOURNAL_STAT_GENERATION + 1) % 2 ^ 32
  let high := (h.fld CAL_JOURNAL_STAT_SEQ + 2 ^ 32 - 1) % 2 ^ 32
  let entries := h.cal.values.flatMap fun p => entryBytes p.1 p.2
  let hdr := [0x43414C42, gen, high, h.cal.values.length, entries.length].map (BitVec.ofNat 32)
  let hdr := hdr ++ [BitVec.ofNat 32 (crc32c (beBytes hdr))]
  let commit := BitVec.ofNat 32 (gen ^^^ 0x5A5A5A5A)
  let h := ((h.nvmErase (baseAt slot) 0x80000).nvmWrite (baseAt slot) (beBytes hdr ++ entries ++ beWord commit))
  let h := h.nvmErase journalAt 0x300000
  let h := ((h.put CAL_JOURNAL_STAT_BASE_SLOT slot).put CAL_JOURNAL_STAT_GENERATION gen).bump CAL_JOURNAL_STAT_COMPACTIONS 1
  (h.put CAL_JOURNAL_STAT_PAGES 0).raise 213 0 [1, high, 0]

/-- Append the value of a key as a journal entry on its own page (R379, R380); past COMPACT_PCT the journal is compacted. While
the management plane stalls the write waits (R4). -/
def appendEntry (k : Nat) (h : Hub) : Hub :=
  if h.boot.stalled then
    (if h.cal.journalDue.contains k then h else { h with cal := { h.cal with journalDue := h.cal.journalDue ++ [k] } })
  else
  let seq := h.fld CAL_JOURNAL_STAT_SEQ
  let page := h.fld CAL_JOURNAL_STAT_PAGES
  if 12288 ≤ page then h else
  let v := { h.calValue k with seq := seq }
  let h : Hub := { h with cal := { h.cal with
    values := SMap.set (fun _ => {}) h.cal.values k v
    stored := SMap.set (fun _ => {}) h.cal.stored k v
    wrote := SMap.insert h.cal.wrote k h.lt } }
  let h := h.nvmWrite (journalAt + 256 * page) (entryBytes k v)
  let h := (h.put CAL_JOURNAL_STAT_SEQ (seq + 1)).put CAL_JOURNAL_STAT_PAGES (page + 1)
  let h := h.raise 213 0 [0, seq, page + 1]
  if h.fld CAL_JOURNAL_CFG_COMPACT_PCT * 12288 < 100 * (page + 1) then h.compact else h

/-- A value comes into force: it is kept, and journalled when it differs enough from what was stored and the least interval of
its key has passed; FAIL and ROW_REPAIR always (R380). -/
def keepValue (item index setting : Nat) (payload : List Word) (large fallback : Bool) (h : Hub) : Hub :=
  let k := calKey item index setting
  let old := match SMap.find? h.cal.stored k with | some v => v.payload | none => defaultPayload item setting
  let v : CalValue := { payload := payload, large := large, fallback := fallback, seq := (h.calValue k).seq, ft := h.ftStamp }
  let h : Hub := { h with cal := { h.cal with values := SMap.set (fun _ => {}) h.cal.values k v } }
  let free := match SMap.find? h.cal.wrote k with
    | some t => decide (t + 1000000000 * h.fld CAL_JOURNAL_CFG_MIN_S ≤ h.lt)
    | none => true
  let always := item == itemFail || item == itemRow
  if h.journals && (always || (beyond item payload old && free) || (large && free)) then h.appendEntry k else h

/-- The journal writes that waited for the end of a stall are made (R4). -/
def flushJournal (h : Hub) : Hub :=
  h.cal.journalDue.foldl (fun (h : Hub) (k : Nat) => h.appendEntry k) { h with cal := { h.cal with journalDue := [] } }

/-! ### Ages (R371) -/

/-- The key of an age: item and index. -/
def ageKey (item index : Nat) : Nat := item * 65536 + index

/-- The age of an item in whole seconds: the LT since its last measurement, CAL_AGE_LIMIT after a reset. -/
def ageS (h : Hub) (item index : Nat) : Nat :=
  (((h.lt : Int) - SMap.get (fun _ => (h.cal.agesFrom : Int) - 1000000000 * (h.fld CAL_AGE_LIMIT_S : Int)) h.cal.since
    (ageKey item index)) / 1000000000).toNat

/-- Every age starts at CAL_AGE_LIMIT, as after a reset (R371, R433). -/
def startAges (h : Hub) : Hub := { h with cal := { h.cal with since := [], agesFrom := h.lt } }

/-- The item has just been measured: its age is 0 and it is no longer stale. -/
def resetAge (item index : Nat) (h : Hub) : Hub :=
  let h : Hub := { h with cal := { h.cal with
    since := SMap.insert h.cal.since (ageKey item index) (h.lt : Int)
    stale := h.cal.stale.filter (fun x => x != ageKey item index) } }
  if item = itemCoef then h.put (CAL_CELL_STAT_STALE index) 0 else h

/-! ### Coefficient sets (R124, R362) -/

def setCoef (n mode setting : Nat) (k : Coef) (h : Hub) : Hub :=
  { h with cal := { h.cal with sets := SMap.set (fun _ => {}) h.cal.sets (coefKey n mode setting) k } }

/-- The input whose settings a cell has: its own, or the one the spare serves or joins (R100). -/
def inputOfCell (h : Hub) (n : Nat) : Nat :=
  16 * (n / 17) + (if n % 17 = 16 then h.fld (CNV_SPARE_STAT_INPUT (n / 17)) else n % 17)

/-- CAL.COEF[n] shows the set for the setting in force (R384). -/
def showCoef (n : Nat) (h : Hub) : Hub :=
  let c := h.inputOfCell n
  let k := h.coef n (h.mode c) (h.setting c)
  ((h.sput (CAL_COEF_OFFSET n) k.offset).put (CAL_COEF_GAIN n) k.gain).put (CAL_COEF_Q_R n) k.qr

def coefPayload (k : Coef) : List Word :=
  [BitVec.ofNat 32 (unsigned 24 k.offset), BitVec.ofNat 32 (k.gain % 2 ^ 24), BitVec.ofNat 32 (k.qr % 2 ^ 24)]

/-- The calibrated tap of a cell (R106, R381). -/
def calTap (h : Hub) (n : Nat) : Nat :=
  match SMap.find? h.cal.values (calKey itemTap n 0) with
  | some v => (v.payload.headD 32).toNat % 64
  | none => 32

/-- The tap of a cell before clamping (R107): calibrated tap plus the skew of the input it serves. -/
def fullTap (h : Hub) (n : Nat) : Int := (h.calTap n : Int) + h.sfld (CNV_APT_SKEW_SKEW (h.inputOfCell n))

/-- The effective tap of a cell (R107): clamped, and a clamp is reported. -/
def setTap (n : Nat) (h : Hub) : Hub :=
  let t := h.fullTap n
  let e := clamp 0 63 t
  let h := (h.put (CNV_APT_TAP_TAP n) e.toNat).put (CNV_APT_TAP_CLAMPED n) (ofBool (e != t))
  if e != t then h.raise (32 + n / 34) 5 [n, sword t] else h

/-- A cell that begins to serve an input takes the tap that the input's skew gives it, if it has another (R107). -/
def syncTap (n : Nat) (h : Hub) : Hub :=
  if (h.fld (CNV_APT_TAP_TAP n) : Int) = clamp 0 63 (h.fullTap n) then h else h.setTap n

/-- An applied change is reported: item, index, setting, and the path 0 main, 1 fallback, 2 window (R383). -/
def raiseApplied (item index setting path : Nat) (h : Hub) : Hub := h.raise 208 0 [item, index, setting, path]

/-! ### The rotation and the spare (R100, R101, R129, R130, R362-R366) -/

def rotation (h : Hub) (g : Nat) : Rotation := SMap.get (fun _ => {}) h.cal.groups g

def setRotation (g : Nat) (r : Rotation) (h : Hub) : Hub :=
  { h with cal := { h.cal with groups := SMap.set (fun _ => {}) h.cal.groups g r } }

/-- An input that is visited: neither OFF nor PARTNER nor excluded (R362). -/
def visitable (h : Hub) (c : Nat) : Bool := h.acquires c && !bit (h.fld (CAL_EXCLUDE_EXCL (c / 16))) (c % 16)

/-- The spare may serve visits: it has not failed, and is neither fixed nor standing in for a failed primary (R367). -/
def spareVisits (h : Hub) (g : Nat) : Bool :=
  !(h.group g).spareFailed && !h.flag (CNV_SPARE_FIX_EN g) && (h.group g).failed == 0

/-- SPARE_OK; between visits the state is FALLBACK while the spare serves none, SPARE_CAL while it calibrates itself for the next
input, else IDLE (R364, R367, R384). -/
def refreshRotation (g : Nat) (h : Hub) : Hub :=
  let ok := h.spareVisits g
  let h := h.put (CAL_GRP_STAT_SPARE_OK g) (ofBool ok)
  let st := h.fld (CAL_GRP_STAT_STATE g)
  if st == 2 || st == 3 || st == 4 then h
  else if !ok then h.put (CAL_GRP_STAT_STATE g) 5
  else if h.flag CAL_CTRL_EN && h.afePowered g && (List.range 16).any (fun i => h.visitable (16 * g + i)) then
    h.put (CAL_GRP_STAT_STATE g) 1
  else h.put (CAL_GRP_STAT_STATE g) 0

/-- The spare has calibrated itself for the setting of an input that is due to be visited (R364): its set for it, and what it holds, are
free values within the limits of R375 (DESIGN CHOICE, log entry 131). -/
def freshSpare (c : Nat) (h : Hub) : Hub :=
  let n := 17 * (c / 16) + 16
  let v (k : Nat) : Nat := Config.spareCoef k n h.fresh
  (h.setCoef n (h.mode c) (h.setting c)
    { offset := (v 0 % 524289 : Nat) - 262144, gain := 3932160 + v 1 % 524289, qr := v 2 % 2 ^ 24 }).tick

/-- The spare starts to join an input: reason 1 CAL, 2 FIX, 3 FAILED (R100, R101). -/
def joinSpare (c reason : Nat) (h : Hub) : Hub :=
  let g := c / 16
  let h := ((h.put (CNV_SPARE_STAT_STATE g) 1).put (CNV_SPARE_STAT_REASON g) reason).put (CNV_SPARE_STAT_INPUT g) c
  let h := h.setGroup g { h.group g with settleFrom := (h.cnv.taken, h.mt.clock) }
  (h.showCoef (17 * g + 16)).setTap (17 * g + 16)

/-- The spare starts to hand back. -/
def returnSpare (g : Nat) (h : Hub) : Hub :=
  let h := if h.fld (CNV_SPARE_STAT_STATE g) = 3 then h else
    (h.put (CNV_SPARE_STAT_STATE g) 3).setGroup g { h.group g with settleFrom := (h.cnv.taken, h.mt.clock) }
  if (h.rotation g).visit.isSome then h.put (CAL_GRP_STAT_STATE g) 4 else h

/-- The visit that runs ends without applying anything (R366): the spare hands back. -/
def endVisit (g : Nat) (h : Hub) : Hub :=
  if (h.rotation g).visit.isNone then h else
  (h.setRotation g { h.rotation g with result := none, first := none, large := false, measured := false }).returnSpare g

/-- The measurement of the visit that runs starts again (R366): what was measured is discarded, and a spare that was about to
hand back stays. -/
def restartVisit (g : Nat) (h : Hub) : Hub :=
  match (h.rotation g).visit with
  | none => h
  | some c =>
    let h := h.setRotation g { h.rotation g with result := none, first := none, large := false, measured := false, convs := 0 }
    if h.fld (CNV_SPARE_STAT_STATE g) = 3 && h.spareIn c then
      (h.put (CNV_SPARE_STAT_STATE g) 2).put (CAL_GRP_STAT_STATE g) 3
    else h

/-- The next visit of the group starts, where one waits and the spare is free for it (R362, R365). -/
def startVisit (g : Nat) (h : Hub) : Hub :=
  let r := h.rotation g
  match r.queue.find? h.visitable with
  | none => h
  | some c =>
    if r.visit.isSome || h.fld (CNV_SPARE_STAT_STATE g) != 0 || !h.spareVisits g || !h.flag CAL_CTRL_EN || !h.afePowered g
        || h.boot.stalled then h else
    let h := h.setRotation g { r with queue := r.queue.erase c, visit := some c, result := none, measured := false, convs := 0 }
    let h := (h.freshSpare c |>.put (CAL_GRP_STAT_STATE g) 2).put (CAL_GRP_STAT_INPUT g) c
    h.joinSpare c 1

/-- An input that waits for the spare because its cell failed: of several the lowest, which the spec does not say (DESIGN CHOICE, log
entry 124). -/
def failedInput (h : Hub) (g : Nat) : Option Nat := (List.range 16).find? fun i => (h.group g).failed.getLsbD i

/-- Every failed primary that the spare neither serves nor joins keeps converting, marked FAULT with source CELL (R130). -/
def markUnserved (g : Nat) (h : Hub) : Hub :=
  (List.range 16).foldl (fun (h : Hub) (i : Nat) =>
    if (h.group g).failed.getLsbD i && !(h.fld (CNV_SPARE_STAT_STATE g) != 0 && h.fld (CNV_SPARE_STAT_INPUT g) == i) then
      h.setCell (16 * g + i) { h.cell (16 * g + i) with cellFault := true }
    else h) h

/-- The spare has handed back: it joins the input that has a claim to it, or is idle and the next visit may start
(R129, R130). -/
def chooseAssignment (g : Nat) (h : Hub) : Hub :=
  let x := h.group g
  let h := (h.put (CNV_SPARE_STAT_STATE g) 0).put (CNV_SPARE_STAT_REASON g) 0
  let h := if (h.rotation g).visit.isSome then
      (h.setRotation g { h.rotation g with visit := none }).put (CAL_GRP_STAT_STATE g) 0
    else h
  let h := h.refreshRotation g
  if x.spareFailed then h else
  match x.fixNext with
  | some c => (h.setGroup g { x with fixNext := none }).joinSpare c 2
  | none => match h.failedInput g with
    | some i => h.joinSpare (16 * g + i) 3
    | none => if h.flag (CNV_SPARE_FIX_EN g) then h.joinSpare (16 * g + h.fld (CNV_SPARE_FIX_INPUT g)) 2 else h.startVisit g

def nextAssignment (g : Nat) (h : Hub) : Hub := (h.chooseAssignment g).markUnserved g

/-- What becomes of the conversion of an input in the frame of the last tick, where it still waits. -/
def changeConv (c : Nat) (f : Conv → Conv) (h : Hub) : Hub :=
  { h with cnv := { h.cnv with convs := h.cnv.convs.map fun cv =>
    if cv.input = c ∧ cv.frame + 1 = h.cnv.taken ∧ ¬ cv.urgent then f cv else cv } }

/-- The frame of the last tick is SETTLING for an input or pair. -/
def settleNow (c : Nat) (h : Hub) : Hub :=
  let h := (h.put (AFE_CELL_STAT_SETTLING c) 1).put (AFE_CELL_STAT_SETTLE_LEFT c) (max 1 (h.fld (AFE_CELL_STAT_SETTLE_LEFT c)))
  (if h.isPartner (c + 1) then h.mirrorPair (c + 1) else h).changeConv c fun cv => { cv with settling := true }

/-- The frame of the last tick is the first one corrected with the coefficients now in force: it carries CAL_STEP and is SETTLING
(R125, R368, R369). -/
def calStep (c : Nat) (h : Hub) : Hub :=
  (h.changeConv c fun cv =>
    { cv with coef := h.coef (convCell cv) cv.mode cv.setting, calStep := true }).settleNow c

/-- The cell that samples an input changes at a tick: the conversions of that tick still waiting are the new cell's, corrected with
its coefficients, but in CA mode the old cell's, and the dead interval is then estimated (R100, R101, R128). -/
def switchCell (c : Nat) (toSpare : Bool) (h : Hub) : Hub :=
  let g := c / 16
  let show_ (c : Nat) (h : Hub) : Hub := h.put (AFE_CELL_STAT_SPARE_IN c) (ofBool toSpare)
  let h := show_ c h
  let h := if h.isPartner (c + 1) then show_ (c + 1) h else h
  let h := h.syncTap (h.servingCell c)
  let k := h.cnv.taken - 1
  if h.mode c = 2 then
    let x := h.cell c
    let own := (x.switch.find? fun s => s.frame == k).getD { oldRange := h.setting c, newRange := h.setting c, frame := k }
    h.setCell c { x with switch := x.switch.filter (fun s => s.frame != k) ++ [{ own with spare := some toSpare }] }
  else
    let h := h.changeConv c fun cv => { cv with spare := toSpare, coef := h.coef (h.servingCell c) cv.mode cv.setting }
    h.groupEvent g 5 (c % 16) [ofBool (!toSpare), 0]

/-- The spare has joined an input whose own cell failed: the FAULT of source CELL is over (R130). In V, BR and RES mode the frame of
this tick is the first from the spare, and the first after FAULT (R98, R100). -/
def endCellFault (c : Nat) (h : Hub) : Hub :=
  let h := h.setCell c { h.cell c with cellFault := false }
  if h.mode c = 2 || !h.flag (AFE_CELL_STAT_FAULT c) || h.faulty c then h else
  ((h.endFault c).settleNow c).changeConv c fun cv => { cv with fault := false }

/-- The slot holds the tick of a frame, and the cell that is to sample the input has settled for 16 frames and at least 200 µs; in CA
mode, with its own input shorted, the spec gives no time (R100, R101). -/
def handoverReady (h : Hub) (g : Nat) : Bool :=
  let c := 16 * g + h.fld (CNV_SPARE_STAT_INPUT g)
  let from_ := (h.group g).settleFrom
  h.mt.lastEdge == some h.now &&
    (h.mode c == 2 || (h.fld (CNV_SPARE_STAT_STATE g) == 3 && !h.spareIn c) ||
      (decide (from_.1 + 16 ≤ h.cnv.taken) && decide (h.bclk ≤ 50 * (h.mt.clock - from_.2))))

/-- The handover tick of a group's spare (R100, R101, R362): to the spare while it joins, back to the primary while it
returns. -/
def spareHandover (g : Nat) (h : Hub) : Hub :=
  let c := 16 * g + h.fld (CNV_SPARE_STAT_INPUT g)
  if !h.handoverReady g then h else
  match h.fld (CNV_SPARE_STAT_STATE g) with
  | 1 =>
    let h := (h.switchCell c true).put (CNV_SPARE_STAT_STATE g) 2
    let h := h.endCellFault c
    if h.fld (CNV_SPARE_STAT_REASON g) = 1 then
      (h.put (CAL_GRP_STAT_STATE g) 3).setRotation g { h.rotation g with convs := 0 }
    else h
  | 3 => (if h.spareIn c then h.switchCell c false else h).nextAssignment g
  | _ => h

/-! ### A fixed spare (R129, R130) -/

/-- CNV.SPARE_FIX[g] may not name input `i`: it is OFF or a partner, or a failed primary has the spare or waits for a visit to end. -/
def fixRefused (h : Hub) (g i : Nat) : Bool :=
  let reason := if h.fld (CNV_SPARE_STAT_STATE g) = 0 then 0 else h.fld (CNV_SPARE_STAT_REASON g)
  let x := h.group g
  !h.acquires (16 * g + i) || (reason == 3 && h.fld (CNV_SPARE_STAT_INPUT g) != i)
    || (reason == 1 && x.failed != 0 && x.fixNext.isNone && !x.spareFailed && !x.failed.getLsbD i)

/-- A write of CNV.SPARE_FIX[g], held for the next frame tick (R3): none where it is refused. -/
def fixSpare (g : Nat) (en : Bool) (i : Nat) (h : Hub) : Option Hub :=
  if en && h.fixRefused g (i % 16) then none
  else some (h.stage (CNV_SPARE_FIX g) (BitVec.ofNat 32 (ofBool en * 16 + i % 16)))

/-- It takes effect, unless it would be refused by now. -/
def applyFix (g : Nat) (v : Word) (h : Hub) : Hub :=
  let i := (CNV_SPARE_FIX_INPUT g).get v
  let st := h.fld (CNV_SPARE_STAT_STATE g)
  let reason := if st = 0 then 0 else h.fld (CNV_SPARE_STAT_REASON g)
  let x := h.group g
  if (CNV_SPARE_FIX_EN g).get v = 0 then
    let h := (h.setReg (CNV_SPARE_FIX g) v).setGroup g { x with fixNext := none }
    (if reason = 2 then h.returnSpare g else h).refreshRotation g
  else if h.fixRefused g i then h
  else
    let h := h.setReg (CNV_SPARE_FIX g) v
    let h :=
      if x.spareFailed || reason == 3 || (reason == 2 && h.fld (CNV_SPARE_STAT_INPUT g) == i && st != 3) then h
      else if reason == 1 && x.failed != 0 && x.fixNext.isNone then h
      else if st = 0 then h.joinSpare (16 * g + i) 2
      else
        let h := h.setGroup g { x with fixNext := some (16 * g + i) }
        if (h.rotation g).visit.isSome then h.endVisit g else h.returnSpare g
    h.refreshRotation g

/-! ### Visits (R362, R365) -/

/-- The visit of an input is put down, and starts where the spare is free for it. Nothing comes before a second visit of R376. -/
def queueVisit (c : Nat) (next : Bool) (h : Hub) : Hub :=
  let g := c / 16
  let r := h.rotation g
  let q := r.queue.filter fun x => x != c
  let again := r.first.toList.filterMap fun p => if q.head? == some p.1 then some p.1 else none
  let h := h.setRotation g { r with queue := if next then again ++ c :: q.drop again.length else q ++ [c] }
  let h := if r.visit.isNone then h.put (CAL_GRP_STAT_INPUT g) ((h.rotation g).queue.headD c) else h
  h.startVisit g

/-- The visit of an input falls due (R365). -/
def visitDue (c : Nat) (h : Hub) : Hub :=
  if !h.visitable c || !h.flag CAL_CTRL_EN || (h.rotation (c / 16)).queue.contains c then h else h.queueVisit c false

/-- A write of CAL.VISIT (R365), held for the next frame tick (R3): refused for an input that is OFF, a partner or excluded. -/
def writeVisit (c : Nat) (h : Hub) : Option Hub :=
  if h.visitable (c % 512) then some { h with cal := { h.cal with visitDue := h.cal.visitDue ++ [c % 512] } } else none

/-- The writes of CAL.VISIT that were held take effect, in their order. -/
def applyVisits (h : Hub) : Hub :=
  h.cal.visitDue.foldl (fun (h : Hub) (c : Nat) => if h.visitable c then h.queueVisit c true else h)
    { h with cal := { h.cal with visitDue := [] } }

/-- A write of CAL.EXCLUDE takes effect (R366, R384): a visit of an input that is now excluded ends. -/
def applyExclude (g : Nat) (v : Word) (h : Hub) : Hub :=
  let h := h.put (CAL_EXCLUDE_EXCL g) v.toNat
  match (h.rotation g).visit with
  | some c => if h.visitable c then h else h.endVisit g
  | none => h.refreshRotation g

/-! ### Failed units (R375) -/

/-- A trim of a group in a list of 32. -/
def setTrim (g : Nat) (t : Int) (xs : List Int) : List Int := (List.range 32).map fun k => if k = g then t else xs.getD k 0

/-- The REF or EXC trim of a group is in force. -/
def putTrim (exc : Bool) (g : Nat) (t : Int) (h : Hub) : Hub :=
  { h with cal := if exc then { h.cal with excs := setTrim g t h.cal.excs } else { h.cal with refs := setTrim g t h.cal.refs } }

/-- Step 5 of boot and the wake converge the stage trims of every ADC and, where `groups`, measure REF and EXC of every group: each a
free value (R399, R455). -/
def measureTrims (groups : Bool) (h : Hub) : Hub :=
  let stage (m : SMap CalValue) (a : Nat) : SMap CalValue :=
    SMap.insert m (calKey itemStage a 0) { payload := 0 :: (Config.bootStages a h.fresh).take 7 }
  let trim (item g : Nat) : Int := signed 16 (Config.bootTrim item g h.fresh % 2 ^ 16)
  { h.tick with cal := { h.cal with
    values := (List.range 16).foldl stage h.cal.values
    refs := if groups then (List.range 32).map (trim itemRef) else h.cal.refs
    excs := if groups then (List.range 32).map (trim itemExc) else h.cal.excs } }

/-- A unit is declared failed: kind 0 cell, 1 ADC, 2 FADC, 3 RADC. -/
def declareFail (kind index code : Nat) (h : Hub) : Hub :=
  (h.keepValue itemFail index (kind * 32) [BitVec.ofNat 32 code] false false).raise 210 0 [kind, index, code]

/-- A cell is declared failed (R129, R130, R375). -/
def failCell (n code : Nat) (h : Hub) : Hub :=
  let g := n / 17
  let i := n % 17
  let x := h.group g
  let h := ((h.put (CAL_CELL_STAT_FAILED n) 1).put (CAL_CELL_STAT_CODE n) code).declareFail 0 n code
  let st := h.fld (CNV_SPARE_STAT_STATE g)
  if i = 16 then
    let h := (h.setGroup g { x with spareFailed := true, fixNext := none }).setRotation g
      { h.rotation g with result := none, first := none, large := false, measured := false }
    let h := if st = 0 then h else h.returnSpare g
    (h.refreshRotation g).markUnserved g
  else
    let c := 16 * g + i
    if x.failed.getLsbD i then h else
    let h := h.setGroup g { x with failed := x.failed ||| BitVec.ofNat 16 (2 ^ i) }
    let h := if x.spareFailed then h.markUnserved g
      else if st = 0 then h.joinSpare c 3
      else if (h.rotation g).visit.isSome && x.fixNext.isNone then h.endVisit g
      else h.markUnserved g
    h.refreshRotation g

/-- An ADC is declared failed: out of service until reset (R135, R375). The conversions that still wait for it are not made: those of
the frame become FILL words (R131), and captures are gone. -/
def failAdc (a code : Nat) (h : Hub) : Hub :=
  if !h.flag (CNV_ADC_STAT_IN_SERVICE a) then h else
  let h := ((h.put (CNV_ADC_STAT_IN_SERVICE a) 0).put (CAL_ADC_STAT_CODE a) code).raise (32 + a) 3 [code]
  let mine (cv : Conv) : Bool := cv.input / 32 == a
  let lost := (h.cnv.convs.filter fun cv => mine cv && !cv.urgent).map fun cv => { cv with shift := 0, redo := false }
  let h : Hub := { h with cnv := { h.cnv with convs := h.cnv.convs.filter fun cv => !mine cv, fills := h.cnv.fills ++ lost } }
  let h := (h.setAdc a { h.adc a with deferred := [], atZero := [] }).put (CNV_ADC_STAT_PENDING a) 0
  h.declareFail 1 a code

end Hub

end Sys2Proof.Machine
end

