-- ==== Sys2Proof/Machine/Conversion.lean ====
section
/-!
DEFINITION. A conversion completes: its code is corrected, marked, made a result word and given to the readers of the result
queue (R66-R72, R119, R124-R131, R218).
-/

namespace Sys2Proof.Machine

namespace Hub

/-! ### The Standpipe's containers (R218) -/

/-- The Standpipe records an input. -/
def spSelects (h : Hub) (c : Nat) : Bool := h.flag TRG_SP_CFG_EN && bit (h.fld (TRG_SP_SEL_SEL (c / 32))) (c % 32)

/-- A frame word of a selected input goes into its container. -/
def spWrite (c frame : Nat) (v : Int) (q : Nat) (h : Hub) : Hub :=
  if !h.spSelects c then h else
  match SMap.find? h.sp.frames frame with
  | none => h
  | some f =>
    let f : SpFrame := { f with conts := SMap.insert f.conts c (Cont.sample v q).s32 }
    { h with sp := { h.sp with frames := SMap.insert h.sp.frames frame f } }

/-! ### Delivery (R127) -/

/-- A result enters the queue of its ADC and goes to the readers of the queue: the digital thresholds, the raw taps, the chains and
the Standpipe. Urgent words reach raw taps only (R142, R154, R218). -/
def deliver (cv : Conv) (v : Int) (q : Nat) (qreset : Bool) (h : Hub) : Hub :=
  let c := cv.input
  let w := resultWord cv v q qreset
  let h := h.setAdc (c / 32) { h.adc (c / 32) with queue := (h.adc (c / 32)).queue ++ [w] }
  let h := h.tally (84 + c / 32) 1
  let x : Sample := { v := v, q := q }
  let h := if cv.urgent then h else (h.fastDt c cv.frame x).spWrite c cv.frame v q
  let h := h.rawWord cv w
  if cv.urgent then h else h.gatherWord c cv.frame x

/-- A FILL word: the input is not OFF, but no conversion exists (R131). It is no measured frame of R72. VALUE 0, and SP as the
assignment of the spare stands, are the model's (DESIGN CHOICE, log entry 125). -/
def deliverFill (cv : Conv) (h : Hub) : Hub :=
  let c := cv.input
  let h := if cv.mode = 2 then
      let h := h.endSwitches cv
      let h := h.setCell c { h.cell c with q1Frame := none }
      if chargeCounted (h.cell c) cv.frame then h.setInexact c (h.mtAt cv.tick) else h
    else h
  h.deliver cv 0 (qJoin (cellQ cv false) qFill) false

/-- The FILL words that wait for no conversion of an earlier frame leave. -/
def drainFills (h : Hub) : Hub :=
  let waits (cv : Conv) : Bool := h.cnv.convs.any fun x => !x.urgent && decide (x.frame < cv.frame)
  (h.cnv.fills.filter fun cv => !waits cv).foldl (fun (h : Hub) (cv : Conv) => h.deliverFill cv)
    { h with cnv := { h.cnv with fills := h.cnv.fills.filter waits } }

/-! ### Correction (R124) -/

/-- The value of a frame's conversion, and what its clipping adds (R63, R67, R80, R81, R124). -/
def frameValue (h : Hub) (cv : Conv) (y : Int) : Int :=
  if cv.mode = 2 then (if cv.urgent then y else if cv.zero then 0 else h.chargeOf cv y)
  else if cv.mode = 4 then y - roundConv ((cv.lead * 2 ^ cv.setting : Nat) : Int) 4
  else y

/-- A conversion completes before another one (R113). -/
def sooner (a b : Conv) : Bool := decide (2 * a.base + a.slot < 2 * b.base + b.slot)

/-- The conversion of an input completes with a code of its ADC; it is the next one that its ADC completes, in the order in which the
words enter the queue (R113, R127). -/
def convert (c : Nat) (urgent : Bool) (code : Int) (h : Hub) : Hub :=
  match h.cnv.convs.find? fun cv => cv.input == c && cv.urgent == urgent with
  | none => h
  | some cv =>
    if h.cnv.convs.any fun x => x.input / 32 == c / 32 && sooner x cv then h else
    let h : Hub := { h with cnv := { h.cnv with convs := h.cnv.convs.erase cv } }
    let h := if cv.defer then h.put (CNV_ADC_STAT_PENDING (c / 32)) (h.fld (CNV_ADC_STAT_PENDING (c / 32)) - 1) else h
    if !h.adcIn c then h.drainFills else
    let h := h.advanceTo (cv.base + ((cv.slot + 11) / 2 : Nat))
    let code := clamp (-32768) 32767 code
    let y := if cv.zero && cv.mode == 2 && !urgent then 0 else correct cv.coef code
    let raw := h.frameValue cv y
    let v := sat24 raw
    let clip := code == -32768 || code == 32767 || v != raw
    let q := cellQ cv clip
    let removes := cv.mode == 2 && !urgent && !((h.cell c).switch.any fun s => s.frame == cv.frame) && (decide (3145728 < y) || decide (y < -3145728))
    let h := if cv.mode = 2 ∧ ¬ urgent then h.chargeAfter cv y v q clip h.adcPeriods else h
    (h.deliver cv v q removes).drainFills

end Hub

def execResultWord (input : Nat) (urgent : Bool) (code : Int) (s : State) : Host.Outcome State Fault Refusal :=
  s.onHub (Hub.convert input urgent code)

end Sys2Proof.Machine
end

