-- ==== Sys2Proof/Machine/Timetable.lean ====
section
/-!
DEFINITION. The Timetable (R45-R58, R481, R482): commits, due instances and the limit of 32, late one-shots, and the actions
bound to MMSG codes. Frame ticks and launches have files of their own.
-/

namespace Sys2Proof.Machine

namespace Hub

/-! ### Live commits -/

/-- The first cause of R46 for which an entry is refused, as a RESULT code of MT.TT_COMMIT_STATUS; 0 where none applies.
`minFrame` is the least frame period the image declares (R397), `launchOk` says that the entry keeps the launch rules of R178
and R179. -/
def entryResult (spt minFrame : Nat) (launchOk : Bool) (groupsOk : Bool) (e : TtEntry) : Nat :=
  let r := e.raw.toNat
  if 12 ≤ e.type then 2
  else if bits r 121 120 != 0 then 9
  else if spt ≤ e.startSlot then 8
  else if (e.type == 1 && decide (e.period < max 20 minFrame)) || (e.type == 2 && e.period == 0)
      || ((e.type == 2 || e.type == 3) && !launchOk) then 3
  else
    let a := e.arg
    let bad := match e.type with
      | 1 => a != 0
      | 2 => decide (16 ≤ a) || !groupsOk
      | 3 => a != 0
      | 4 => a == 0 || decide (2 ^ 20 ≤ a)
      | 5 => decide (2 ^ 16 ≤ a)
      | 6 => decide (2 ^ 16 ≤ a)
      | 7 => a == 0 || decide (128 ≤ a)
      | 8 => a == 0 || decide (128 ≤ a)
      | 10 => a != 0
      | 11 => e.code == 0 || e.code == 0xFF || decide (7 ≤ e.action) || bits a 19 17 != 0
          || (decide (e.action ≤ 2) && decide (1024 ≤ e.target))
      | _ => false
    if bad then 4 else 0

/-- The staged entry of MT.TT_STAGE (R55). -/
def stagedEntry (h : Hub) : BitVec 128 :=
  BitVec.ofNat 128 ((h.reg (MT_TT_STAGE 3)).toNat * 2 ^ 96 + (h.reg (MT_TT_STAGE 2)).toNat * 2 ^ 64
    + (h.reg (MT_TT_STAGE 1)).toNat * 2 ^ 32 + (h.reg (MT_TT_STAGE 0)).toNat)

/-! ### Instances -/

/-- The channels paced by an executed instance of entry `i` fall due (R339). -/
def paceEntry (i : Nat) (h : Hub) : Hub :=
  let ns := (List.range 32).filter fun n =>
    h.flag (DMA_CH_CFG_EN n) && h.fld (DMA_CH_CFG_PACE n) == 1 && h.fld (DMA_CH_CFG_PACE_ARG n) == i
  { h with mem := { h.mem with paceDue := h.mem.paceDue ++ ns } }

/-- An instance of entry `i` is taken: it counts against COUNT, and ENABLE is cleared as R48 states. -/
def takeInstance (i : Nat) (h : Hub) : Hub :=
  let e : TtEntry := { h.entry i with done := (h.entry i).done + 1, ran := true }
  h.setEntry i (if e.spent then e.withEnable false else e)

/-- An instance of entry `i` that fell due is carried over: ENABLE stands until it executes (R48, R51). Instances fall due in the
order in which those carried over execute. -/
def carryInstance (i : Nat) (slot : Int) (h : Hub) : Hub :=
  let h := h.setEntry i { h.entry i with done := (h.entry i).done + 1, ran := true }
  { h with tt := { h.tt with carried := h.tt.carried ++ [(i, slot)] } }

/-- A carried instance of entry `i` has executed: the last one clears ENABLE (R48). -/
def endCarried (i : Nat) (h : Hub) : Hub :=
  if (h.entry i).spent ∧ h.tt.carried.all (fun p => p.1 != i) then h.setEntry i ((h.entry i).withEnable false) else h

/-- The Timetable acts: not on the way to the Quiescent state (R454), nor in a thermal shutdown (R458). -/
def ttActs (h : Hub) : Bool := !h.pwr.draining && !h.pwr.shutdown

/-- Instances other than ticks and launches executed in the current slot (R51). -/
def slotLoad (h : Hub) : Nat := if h.tt.slotOf = h.now then h.tt.slotCount else 0

/-- The slot in which the first instance carried over executes: the one after that in which it fell due, unless 32 have executed in
it already (R51). -/
def carrySlot (h : Hub) (fell : Int) : Int := if h.slotLoad < 32 then fell + 1 else h.now + 1

/-- Entry `i` has an instance to come on its own schedule. -/
def pendingEntry (h : Hub) (i : Nat) (e : TtEntry) : Bool :=
  e.type != 0 && decide (e.type < 11) && e.enable && !e.spent && h.tt.lateNow.all fun p => p.1 != i

/-- What the Timetable has still to do, each with its slot, its step within the slot (0 an action, 1 an instance carried over, 2 an
instance newly due), and its entry (R50, R51, R53). -/
def agenda (h : Hub) : List (Int × Nat × Nat) :=
  h.tt.actions.map (fun a => (a.due, 0, a.entry)) ++ h.tt.carried.map (fun p => (h.carrySlot p.2, 1, 0)) ++
    h.tt.lateNow.map (fun p => (p.2.2, 2, p.1)) ++
    (h.tt.entries.filter fun p => h.pendingEntry p.1 p.2).map fun p => (p.2.next, 2, p.1)

/-- One thing to do comes no later than another: by slot, then step, then entry (R50). -/
def noLater (a b : Int × Nat × Nat) : Bool :=
  decide (a.1 < b.1) || (a.1 == b.1 && (decide (a.2.1 < b.2.1) || (a.2.1 == b.2.1 && decide (a.2.2 ≤ b.2.2))))

/-- Nothing of the Timetable comes before this: a command that is not first in its order happens later, and changes nothing now
(R49-R51, R57). -/
def comesFirst (h : Hub) (slot : Int) (stage i : Nat) : Bool := h.agenda.all (noLater (slot, stage, i))

/-- The next instance of entry `i`, of type `ty`, falls due: the count runs on to its slot. Answers whether an instance is due
there, and the slot it fell due in. -/
def fallDue (ty i : Nat) (h : Hub) : Bool × Int × Hub :=
  let e : TtEntry := h.entry i
  if h.mt.anchored && h.ttActs && e.type == ty && e.enable && !e.spent && h.tt.lateNow.all (fun p => p.1 != i)
      && h.comesFirst e.next 2 i then
    let h := h.advanceTo e.next
    let e' : TtEntry := h.entry i
    (e'.type == ty && e'.enable && !e'.spent && decide (e'.next ≤ h.now) && h.tt.lateNow.all (fun p => p.1 != i), e'.next, h)
  else (false, 0, h)

/-- One more instance other than ticks and launches has executed in the current slot. -/
def countInstance (h : Hub) : Hub :=
  let n := h.slotLoad
  { h with tt := { h.tt with slotOf := h.now, slotCount := n + 1 } }

/-- The groups that a window of `len` slots serves, 50 µs each, in rotation from group `g` on (R370). -/
def windowGroups (h : Hub) (g len : Nat) : List Nat :=
  (((List.range 32).map fun i => (g + i) % 32).filter fun i => h.afePowered i).take (200 * len / h.bclk)

/-- A quiet window opens, or merges with the one in force (R45, R50); it serves as many groups as fit (R370). -/
def openQuiet (len : Nat) (h : Hub) : Hub :=
  let now := h.now
  let c := h.cal
  let merges := decide (now < c.quietTo)
  let from' := if merges then c.quietFrom else now
  let to' := if now + len < c.quietTo then c.quietTo else now + len
  let g := if merges then c.servedFrom else match c.served.getLast? with | some k => (k + 1) % 32 | none => c.servedFrom
  { h with cal := { c with quietFrom := from', quietTo := to', servedFrom := g, served := h.windowGroups g (to' - from').toNat } }

/-- What an executed instance of entry `i` does, for the types other than ticks and launches. `cause` is 0 on its own schedule
and 1 when an MMSG code fires it (R237). -/
def act (i cause : Nat) (late : Bool) (h : Hub) : Hub :=
  let e : TtEntry := h.entry i
  let h := match e.type with
    | 4 => h.openQuiet (bits e.arg 19 0)
    | 5 => h.armMask cause (bits e.arg 15 0)
    | 6 => h.disarmMask cause (bits e.arg 15 0)
    | 7 => h.startStream (bits e.arg 6 0) h.now
    | 8 => h.stopStream (bits e.arg 6 0)
    | 9 => h.userMark e.arg late
    | 10 => { h with twn := { h.twn with ckptDue := true } }
    | _ => h
  h.paceEntry i

/-- The first instance carried over executes in a slot after the one it fell due in, marked LATE (R51). -/
def runCarried (h : Hub) : Hub :=
  match h.tt.carried with
  | [] => h
  | (i, slot) :: rest =>
    if !h.ttActs || !h.comesFirst (h.carrySlot slot) 1 0 then h else
    let h := if h.now ≤ slot ∨ 32 ≤ h.slotLoad then h.advanceTo (h.now + 1) else h
    let h : Hub := { h with tt := { h.tt with carried := rest } }
    ((h.raise 204 0 [i, (h.now - slot).toNat]).countInstance.act i 0 true).endCarried i

/-- The next instance of an entry of type `ty` falls due: it executes, or is carried over where 32 have executed in its slot
(R50, R51). -/
def runInstance (ty i : Nat) (h : Hub) : Hub :=
  let (due, slot, h) := h.fallDue ty i
  if !due then h else
  if 32 ≤ h.slotLoad then h.carryInstance i slot else (h.takeInstance i).countInstance.act i 0 false

/-- A late one-shot with LATE = NOW executes in slot W + 1, marked LATE (R53). Answers whether entry `i` was one, with its due
slot. -/
def takeLateNow (i : Nat) (h : Hub) : Bool × Hub :=
  match h.tt.lateNow.find? (fun p => p.1 == i) with
  | none => (false, h)
  | some (_, due, run) =>
    if !h.ttActs || !h.comesFirst run 2 i then (false, h) else
    let h := h.advanceTo run
    if h.tt.lateNow.any (fun p => p.1 == i) then
      let h : Hub := { h with tt := { h.tt with lateNow := h.tt.lateNow.filter fun p => p.1 != i } }
      (true, h.raise 201 0 (i :: wide (h.mtAt due).pack))
    else (false, h)

/-! ### ON_EVENT actions -/

/-- The first action of ON_EVENT entry `i` that waits, by its slot, where its ACTION is `k`. -/
def nextAction (h : Hub) (k i : Nat) : Option EvAction :=
  let own := h.tt.actions.filter fun a => a.entry == i && (h.entry a.entry).action == k
  own.find? fun a => own.all fun b => decide (a.due ≤ b.due)

/-- Take the first action of ON_EVENT entry `i` whose ACTION is `k`, at its effective slot E (R50, R58, R482). -/
def takeAction (k i : Nat) (h : Hub) : Option EvAction × Hub :=
  let want (h : Hub) := h.nextAction k i
  match want h with
  | none => (none, h)
  | some a =>
    if !h.ttActs || !h.comesFirst a.due 0 i then (none, h) else
    let h := h.advanceTo a.due
    match want h with
    | none => (none, h)
    | some a =>
      if h.now < a.due then (none, h)
      else (some a, { h with tt := { h.tt with actions := h.tt.actions.erase a } })

/-- The report of an action: 0 OK, 1 NO_TARGET, 2 LATE (R58). -/
def reportAction (a : EvAction) (target : Bool) (h : Hub) : Hub :=
  h.raise 205 0 [a.entry, a.code, if !target then 1 else if a.late then 2 else 0]

/-- Run an action: `f` is its effect with the binding and its target; a target that `ok` refuses gives NO_TARGET. -/
def onEvent (k i : Nat) (ok : Hub → Nat → Bool) (f : EvAction → Nat → Hub → Hub) (h : Hub) : Hub :=
  match h.takeAction k i with
  | (none, h) => h
  | (some a, h) =>
    let t := (h.entry i).target
    if ok h t then (f a t h).reportAction a true else h.reportAction a false

/-- A target entry that is not EMPTY (R58). -/
def hasEntry (h : Hub) (t : Nat) : Bool := (h.entry (t % 1024)).type != 0

/-- A target of a type FIRE allows (R57). -/
def canFire (h : Hub) (t : Nat) : Bool :=
  let ty := (h.entry (t % 1024)).type
  decide (4 ≤ ty) && decide (ty ≤ 10)

/-- ENABLE of an entry whose ENABLE is 0, with W = E, or for a late action the slot in which it runs (log entry 117): a one-shot that has executed becomes a new one, and a FRAME_SERIES starts
anew, so that its next instance supersedes the series that runs (R49, R57). -/
def enableEntry (t : Nat) (h : Hub) : Hub :=
  let e : TtEntry := h.entry t
  if e.enable then h else
  let e' : TtEntry := { h.placedEntry e.raw with done := if e.period = 0 then 0 else e.done }
  if e'.spent then h else
  let h : Hub := { h with fi := { h.fi with known := h.fi.known.filter (fun x => x ≠ t) } }
  (h.setEntry t (e'.withEnable true)).judgeLate t h.now

/-- DISABLE of an entry: its ENABLE is 0, and no instance of it that has not executed runs (R57). -/
def disableEntry (t : Nat) (h : Hub) : Hub :=
  let h := h.setEntry t ((h.entry t).withEnable false)
  { h with tt := { h.tt with
    carried := h.tt.carried.filter (fun p => p.1 != t)
    lateNow := h.tt.lateNow.filter (fun p => p.1 != t) } }

end Hub

/-! ### The commands -/

def execQuietWindow (entry : Nat) (s : State) : Host.Outcome State Fault Refusal := s.onHub (Hub.runInstance 4 entry)
def execTriggerArm (entry : Nat) (s : State) : Host.Outcome State Fault Refusal := s.onHub (Hub.runInstance 5 entry)
def execTriggerDisarm (entry : Nat) (s : State) : Host.Outcome State Fault Refusal := s.onHub (Hub.runInstance 6 entry)
def execStreamStart (entry : Nat) (s : State) : Host.Outcome State Fault Refusal := s.onHub (Hub.runInstance 7 entry)
def execStreamStop (entry : Nat) (s : State) : Host.Outcome State Fault Refusal := s.onHub (Hub.runInstance 8 entry)
def execUserMark (entry : Nat) (s : State) : Host.Outcome State Fault Refusal := s.onHub (Hub.runInstance 9 entry)
def execCheckpoint (entry : Nat) (s : State) : Host.Outcome State Fault Refusal := s.onHub (Hub.runInstance 10 entry)
def execTtOverflow (s : State) : Host.Outcome State Fault Refusal := s.onHub Hub.runCarried

/-- The next slot boundary comes with a commit pending (R50, R55). -/
def execTtCommitApply (s : State) : Host.Outcome State Fault Refusal :=
  s.onHub fun h => if h.tt.commit.isSome then h.advanceTo (h.now + 1) else h

def execOnEventFire (entry : Nat) (s : State) : Host.Outcome State Fault Refusal :=
  s.onHub (Hub.onEvent 0 entry Hub.canFire fun a t h => h.act (t % 1024) 1 a.late)
def execOnEventEnable (entry : Nat) (s : State) : Host.Outcome State Fault Refusal :=
  s.onHub (Hub.onEvent 1 entry Hub.hasEntry fun _ t h => h.enableEntry (t % 1024))
def execOnEventDisable (entry : Nat) (s : State) : Host.Outcome State Fault Refusal :=
  s.onHub (Hub.onEvent 2 entry Hub.hasEntry fun _ t h => h.disableEntry (t % 1024))
def execOnEventArm (entry : Nat) (s : State) : Host.Outcome State Fault Refusal :=
  s.onHub (Hub.onEvent 3 entry (fun _ _ => true) fun _ t h => h.armMask 1 t)
def execOnEventDisarm (entry : Nat) (s : State) : Host.Outcome State Fault Refusal :=
  s.onHub (Hub.onEvent 4 entry (fun _ _ => true) fun _ t h => h.disarmMask 1 t)
def execOnEventClearTrips (entry : Nat) (s : State) : Host.Outcome State Fault Refusal :=
  s.onHub (Hub.onEvent 5 entry (fun _ _ => true) fun a t h => h.clearTrips a.code t)
def execOnEventMark (entry : Nat) (s : State) : Host.Outcome State Fault Refusal :=
  s.onHub (Hub.onEvent 6 entry (fun _ _ => true) fun a _ h => h.mmsgMark a.code a.arg a.eff a.late)

end Sys2Proof.Machine
end

