-- ==== Sys2Proof/Machine/Fibre.lean ====
section
/-!
DEFINITION. The fibre interrogator (R167-R202): the laser, launches and the Trace Pipeline, Raman DTS.
-/

namespace Sys2Proof.Machine

namespace Hub

/-! ### Geometry (R174-R176, R194) -/

def ngates (h : Hub) : Nat := 64 * h.fld FI_GEOM_DAS_NG64
def nbins (h : Hub) : Nat := 64 * h.fld FI_GEOM_DTS_NB64
def bin2 (h : Hub) : Bool := h.flag FI_CTRL_BIN2
/-- t_gate in ns. -/
def tGate (h : Hub) : Nat := if h.bin2 then 16 else 8

/-- FI.GATE_PITCH and FI.STRAIN_LSB from the fibre's constants and the gauge (R175, R194). -/
def showGeometry (h : Hub) : Hub :=
  let pitch := roundConv (299792458 * h.tGate * 65536 : Nat) (2000 * max 1 (h.fld FI_FIBRE_N_N_G))
  let eps := roundConv (h.fld FI_FIBRE_LAMBDA_PM * 10 ^ 15 : Nat)
    (max 1 (h.fld FI_FIBRE_XI_XI * h.fld FI_GAUGE_G * 299792458 * h.tGate))
  (h.put FI_GATE_PITCH_UM pitch.toNat).setReg FI_STRAIN_LSB (BitVec.ofNat 32 (min eps.toNat 0xFFFFFFFF))

/-! ### The laser (R170, R171) -/

/-- FIA is powered. -/
def fiaOn (h : Hub) : Bool := h.flag PWR_DOM_STAT_FIA

/-- FI.STAT.LAS_REASON: the first failing condition of R170. -/
def lasReason (h : Hub) : Nat :=
  if h.bootStep != 6 || h.pwr.draining || !h.fiaOn then 1
  else if !h.holdsActive then 2
  else if !h.flag FI_LASER_LASER_EN then 3
  else if !h.flag FI_STAT_MOD_PRESENT then 4
  else if h.flag FI_STAT_MOD_ALARM then 5
  else if h.pwr.shutdown then 6
  else 0

/-- LASER_DIS_N follows its conditions; each change of its drive is reported (R170). -/
def refreshLaser (h : Hub) : Hub :=
  let r := h.lasReason
  let drive := if r = 0 then 2 else if h.heldLow then min 1 h.fi.drive else if r ≤ 2 then 0 else 1
  let h := (h.put FI_STAT_LASER_ON (ofBool (r == 0))).put FI_STAT_LAS_REASON r
  if drive = h.fi.drive then h
  else { h with fi := { h.fi with drive := drive } }.raise 67 0 [ofBool (drive != 2), r]

/-- The drive of LASER_DIS_N, released in a shutdown (R454, R458). -/
def laserDrive (h : Hub) : Nat := if h.released then 0 else h.fi.drive

/-- What a ball is driven with. -/
inductive Level where
  | highZ | low | high
  deriving DecidableEq, Repr

/-- TSEL carries the codes of FI.TONE_MAP, which are locked from arm; it is high impedance whenever LASER_DIS_N is (R171). -/
def tsel (h : Hub) : Option Nat := if h.laserDrive = 0 then none else some (bits (h.reg FI_TONE_MAP).toNat 7 0)

/-- Whether a strobe is high at a place of slot `t`, in 1/1,024 slot: the fibre clock has a period of 0.8 ns (R169). -/
def strobeHigh (h : Hub) (t : Int) (fine : Nat) (x : Strobe) : Bool :=
  let past := (t - x.slot) * 1024 + (fine : Int) - (x.fine : Int)
  decide (0 ≤ past) && decide (past * 100000000 < ((8 * x.width * 1024 * h.bclk : Nat) : Int))

/-- LAUNCH[n], or DTS_STRB as line 4, at a place of slot `t`: low while LASER_DIS_N is low, high impedance while it is undriven
(R169, R171). -/
def strobePin (h : Hub) (line : Nat) (t : Int) (fine : Nat) : Level :=
  match h.laserDrive with
  | 0 => .highZ
  | 1 => .low
  | _ => if h.fi.strobes.any fun x => x.line == line && h.strobeHigh t fine x then .high else .low

/-- The lines of a launch, or DTS_STRB, are driven high from a place of the current slot on (R169). -/
def strobe (lines : List Nat) (fine width : Nat) (h : Hub) : Hub :=
  { h with fi := { h.fi with
    strobes := h.fi.strobes.filter (fun x => !lines.contains x.line)
      ++ lines.map fun l => { line := l, slot := h.now, fine := fine, width := width } } }

/-- The terminations of FIN and RIN are connected (R173). -/
def terminated (h : Hub) : Bool := h.fiaOn && h.holdsActive

/-- A module pin change is taken (R172). -/
def modStatus (present ready alarm : Bool) (h : Hub) : Hub :=
  let old := h.fld FI_STAT_MOD_PRESENT * 4 + h.fld FI_STAT_MOD_READY * 2 + h.fld FI_STAT_MOD_ALARM
  let new := ofBool present * 4 + ofBool ready * 2 + ofBool alarm
  let h := ((h.put FI_STAT_MOD_PRESENT (ofBool present)).put FI_STAT_MOD_READY (ofBool ready)).put FI_STAT_MOD_ALARM (ofBool alarm)
  if old = new then h else (h.raise 66 0 [old, new]).refreshLaser

/-! ### Records of one per turn -/

/-- Count `n` more, and raise the record with the count since the last one unless one was raised in this turn (R201). -/
def perTurn (p : PerTurn) (n : Nat) (src cause : Nat) (detail : Nat → List Nat) (h : Hub) : PerTurn × Hub :=
  if n = 0 then (p, h)
  else if p.turn = some h.mt.turn then ({ p with count := p.count + n }, h)
  else ({ turn := some h.mt.turn, count := 0 }, h.raise src cause (detail (p.count + n)))

/-! ### Groups and seeds (R178, R190) -/

/-- The launch series of the Timetable in ascending start order. -/
def launchSeries (h : Hub) : List Nat :=
  let es := h.tt.entries.filter fun p => p.2.type == 2
  (es.mergeSort fun a b => decide (a.2.base < b.2.base) || (a.2.base == b.2.base && decide (a.1 ≤ b.1))).map Prod.fst

/-- The launch group of a series (R178). -/
def groupOf (h : Hub) (e : Nat) : Nat :=
  match h.fld FI_CTRL_MODE with
  | 0 => (h.launchSeries.findIdx fun i => i == e) % 4
  | 2 => if bits (h.entry e).arg 3 0 = 0xC then 1 else 0
  | _ => 0

/-- The number of groups of the mode. -/
def ngroups (h : Hub) : Nat :=
  match h.fld FI_CTRL_MODE with
  | 0 => h.launchSeries.length
  | 2 => 2
  | _ => 1

def gate (h : Hub) (g : Nat) : Gate := SMap.get (fun _ => {}) h.fi.gates g

/-- The records of the gates in use, in order. -/
def gateList (h : Hub) : List Gate := SMap.column (fun _ => {}) (List.range h.ngates) h.fi.gates

/-- Set bits of RESEED in every gate (R190). -/
def reseedAll (mask : Nat) (h : Hub) : Hub :=
  let gs := h.gateList.map fun g => { g with reseed := g.reseed ||| mask }
  { h with fi := { h.fi with gates := SMap.ofColumn (fun _ => {}) gs } }

/-- The fibre ADCs that have not been declared failed are in service while FIA is powered (R185, R196). -/
def serveFibre (on : Bool) (h : Hub) : Hub :=
  let ok (n k : Nat) : Nat := (List.range n).foldl (fun m i => putBit m i (on && !bit h.fi.failed (k + i))) 0
  (h.put FI_STAT_FADC_OK (ok 4 0)).put FI_STAT_RADC_OK (ok 2 4)

/-- A takeover within the current epoch restores the gate records, and every group is re-seeded (R193). -/
def restoreFibre (h : Hub) : Hub := if h.fiaOn then ((h.reseedAll 15).put FI_STAT_STATE 1).raise 78 0 [1, 2] else h

/-- The pipeline cold-starts: every gate record is cleared and the open DTS cycle discarded (R193). `cause` is 0 arm, 1 FIA
power-up, 2 takeover. -/
def coldStart (cause : Nat) (h : Hub) : Hub :=
  let h : Hub := { h with fi := { h.fi with
    gates := []
    bins := SMap.update (fun _ => {}) (fun _ b => { b with s := 0, a := 0, sBg := 0, aBg := 0, clipped := false }) h.fi.bins } }
  ((h.put FI_DTS_STAT_LAUNCHES 0).put FI_STAT_STATE 1).raise 78 0 [0, cause]

/-! ### Live changes (R200) -/

/-- What waits for a switch point or for a launch of group `r` at slot `t` takes effect. -/
def meetSwitch (r : Nat) (t : Int) (h : Hub) : Hub :=
  let h := match h.fi.trackDue with
    | some (u, v) => if u ≤ t then { h.setReg FI_TRACK v with fi := { h.fi with trackDue := none } } else h
    | none => h
  let h := match h.fi.gaugeDue with
    | some (u, v) =>
      if u ≤ t then ({ h.put FI_GAUGE_G v with fi := { h.fi with gaugeDue := none } }.reseedAll 15).showGeometry else h
    | none => h
  if r != 0 then h else
  let quiet := decide (h.cal.quietFrom ≤ t) && decide (t < h.cal.quietTo)
  let due := h.fi.calDue.filter fun p => decide (p.1 ≤ 1) || quiet
  let h : Hub := { h with fi := { h.fi with calDue := h.fi.calDue.filter fun p => !(decide (p.1 ≤ 1) || quiet) } }
  due.foldl (fun (h : Hub) (p : Nat × Nat × Nat) =>
    let (kind, i, v) := p
    match kind with
    | 0 =>
      let h := (h.put (FI_FADC_SKEW_TAP i) v).raise 79 0 [0, h.fld (FI_FADC_SKEW_TAP i), v]
      (h.raiseApplied itemSkew i 0 0).keepValue itemSkew i 0 [BitVec.ofNat 32 v] false false
    | 1 =>
      let old := (h.reg (FI_IQ_CORR_W0 i)).toNat * 2 ^ 32 + (h.reg (FI_IQ_CORR_W1 i)).toNat
      let ws := [BitVec.ofNat 32 (v / 2 ^ 32), BitVec.ofNat 32 v]
      let h := (h.setReg (FI_IQ_CORR_W0 i) (ws.getD 0 0)).setReg (FI_IQ_CORR_W1 i) (ws.getD 1 0)
      let h := h.raise 79 0 (1 :: (wide old ++ wide v))
      (h.raiseApplied itemIq i 0 0).keepValue itemIq i 0 ws false false
    | 2 => (((h.put FI_RANGE_ZERO_DAS_TAP v).reseedAll 15).put CAL_FIBRE_STAT_RZ_PENDING 0).raise 79 0
        [0, h.fld FI_RANGE_ZERO_DAS_TAP, v]
    | _ =>
      let h := (h.put FI_RANGE_ZERO_DTS_TAP v).raise 79 0 [0, h.fld FI_RANGE_ZERO_DTS_TAP, v]
      (h.raiseApplied itemRange 0 0 2).keepValue itemRange 0 0 [h.reg FI_RANGE_ZERO] false false) h

/-! ### Stages 1 to 5 -/

/-- Stage 1: I/Q correction of one sample pair (R183). -/
def iqCorrect (h : Hub) (p : Nat) (i q : Int) : Int × Int :=
  let i1 := 16 * (i - h.sfld (FI_IQ_CORR_OI p))
  (i1, roundConv (16 * (q - h.sfld (FI_IQ_CORR_OQ p)) * h.fld (FI_IQ_CORR_GQ p) + i1 * h.sfld (FI_IQ_CORR_KX p)) 32768)

end Hub

/-- A clipped FADC code (R183). -/
def clipCode (x : Int) : Bool := decide (x ≤ -2048) || decide (2047 ≤ x)

/-- The code of an FADC. -/
def fadcCode (x : FadcSample) (k : Nat) : Int :=
  match k with
  | 0 => x.xi
  | 1 => x.xq
  | 2 => x.yi
  | _ => x.yq

/-- The samples in the span of a DDC output centred at period `c` after the launch edge, where the first sample is 60 periods
before it: 120 taps (R182). -/
def ddcSpan (xs : Array FadcSample) (c : Nat) : List FadcSample := (xs.extract c (c + 120)).toList

/-- The codes of a polarisation. -/
def polCodes (p : Nat) (x : FadcSample) : Int × Int := (fadcCode x (2 * p), fadcCode x (2 * p + 1))

/-- The phase step of a tone per FADC sample in twentieths of a turn (R177). -/
def toneSteps (tone : Nat) : Nat := [2, 3, 4, 5].getD tone 0

/-- The twentieths of the unit circle. -/
def twentieths : List (Int × Int) := (List.range 20).map fun k => circleAt k 20

/-- Stage 2: the mix of 120 corrected samples by −IF of a tone, and the filter (R182, R184). `m` is the number of periods the
oscillator has run at the first sample. -/
def ddc (tone m : Nat) (xs : List (Int × Int)) : Int × Int :=
  let one (k : Nat) (x : Int × Int) : Int × Int :=
    let e := twentieths.getD ((m + k) * toneSteps tone % 20) (0, 0)
    let c := Config.ddcTap (min k (119 - k))
    (c * (x.1 * e.1 + x.2 * e.2), c * (x.2 * e.1 - x.1 * e.2))
  let ys := ((List.range 120).zip xs).map fun p => one p.1 p.2
  let unit := 2 ^ 30 * fixUnit.toNat
  (roundConv (ys.map Prod.fst).sum unit, roundConv (ys.map Prod.snd).sum unit)

/-- A CORDIC amplitude: a 16-bit code at most 1 from the root of `n` (R186). -/
def amplitude (n free : Nat) : Nat :=
  let r := isqrt n
  min 65535 (if r * r = n then r + free % 3 - 1 else r + free % 2)

/-- What a line delivers at a gate: z of both polarisations, A, and whether a clipped sample lies in its span. -/
structure LineGate where
  z : List (Int × Int) := []
  amp : Nat := 0
  clip : Bool := false
  deriving DecidableEq, Repr

namespace Hub

/-- The polarisations that are live (R185). -/
def livePols (h : Hub) : List Nat :=
  match h.fld FI_STAT_POL with
  | 0 => [0, 1] | 1 => [0] | 2 => [1] | _ => []

/-- The tone of a launch line (R177). -/
def toneOf (h : Hub) (n : Nat) : Nat := bits (h.reg FI_TONE_MAP).toNat (2 * n + 1) (2 * n)

/-- A sample with a clipped code from an FADC in service (R183). -/
def clipped (h : Hub) (x : FadcSample) : Bool := (List.range 4).any fun k => bit (h.fld FI_STAT_FADC_OK) k && clipCode (fadcCode x k)

/-- What the FADCs sample: at each period each takes the instant that its skew tap selects, 12.5 ps per step (R183). -/
def sampled (h : Hub) (tr : Trace) : List FadcSample :=
  let xs := tr.samples.toArray
  let tap (k : Nat) : Nat := h.fld (FI_FADC_SKEW_TAP k)
  (List.range (tr.samples.length / 64)).map fun m =>
    let code (k : Nat) : Int := fadcCode (xs.getD (64 * m + tap k) ⟨0, 0, 0, 0⟩) k
    { xi := code 0, xq := code 1, yi := code 2, yq := code 3 }

/-- The DDC outputs that form gate `g`, by their periods after the launch edge (R174, R176). -/
def centres (h : Hub) (g : Nat) : List Nat :=
  let tap := h.fld FI_RANGE_ZERO_DAS_TAP
  if h.bin2 then [tap + 20 * g, tap + 20 * g + 10] else [tap + 10 * g]

/-- The samples of a launch: those in the span of a gate (R182). -/
def traceOf (h : Hub) (xs : List FadcSample) : List FadcSample :=
  let tap := h.fld FI_RANGE_ZERO_DAS_TAP
  (xs.drop tap).take (110 + 10 * (if h.bin2 then 2 else 1) * h.ngates)

/-- Stages 1 to 4 of line `n` at gate `g` of a launch at slot `t`; a filter output that saturates is CLIPPED (R184). -/
def lineGate (h : Hub) (t : Int) (xs : Array FadcSample) (n g : Nat) : LineGate :=
  let cs := h.centres g
  let sums (p c : Nat) : Int × Int :=
    ddc (h.toneOf n) (Config.mixStart t + c) ((ddcSpan xs c).map fun x => h.iqCorrect p (polCodes p x).1 (polCodes p x).2)
  let raw := h.livePols.map fun p => cs.map (sums p)
  let sat (v : Int) : Int := clamp (-32768) 32767 v
  let zs := raw.map fun (vs : List (Int × Int)) => ((vs.map fun v => sat v.1).sum, (vs.map fun v => sat v.2).sum)
  let sated := raw.any fun vs => vs.any fun v => sat v.1 != v.1 || sat v.2 != v.2
  let n2 := (zs.map fun (a : Int × Int) => (a.1 * a.1 + a.2 * a.2).toNat).sum
  let clip := cs.any fun c => (ddcSpan xs c).any h.clipped
  { z := zs, amp := amplitude n2 (Config.ampError n2), clip := clip || sated }

end Hub

/-- Stage 5: ψ and m of the gauge product of two gates (R186); ψ lies within 2 units of arg P. -/
def gaugeProduct (a b : LineGate) : Nat × Nat :=
  let ps := a.z.zip b.z
  let re := (ps.map fun (x, y) => x.1 * y.1 + x.2 * y.2).sum
  let im := (ps.map fun (x, y) => x.2 * y.1 - x.1 * y.2).sum
  let n := (re * re + im * im).toNat
  let free := Config.argCode re im
  if n = 0 then (free % 65536, Config.logZero % 64)
  else (unsigned 16 (argNear 16 2 free re im), min 63 (Nat.log2 n / 2))

/-! ### Stages 6 to 8 (R188) -/

/-- cordic_phase of the sum of 2^w·cis(inc) over the live lines, from (w, inc) of each, in units of 2π/65,536: equal increments are
their own phase. A sum this near 0 is 0. -/
def cordicPhase (incs : List (Int × Int)) : Int :=
  let first := (incs.headD (0, 0)).2
  if incs.all fun x => x.2 == first then first else
  let low := incs.foldl (fun (m : Int) x => min m x.1) ((incs.headD (0, 0)).1)
  let vs := incs.map fun x =>
    let w : Int := 2 ^ (x.1 - low).toNat
    let z := onCircle 16 (unsigned 16 x.2)
    (w * z.1, w * z.2, w)
  let re := (vs.map fun v => v.1).sum
  let im := (vs.map fun v => v.2.1).sum
  let free := Config.cordicError incs
  if ((re.natAbs + im.natAbs : Nat) : Int) < 1024 * (vs.map fun v => v.2.2).sum then signed 16 (free % 65536)
  else signed 16 (unsigned 16 (argNear 16 1 free re im))

/-- What stages 6 to 8 make of a gate: its record, δ with its code, a slip, a reseed. -/
structure GateOut where
  gate : Gate := {}
  out : Sample := {}
  slip : Bool := false
  reseeded : Bool := false
  deriving DecidableEq, Repr

/-- A gate of a fired launch of group `r` with the lines given as (line, ψ, m, weak, clipped). -/
def stitchGate (r ngroups k : Nat) (lines : List (Nat × Nat × Nat × Bool × Bool)) (s : Gate) : GateOut :=
  let old (n : Nat) : GateLine := s.lines.getD n {}
  let live := lines.filter fun l => (old l.1).havePrev && !l.2.2.2.1
  let had := lines.any fun l => (old l.1).havePrev
  let mmax := lines.foldl (fun m l => max m l.2.2.1) 0
  let incs := live.map fun l =>
    (((l.2.2.1 + (old l.1).m : Nat) : Int) - 2 * (mmax : Int), signed 16 (l.2.1 + 65536 - (old l.1).psi))
  let recs := lines.foldl (fun (ls : List GateLine) l =>
    ls.set l.1 { psi := l.2.1, m := l.2.2.1, havePrev := true, weak := l.2.2.2.1 }) s.lines
  let clip := live.any fun l => l.2.2.2.2
  let m32 (x : Int) : Nat := unsigned 32 x
  let y1 : Int := s.y1
  let finish (y : Nat) (phi off reseed q : Nat) (slip re : Bool) : GateOut :=
    let d := signed 32 (m32 ((y : Int) - y1))
    let (v, sat) := satTo 16 d
    { gate := { lines := recs, phi := s.phi.set r phi, off := s.off.set r off, y1 := y, y2 := s.y1, reseed := reseed }
      out := { v := v, q := if clip || sat then qJoin q 2 else q }, slip := slip, reseeded := re }
  let phi0 := s.phi.getD r 0
  let off0 := s.off.getD r 0
  if live.isEmpty then finish s.y1 phi0 off0 (s.reseed ||| 2 ^ r) (if had then 5 else 7) false false
  else
    let phi := m32 (phi0 + cordicPhase incs)
    let yhat : Int := 2 * y1 - s.y2
    let e := signed 32 (m32 ((phi : Int) - off0 - yhat))
    let clr := if bit s.reseed r then s.reseed - 2 ^ r else s.reseed
    let (off, q, slip, re) :=
      if bit s.reseed r then (m32 (phi - yhat), 1, false, true)
      else if 1 < ngroups && (decide (16384 < e) || decide (e < -16384)) then (m32 (phi - yhat), 1, true, true)
      else (if 1 < ngroups then m32 (off0 + roundConv e (2 ^ k)) else off0, 0, false, false)
    finish (m32 ((phi : Int) - off)) phi off clr q slip re

namespace Hub

/-! ### Launches -/

/-- A launch's samples go to the DAS recipes and their raw taps (R192). -/
def deliverDas (mt : MT) (t : Int) (xs : List Sample) (h : Hub) : Hub :=
  let hold := h.flag MT_STATE_HOLDOVER
  let re := h.mt.span != .closed || h.mt.turnFlag == some h.mt.turn
  h.loaded.foldl (fun (h : Hub) r =>
    let x := h.recipe r
    if x.recipe.source != 1 then h else
    let ys := (xs.drop x.recipe.first).take (x.recipe.last + 1 - x.recipe.first)
    let h := x.recipe.taps.foldl (fun (h : Hub) (p : Nat × Bool × Nat) =>
      if p.1 = 0 then
        h.produceSet p.2.2 { fmt := if p.2.1 then fmtS16 else fmtS32, mt := mt, slot := t, setw := ys.length, cad := h.mt.breaks
                             hold := hold, re := re, conts := ys.map (tapCont true p.2.1) }
      else h) h
    h.runRecipe r { mt := mt, slot := t, hold := hold, re := re, cad := h.mt.breaks, xs := ys }) h

/-- Why a launch is suppressed (R180): 0 MOD_READY, 1 MOD_PRESENT, 2 LASER. -/
def suppressCause (h : Hub) : Option Nat :=
  if !h.flag FI_STAT_MOD_READY then some 0
  else if !h.flag FI_STAT_MOD_PRESENT then some 1
  else if h.fi.drive != 2 then some 2
  else none

def suppressLaunch (mask cause : Nat) (h : Hub) : Hub :=
  let (p, h) := (h.bump FI_CNT_SUPPRESSED 1).perTurn h.fi.suppressed 1 65 0 fun n => [mask, cause, n]
  { h with fi := { h.fi with suppressed := p } }

/-- A launch of group `r` with line mask `mask` at the current slot: suppressed, or fired and processed by the Trace Pipeline
(R180-R192). -/
def launch (r mask : Nat) (tr : Trace) (h : Hub) : Hub :=
  let t := h.now
  let h := h.bumpMod (FI_LAUNCH_SEQ_SEQ r) 1
  let n := h.ngates
  match h.suppressCause with
  | some cause =>
    let h := ((h.suppressLaunch mask cause).tally 137 1).reseedAll (2 ^ r)
    if h.flag FI_CTRL_DAS_EN then h.deliverDas (h.mtAt t) t (List.replicate n Sample.fill) else h
  | none =>
    let lines := (List.range 4).filter (bit mask)
    let h : Hub := if r = 0 then { h with fi := { h.fi with group0 := h.fi.group0 + 1 } } else h
    let h := ((h.tally 136 1).strobe lines (tr.fine % 1024) (h.fld FI_PULSE_LAUNCH_W)).meetSwitch r t
    if !h.flag FI_CTRL_DAS_EN then h else
    let mt : MT := { h.mtAt t with fine := tr.fine % 1024 }
    let gauge := h.fld FI_GAUGE_G
    let weakTh := h.fld FI_TRACK_WEAK_TH
    let ng := h.ngroups
    let k := h.fld FI_TRACK_STITCH_K
    let dead := h.livePols.isEmpty
    let taken := h.sampled tr
    let xs := taken.toArray
    let grid := lines.map fun l => (l, ((List.range n).map fun g => h.lineGate t xs l g).toArray)
    let outs := ((List.range n).zip h.gateList).map fun (g, old) =>
      if dead || g < gauge then ({ gate := old, out := .fill } : GateOut) else
      let ls := grid.map fun (l, gs) =>
        let a := gs.getD g {}
        let b := gs.getD (g - gauge) {}
        let (psi, m) := gaugeProduct a b
        (l, psi, m, decide (a.amp < weakTh) || decide (b.amp < weakTh), a.clip || b.clip)
      stitchGate r ng k ls old
    let amps := (List.range 4).flatMap fun l =>
      match grid.find? fun p => p.1 == l with
      | some (_, gs) => (SMap.ofColumn (fun _ => 0) (gs.toList.map LineGate.amp)).map fun p => (65536 * l + p.1, p.2)
      | none => h.fi.amps.filter fun p => p.1 / 65536 == l
    let weak := outs.countP fun o => o.out.q == 5
    let slips := outs.countP GateOut.slip
    let reseeds := h.fi.reseeds + outs.countP GateOut.reseeded
    let h : Hub := { h with fi := { h.fi with
      gates := SMap.ofColumn (fun _ => {}) (outs.map GateOut.gate)
      amps := amps, reseeds := reseeds % 65536 } }
    let h := ((h.put FI_STAT_STATE 2).put (FI_WEAK_GATES_COUNT r) weak).bump FI_CNT_SLIPS slips
    let h := h.bump FI_CNT_RESEEDS (reseeds / 65536)
    let h := (((h.tally 138 n).tally 139 weak).tally 142 slips).tally 143 (outs.countP GateOut.reseeded)
    let first := h.fi.slipFirst.getD (r, outs.findIdx GateOut.slip)
    let (p, h) := h.perTurn h.fi.slips slips 75 0 fun c => [first.1, first.2, c]
    let h : Hub := { h with fi := { h.fi with slips := p, slipFirst := if p.count = 0 then none else some first } }
    -- clipped samples by FADC
    let h := (List.range 4).foldl (fun (h : Hub) i =>
      let c := (h.traceOf taken).countP fun x => clipCode (fadcCode x i)
      if c = 0 || !bit (h.fld FI_STAT_FADC_OK) i then h else
      let h := (h.bump ⟨FI_CNT_W2 + 4 * i, 0, 32⟩ 1).tally 141 c
      let (p, h) := h.perTurn (SMap.get (fun _ => {}) h.fi.clips i) 1 (68 + i) 2 fun c => [c]
      { h with fi := { h.fi with clips := SMap.set (fun _ => {}) h.fi.clips i p } }) h
    h.deliverDas mt t (outs.map GateOut.out)

/-- The hub issues ticks and launches to the data plane: armed, no shutdown, and not in a role that issues none (R426, R454,
R458). -/
def ticksRun (h : Hub) : Bool :=
  h.bootStep == 6 && !h.pwr.shutdown && !h.pwr.draining && h.holdsActive

/-- The next instance of LAUNCH_SERIES `e` falls due. -/
def launchTick (e : Nat) (tr : Trace) (h : Hub) : Hub :=
  let (due, _, h) := h.fallDue 2 e
  if !due then h else
  let h := h.takeInstance e
  if !h.ticksRun then h else
  let r := h.groupOf e
  let h := if h.fi.known.contains e then h else
    { h.reseedAll (2 ^ r) with fi := { (h.reseedAll (2 ^ r)).fi with known := e :: h.fi.known } }
  (h.launch r (bits (h.entry e).arg 3 0) tr).paceEntry e

/-! ### Raman DTS (R195, R196) -/

/-- The records of the bins in use, in order. -/
def binList (h : Hub) : List DtsBin := SMap.column (fun _ => {}) (List.range h.nbins) h.fi.bins

/-- An FADC is declared failed: out of service until reset, and the live polarisations follow (R185, R375). -/
def failFadc (k code : Nat) (h : Hub) : Hub :=
  if !bit (h.fld FI_STAT_FADC_OK) k then h else
  let ok := h.fld FI_STAT_FADC_OK - 2 ^ k
  let h : Hub := { h with fi := { h.fi with failed := putBit h.fi.failed k true } }
  let h := (h.put FI_STAT_FADC_OK ok).raise (68 + k) 1 [code]
  let h := h.declareFail 2 k code
  let x := bit ok 0 && bit ok 1
  let y := bit ok 2 && bit ok 3
  let pol := if x && y then 0 else if x then 1 else if y then 2 else 3
  if pol = h.fld FI_STAT_POL then h else (h.put FI_STAT_POL pol).raise 74 0 [pol]

/-- An RADC is declared failed: its channel gives zero sums until reset (R196, R375). -/
def failRadc (m code : Nat) (h : Hub) : Hub :=
  if !bit (h.fld FI_STAT_RADC_OK) m then h else
  let h : Hub := { h with fi := { h.fi with failed := putBit h.fi.failed (4 + m) true } }
  let h := (h.put FI_STAT_RADC_OK (h.fld FI_STAT_RADC_OK - 2 ^ m)).raise (72 + m) 1 [code]
  h.declareFail 3 m code

/-- An RADC whose background sum over the cycle is 0 or full scale is stuck (R375). -/
def judgeRadc (h : Hub) : Hub :=
  let full := 16383 * (if h.bin2 then 4 else 2) * h.nbins * h.fld FI_DTS_CFG_NACC
  let sum (f : DtsBin → Nat) : Nat := (h.binList.map f).sum
  let stuck (n : Nat) : Bool := n == 0 || decide (full ≤ n)
  let s := sum DtsBin.sBg
  let a := sum DtsBin.aBg
  let h := if stuck s then h.failRadc 0 6 else h
  if stuck a then h.failRadc 1 6 else h

/-- The cycle closes into the read bank, and the DTS recipes take it (R196). -/
def closeCycle (h : Hub) : Hub :=
  if h.fld FI_DTS_CFG_NACC = 0 || h.fld FI_DTS_STAT_LAUNCHES < h.fld FI_DTS_CFG_NACC then h else
  let h := h.judgeRadc
  let n := h.nbins
  let radc := h.fld FI_STAT_RADC_OK
  let close (b : DtsBin) : DtsBin :=
    { sNet := if bit radc 0 then b.s - b.sBg else 0, aNet := if bit radc 1 then b.a - b.aBg else 0
      q := if b.clipped then 2 else 0 }
  -- a bin with an uncorrectable word closes its cycle with both sums 0 (R330)
  let at_ (b : Nat) : Nat := 0x41400000 + 48 * b
  let spoilt (b : Nat) : Bool := h.mem.poison.any fun x => decide (at_ b ≤ x) && decide (x < at_ b + 48)
  let bins := ((List.range n).zip h.binList).map fun (b, x) => if spoilt b then { close x with sNet := 0, aNet := 0 } else close x
  let h : Hub := { h with mem := { h.mem with
    poison := h.mem.poison.filter fun x => !(decide (at_ 0 ≤ x) && decide (x < 0x41700000)) } }
  let clipped := bins.countP fun b => b.q == 2
  let h : Hub := { h with fi := { h.fi with
    bins := SMap.ofColumn (fun _ => {}) bins
    dtsTap := h.fld FI_RANGE_ZERO_DTS_TAP } }
  let h := (h.put FI_DTS_STAT_LAUNCHES 0).bumpMod FI_DTS_STAT_CYCLE 1
  let h := if clipped = 0 then h else h.bump FI_CNT_DTS_CLIP 1
  let mt := h.fi.dtsFirst
  let h := h.raise 77 0 (h.fld FI_DTS_STAT_CYCLE :: (wide mt.pack ++ [clipped]))
  -- SE.DTS_REF_T takes effect at the next DTS cycle (R157)
  let h := match SMap.find? h.staged SE_DTS_REF_T with
    | some v => { h.setReg SE_DTS_REF_T v with staged := SMap.erase h.staged SE_DTS_REF_T }
    | none => h
  let t := (extend h.mt.turn mt.turn) * (h.spt : Int) + mt.slot
  let hold := h.flag MT_STATE_HOLDOVER
  h.loaded.foldl (fun (h : Hub) r =>
    let x := h.recipe r
    if x.recipe.source != 2 then h else
    let bs := (bins.drop x.recipe.first).take (x.recipe.last + 1 - x.recipe.first)
    h.runRecipe r { mt := mt, slot := t, hold := hold, cad := h.fi.dtsCad
                    xs := bs.flatMap fun b => [{ v := (b.sNet : Nat), q := b.q }, { v := (b.aNet : Nat), q := b.q }] }) h

/-- A DTS launch at the current slot: suppressed, or fired and accumulated (R180, R195). -/
def dtsLaunch (tr : DtsTrace) (h : Hub) : Hub :=
  match h.suppressCause with
  | some cause => h.suppressLaunch 0 cause
  | none =>
    let h := (h.tally 140 1).strobe [4] (tr.fine % 1024) (h.fld FI_PULSE_DTS_W)
    if !h.flag FI_CTRL_DTS_EN then h else
    let h := h.closeCycle
    let first := h.fld FI_DTS_STAT_LAUNCHES == 0
    let h : Hub := { h with fi := { h.fi with
      dtsTap := if first then h.fld FI_RANGE_ZERO_DTS_TAP else h.fi.dtsTap
      dtsFirst := if first then { h.mtAt h.now with fine := tr.fine % 1024 } else h.fi.dtsFirst
      dtsCad := if first then h.mt.breaks else h.fi.dtsCad } }
    let w := if h.bin2 then 4 else 2
    let tap := h.fi.dtsTap
    let span (xs : Array Nat) (b : Nat) : List Nat := (xs.extract (tap + w * b) (tap + w * b + w)).toList
    let stokes := tr.stokes.toArray
    let anti := tr.anti.toArray
    let stokesBg := tr.stokesBg.toArray
    let antiBg := tr.antiBg.toArray
    let radc := h.fld FI_STAT_RADC_OK
    let clipped (xs : List Nat) : Bool := xs.any fun c => c == 0 || decide (16383 ≤ c)
    let step (b : Nat) (x : DtsBin) : DtsBin :=
      let s := span stokes b
      let a := span anti b
      let sb := span stokesBg b
      let ab := span antiBg b
      { x with s := x.s + s.sum, a := x.a + a.sum, sBg := x.sBg + sb.sum, aBg := x.aBg + ab.sum
               clipped := x.clipped || (bit radc 0 && (clipped s || clipped sb)) || (bit radc 1 && (clipped a || clipped ab)) }
    let h : Hub := { h with fi := { h.fi with
      bins := SMap.ofColumn (fun _ => {}) (((List.range h.nbins).zip h.binList).map fun p => step p.1 p.2) } }
    let h := h.bumpMod FI_DTS_STAT_LAUNCHES 1
    let any (xs : List Nat) : Bool := xs.any fun c => c == 0 || decide (16383 ≤ c)
    [(0, any tr.stokes || any tr.stokesBg), (1, any tr.anti || any tr.antiBg)].foldl (fun (h : Hub) (p : Nat × Bool) =>
      if !p.2 || !bit radc p.1 then h else
      let (q, h) := h.perTurn (SMap.get (fun _ => {}) h.fi.clips (4 + p.1)) 1 (72 + p.1) 2 fun c => [c]
      { h with fi := { h.fi with clips := SMap.set (fun _ => {}) h.fi.clips (4 + p.1) q } }) h

/-- The next instance of DTS_LAUNCH `e` falls due. -/
def dtsTick (e : Nat) (tr : DtsTrace) (h : Hub) : Hub :=
  let (due, _, h) := h.fallDue 3 e
  if !due then h else
  let h := h.takeInstance e
  if h.ticksRun then (h.dtsLaunch tr).paceEntry e else h

/-- A late one-shot with LATE = NOW of slot W + 1: a DTS launch, or an action of another type (R53). -/
def lateNow (e : Nat) (tr : DtsTrace) (h : Hub) : Hub :=
  let ty := (h.entry e).type
  let (due, h) := h.takeLateNow e
  if !due then h
  else if ty = 3 then
    let h := h.takeInstance e
    if h.ticksRun then (h.dtsLaunch tr).paceEntry e else h
  else if 32 ≤ h.slotLoad then h.carryInstance e h.now
  else (h.takeInstance e).countInstance.act e 0 true

/-! ### Writes -/

/-- A write to FI.GAUGE or FI.TRACK: refused outside its range, else it waits for the switch point (R200). -/
def writeGauge (track : Bool) (v : Word) (h : Hub) : Option Hub :=
  let u := h.now + h.slots20us
  if track then
    let k := bits v.toNat 3 0
    if k < 2 || 12 < k then none else some { h with fi := { h.fi with trackDue := some (u, v &&& 0xFFFF000F) } }
  else
    let g := bits v.toNat 6 0
    if g < 2 || 64 < g || h.ngates ≤ g then none else some { h with fi := { h.fi with gaugeDue := some (u, g) } }

/-- A write to FI.LASER (R170). -/
def writeLaser (on : Bool) (h : Hub) : Option Hub := some (h.put FI_LASER_LASER_EN (ofBool on)).refreshLaser

/-- Every 1,024 launches of group 0 (R201). -/
def weakSummary (h : Hub) : Hub :=
  let n := h.fld (FI_LAUNCH_SEQ_SEQ 0)
  if n % 1024 = 0 && n != 0 then h.raise 76 0 ((List.range 4).map fun r => h.fld (FI_WEAK_GATES_COUNT r)) else h

end Hub

def execLaunchTick (entry : Nat) (trace : Trace) (s : State) : Host.Outcome State Fault Refusal :=
  s.onHub (Hub.launchTick entry trace)
def execDtsLaunch (entry : Nat) (trace : DtsTrace) (s : State) : Host.Outcome State Fault Refusal :=
  s.onHub (Hub.dtsTick entry trace)
def execTtLateNow (entry : Nat) (trace : DtsTrace) (s : State) : Host.Outcome State Fault Refusal :=
  s.onHub (Hub.lateNow entry trace)
def execModStatus (present ready alarm : Bool) (s : State) : Host.Outcome State Fault Refusal :=
  s.onHub (Hub.modStatus present ready alarm)
def execLaserEn (path : Path) (on : Bool) (s : State) : Host.Outcome State Fault Refusal :=
  s.onHub (Hub.writeCmd path FI_LASER .LV (Hub.writeLaser on))
def execGaugeWrite (path : Path) (track : Bool) (value : Word) (s : State) : Host.Outcome State Fault Refusal :=
  s.onHub (Hub.writeCmd path (if track then FI_TRACK else FI_GAUGE) .LV (Hub.writeGauge track value))
def execDtsCycle (s : State) : Host.Outcome State Fault Refusal := s.onHub Hub.closeCycle
def execWeakSummary (s : State) : Host.Outcome State Fault Refusal := s.onHub Hub.weakSummary

end Sys2Proof.Machine
end

