-- ==== Sys2Proof/Machine/Calibrate.lean ====
section
/-!
DEFINITION. The commands of calibration (R361-R376): visits, measurements that end, what comes into force, ages, the fibre
items; and the hand-over of the spare.
-/

namespace Sys2Proof.Machine

namespace Hub

/-! ### Measurements (R363, R367-R370, R375, R376) -/

/-- The failure of a measurement: its own code, or an offset or gain out of range (R375). -/
def measFailure (offset : Int) (gain code : Nat) : Nat :=
  if code ≠ 0 then code
  else if offset < -262144 || 262144 < offset then 1
  else if gain < 3932160 || 4456448 < gain then 2
  else 0

def apart (a b : Int) (n : Nat) : Bool := decide (n < (a - b).natAbs)

/-- The measurement of a visit ends, with 3,072 CELL-slot conversions of the primary made (R362, R375, R376). -/
def visitMeasured (g : Nat) (m : CellMeas) (code : Nat) (h : Hub) : Hub :=
  let r := h.rotation g
  match r.visit with
  | none => h
  | some c =>
    if h.fld (CNV_SPARE_STAT_STATE g) != 2 || h.fld (CNV_SPARE_STAT_REASON g) != 1 || h.boot.stalled || decide (r.convs < 3072) then h else
    let n := 17 * g + c % 16
    let trims := m.trimHi < -16 || 15 < m.trimHi || m.trimLo < -16 || 15 < m.trimLo || 63 < m.tap
    let fail := measFailure m.offset m.gain (if code = 0 && trims then 4 else code)
    if fail ≠ 0 then h.failCell n fail else
    let old := h.coef n (h.mode c) (h.setting c)
    match r.first.filter fun p => p.1 == c with
    | some (_, f) =>
      let agree := !apart m.offset f.offset 4096 && !apart m.gain f.gain 1024
      let h := h.raise 209 0 [itemCoef, n, ofBool agree]
      (h.setRotation g { r with result := if agree then some m else none, first := none, large := agree, measured := true }).returnSpare g
    | none =>
      if apart m.offset old.offset 65536 || apart m.gain old.gain 16384 then
        (h.setRotation g { r with first := some (c, m), queue := c :: r.queue.filter (fun x => x != c) }).returnSpare g
      else (h.setRotation g { r with result := some m, measured := true }).returnSpare g

/-- A quiet window is in force. -/
def inQuiet (h : Hub) : Bool := decide (h.cal.quietFrom ≤ h.now) && decide (h.now < h.cal.quietTo)

/-- Calibration of group `g` runs in the quiet window in force: it is one of those that the window serves (R370). -/
def quietRoom (h : Hub) (g : Nat) : Bool :=
  h.inQuiet && h.cal.served.contains g && h.flag CAL_CTRL_EN && !h.boot.stalled && h.afePowered g

/-- An input may be measured in place in a frame of this period (R367): the period is at least 20 slots longer than the cell's
conversion slot and 2 µs. -/
def fitsInPlace (h : Hub) (c : Nat) : Bool :=
  let j := (List.range 32).findIdx fun j => h.mapSlot (c / 32) j == c % 32
  decide (5000 * (j + 40) + 2 * h.bclk ≤ 10000 * h.fld CNV_FRAME_PERIOD_SLOTS)

/-- The input of a group without a spare for visits that is measured in place: the first of the rotation that may be (R367). -/
def inPlaceOf (h : Hub) (g : Nat) : Option Nat :=
  if h.spareVisits g || !h.quietRoom g then none else
  (h.rotation g).queue.find? fun c =>
    h.visitable c && (!h.flag (CNV_CH_CFG_ILK c) || h.flag CAL_CTRL_FB_ILK) && h.fitsInPlace c

/-- An in-place measurement ends, with its 512 conversions gathered (R367, R375). -/
def inPlaceMeasured (g c : Nat) (offset : Int) (gain qr code : Nat) (h : Hub) : Hub :=
  let r := h.rotation g
  if r.place.all (fun p => p.1 != c || decide (p.2 < 512)) || c / 16 != g || !h.visitable c || h.spareVisits g
      || !h.flag CAL_CTRL_EN || h.boot.stalled || !h.afePowered g then h else
  let h := h.setRotation g { r with place := none, placeFrame := none, queue := r.queue.erase c }
  let n := h.servingCell c
  let fail := measFailure offset gain code
  if fail ≠ 0 then h.failCell n fail else
  h.setRotation g { h.rotation g with fallback := some (c, { offset := offset, gain := gain, qr := qr }), fallbackAt := h.now }

/-- The trim of the group's reference, or of its excitation, is measured in a quiet window (R369, R370). -/
def trimMeasured (g : Nat) (exc : Bool) (t : Int) (h : Hub) : Hub :=
  if !h.quietRoom g then h else
  let r := h.rotation g
  (h.setRotation g (if exc then { r with excNext := some t, excAt := h.now } else { r with refNext := some t, refAt := h.now })).resetAge
    (if exc then itemExc else itemRef) g

/-- The voltage across the group's R_REF is measured in a quiet window: it replaces the baseline at once (R82, R359, R370). -/
def rrefMeasured (g uv : Nat) (h : Hub) : Hub :=
  if !h.quietRoom g || !h.flag (AFE_EXC_CFG_EN g) || !h.hasRes g then h else
  let h := (h.setGroup g { h.group g with baseline := some uv }).raiseApplied itemRref g 0 2
  h.keepValue itemRref g 0 [BitVec.ofNat 32 uv] false false

def measurementEnd (g : Nat) (m : CalMeas) (h : Hub) : Hub :=
  match m with
  | .visit m code => h.visitMeasured g m code
  | .inPlace c offset gain qr code => h.inPlaceMeasured g c offset gain qr code
  | .ref t => h.trimMeasured g false t
  | .exc t => h.trimMeasured g true t
  | .rref uv => h.rrefMeasured g uv

/-! ### Coming into force -/

/-- A coefficient set comes into force for a cell, is kept and reported (R362, R368). -/
def putCoef (n c : Nat) (k : Coef) (large fallback : Bool) (h : Hub) : Hub :=
  let mode := h.mode c
  let setting := h.setting c
  let k : Coef := if mode = 2 then k else { k with qr := (h.coef n mode setting).qr }
  let h := (h.setCoef n mode setting k).showCoef n
  let h := h.raiseApplied itemCoef n (settingCode mode setting) (ofBool fallback)
  h.keepValue itemCoef n (settingCode mode setting) (coefPayload (if mode = 2 then k else { k with qr := 0 })) large fallback

/-- The hand-back tick of a visit (R362): the primary resumes with its new set, tap and trims in one step. -/
def handBack (g : Nat) (h : Hub) : Hub :=
  let r := h.rotation g
  match r.visit with
  | none => h
  | some c =>
    let n := 17 * g + c % 16
    let h := match r.result with
      | none => h
      | some m =>
        let h := h.putCoef n c { offset := m.offset, gain := m.gain, qr := m.qr } r.large false
        let h := (h.raiseApplied itemTap n 0 0).keepValue itemTap n 0 [BitVec.ofNat 32 m.tap] r.large false
        let h := ((h.sput (CAL_CMP_TRIM_TRIM_HI n) m.trimHi).sput (CAL_CMP_TRIM_TRIM_LO n) m.trimLo).raiseApplied itemTrim n 0 0
        h.keepValue itemTrim n 0 [h.reg (CAL_CMP_TRIM n)] r.large false
    let h := if r.measured then
        ((h.resetAge itemCoef n).put (CAL_CELL_STAT_FALLBACK n) 0).bump (CAL_GRP_STAT_VISITS g) 1
      else h
    let h := h.setRotation g { h.rotation g with result := none, large := false, measured := false }
    -- the calibrated tap acts with the skew of the input (R107)
    (h.setTap n).spareHandover g

/-- The hand-over tick of a group's spare (R100, R101); that of a visit whose measurement has ended applies it (R362). While the
management plane stalls, a spare that stands in for a visit stays (R4). -/
def handover (g : Nat) (h : Hub) : Hub :=
  let visit := (h.rotation g).visit.isSome
  if h.fld (CNV_SPARE_STAT_STATE g) = 3 && visit then (if h.boot.stalled || !h.handoverReady g then h else h.handBack g)
  else h.spareHandover g

/-- The boundary of a fallback set, whose frame is the first under it (R368). -/
def applyFallback (g : Nat) (h : Hub) : Hub :=
  match (h.rotation g).fallback with
  | none => h
  | some (c, k) =>
    let n := h.servingCell c
    let h := h.setRotation g { h.rotation g with fallback := none }
    let h := (h.putCoef n c k false true).put (CAL_CELL_STAT_FALLBACK n) 1
    (h.resetAge itemCoef n).calStep c

/-- The gains of a group's V and CA settings move with the trim of its reference: each to a free value (R369). -/
def moveGains (g : Nat) (old new : Int) (h : Hub) : Hub :=
  (List.range 17).foldl (fun (h : Hub) (i : Nat) =>
    let n := 17 * g + i
    let h := (List.range 16).foldl (fun (h : Hub) (k : Nat) =>
      let x := h.coef n (1 + k / 8) (k % 8)
      h.setCoef n (1 + k / 8) (k % 8) { x with gain := Config.refGain old new x.gain % 2 ^ 24 }) h
    h.showCoef n) h

/-- What was measured in slot `t` waits no longer: a later quiet window is in force (R368, R369). -/
def laterWindow (h : Hub) (t : Int) : Bool := h.inQuiet && decide (t < h.cal.quietFrom)

/-- The first tick of a quiet window with trims that wait (R369). -/
def applyTrims (g : Nat) (h : Hub) : Hub :=
  let r := h.rotation g
  let h := match r.refNext.filter fun _ => h.laterWindow r.refAt with
    | none => h
    | some t =>
      let h := ((h.setRotation g { r with refNext := none }).putTrim false g t).moveGains g (h.cal.refs.getD g 0) t
      let h := (List.range 16).foldl (fun (h : Hub) (i : Nat) =>
        let c := 16 * g + i
        if h.mode c = 1 || h.mode c = 2 then h.calStep c else h) h
      (h.raiseApplied itemRef g 0 2).keepValue itemRef g 0 [BitVec.ofNat 32 (unsigned 16 t)] false false
  match r.excNext.filter fun _ => h.laterWindow r.excAt with
  | none => h
  | some t =>
    let h := (h.setRotation g { h.rotation g with excNext := none }).putTrim true g t
    (h.raiseApplied itemExc g 0 2).keepValue itemExc g 0 [BitVec.ofNat 32 (unsigned 16 t)] false false

/-- What was measured comes into force at a frame tick: at the hand-back, at the fallback boundary, or in a quiet window (R362, R368,
R369). -/
def calApplied (g path : Nat) (h : Hub) : Hub :=
  if h.boot.stalled || h.mt.lastEdge != some h.now then h else
  match path with
  | 0 =>
    if h.fld (CNV_SPARE_STAT_STATE g) = 3 && (h.rotation g).visit.isSome && h.handoverReady g then h.handBack g else h
  | 1 => if h.flag CAL_CTRL_FB_AT && !h.laterWindow (h.rotation g).fallbackAt then h else h.applyFallback g
  | 2 => h.applyTrims g
  | _ => h

/-- What comes into force at every frame tick by itself: fallback sets and trims whose boundary it is (R368, R369). -/
def calBoundary (h : Hub) : Hub :=
  h.cal.groups.foldl (fun (h : Hub) (p : Nat × Rotation) => (h.calApplied p.1 1).calApplied p.1 2) h

/-! ### The calibration slots (R360) -/

/-- The owners of a calibration slot. -/
inductive CalOwner where
  | lead | cell | stage
  deriving DecidableEq, Repr

/-- The 3-wire pairs of a group (R80). -/
def leadPairs (h : Hub) (g : Nat) : List Nat :=
  if !h.afePowered g then [] else
  (List.range 16).filter fun i => h.mode (16 * g + i) == 4 && h.fld (AFE_CELL_CFG_WIRES (16 * g + i)) == 1

/-- The cell of a group that is freed by a visit, idle between visits, or measured in place in frame `n` has a conversion to make. -/
def cellConverts (h : Hub) (g n : Nat) : Bool :=
  h.fld (CAL_GRP_STAT_STATE g) == 1 || h.fld (CAL_GRP_STAT_STATE g) == 3 || (h.rotation g).placeFrame == some n

/-- What the calibration slot of a group converts in frame `n`. -/
def calOwner (h : Hub) (g n : Nat) : CalOwner :=
  if n % 8 = 0 ∧ h.leadPairs g ≠ [] then .lead
  else if n % 8 ≠ 1 ∧ h.cellConverts g n then .cell
  else .stage

/-- The lead measurement of a frame whose number is 0 modulo 8 (R80): one 3-wire pair of the group in rotation. The reading comes
from outside, as a free value; the mean is rounded convergently, which the spec does not say (DESIGN CHOICE, log entry 127). -/
def measureLead (g n : Nat) (h : Hub) : Hub :=
  let ps := h.leadPairs g
  let c := 16 * g + ps.getD (n / 8 % ps.length) 0
  let ms := (Config.leadReading h.fresh % 2 ^ 24 :: SMap.get (fun _ => []) h.afe.leads c).take 16
  let h : Hub := { h.tick with afe := { h.afe with leads := SMap.set (fun _ => []) h.afe.leads c ms } }
  let h := h.put (AFE_LEAD_MEAS_RATIO c) (roundConv (ms.sum : Nat) ms.length).toNat
  h.put (AFE_LEAD_MEAS_VALID c) (ofBool (ms.length == 16))

/-- The calibration slots of frame `n` have converted, where the management plane did not stall (R4) and the ADC was in service. -/
def calSlots (n : Nat) (h : Hub) : Hub :=
  if h.boot.stalled then h else
  (List.range 32).foldl (fun (h : Hub) (g : Nat) =>
    if !h.adcIn (16 * g) then h else
    match h.calOwner g n with
    | .lead => h.measureLead g n
    | .cell =>
      let r := h.rotation g
      if h.fld (CAL_GRP_STAT_STATE g) = 3 then h.setRotation g { r with convs := r.convs + 1 }
      else if r.placeFrame = some n then h.setRotation g { r with place := r.place.map fun p => (p.1, p.2 + 1) }
      else h
    | .stage =>
      { h with cal := { h.cal with
        stages := SMap.set (fun _ => 0) h.cal.stages (g / 2) (SMap.get (fun _ => 0) h.cal.stages (g / 2) + 1) } }) h

/-- The inputs measured in place in frame `n` (R367): where the CELL claimant has the slot. Comparators held in the last frame are
free. -/
def placeCells (n : Nat) (h : Hub) : Hub :=
  (List.range 32).foldl (fun (h : Hub) (g : Nat) =>
    let r := h.rotation g
    let h := match r.place, r.placeFrame with
      | some (c, _), some _ => if h.isPartner (c + 1) then (h.driveCmp c).driveCmp (c + 1) else h.driveCmp c
      | _, _ => h
    match h.inPlaceOf g with
    | some c =>
      if n % 8 = 1 ∨ n % 8 = 0 ∧ h.leadPairs g ≠ [] then h.setRotation g { r with placeFrame := none }
      else h.setRotation g { r with place := some (r.place.filter (fun p => p.1 == c) |>.getD (c, 0)), placeFrame := some n }
    | none => if r.placeFrame.isSome then h.setRotation g { r with placeFrame := none } else h) h

/-! ### ADC stages, ages, the catch-up pass (R361, R371, R372) -/

/-- The trims of an ADC's stages are updated, once per 1,024 of its stage conversions, or show a failure (R361). -/
def stageUpdate (a code : Nat) (trims : List Word) (h : Hub) : Hub :=
  let n := SMap.get (fun _ => 0) h.cal.stages a
  if !h.flag (CNV_ADC_STAT_IN_SERVICE a) || h.boot.stalled then h
  else if code ≠ 0 then (h.failAdc a code).drainFills
  else if n < 1024 then h
  else
    let h : Hub := { h with cal := { h.cal with stages := SMap.set (fun _ => 0) h.cal.stages a (n - 1024) } }
    ((h.put (CAL_ADC_STAT_TRIMMED a) 1).bump (CAL_ADC_STAT_UPDATES a) 1).keepValue itemStage a 0 (trims.take 8) false false

/-- The items that have an age (R371): cells, references and excitations of groups, FADCs, polarisations. -/
def aged (item index : Nat) : Bool :=
  (item == itemCoef && decide (index < 544)) || ((item == itemRef || item == itemExc) && decide (index < 32))
    || (item == itemSkew && decide (index < 4)) || (item == itemIq && decide (index < 2))

/-- An item that is measured in quiet windows or in fibre dead time only can be stale for want of one (R372). -/
def needsRoom (h : Hub) (item index : Nat) : Bool :=
  item == itemRef || item == itemExc || item == itemSkew || (item == itemCoef && !h.spareVisits (index / 17))

/-- The age of an item passes CAL_AGE_LIMIT (R372): reported once. -/
def goStale (item index : Nat) (blocked : Bool) (h : Hub) : Hub :=
  let k := ageKey item index
  if !aged item index || h.cal.stale.contains k then h else
  let limit : Int := 1000000000 * (h.fld CAL_AGE_LIMIT_S : Int)
  let t := (SMap.get (fun _ => -limit) h.cal.since k + limit).toNat
  let h : Hub := { h with lt := max h.lt (t / 10 * 10 + 10), cal := { h.cal with stale := h.cal.stale ++ [k] } }
  let h := if item = itemCoef then h.put (CAL_CELL_STAT_STALE index) 1 else h
  let age := min (h.ageS item index) 0xFFFFFFFF
  let h := h.raise 211 0 [item, index, age]
  if blocked && h.needsRoom item index then h.raise 215 0 [item, index, age] else h

/-- Every input that a spare can visit has been visited since `t` (R371). -/
def allVisited (h : Hub) (t : Nat) : Bool :=
  (List.range 512).all fun c =>
    !h.visitable c || !h.spareVisits (c / 16) || !h.afePowered (c / 16)
      || (SMap.find? h.cal.since (ageKey itemCoef (17 * (c / 16) + c % 16))).any fun x => decide ((t : Int) ≤ x)

/-- Every input has been visited since the catch-up pass began (R371): the pass is done. -/
def passDone (h : Hub) : Hub :=
  match h.cal.pass with
  | none => h
  | some (cause, t) =>
    if !h.allVisited t then h else
    ({ h with cal := { h.cal with pass := none } } : Hub).raise 212 0 [cause, (h.lt - t) / 1000000]

/-- The catch-up pass begins (R371, R373): every input that is visited is due, units with a FAIL entry and those without a valid
entry first, then the stalest first. -/
def startPass (cause : Nat) (h : Hub) : Hub :=
  let h : Hub := { h with cal := { h.cal with pass := some (cause, h.lt) } }
  (List.range 32).foldl (fun (h : Hub) (g : Nat) =>
    let cs := ((List.range 16).map fun i => 16 * g + i).filter h.visitable
    let failed (c : Nat) : Bool := (SMap.find? h.cal.values (calKey itemFail (17 * g + c % 16) 0)).isSome
    let fresh (c : Nat) : Bool :=
      (SMap.find? h.cal.values (calKey itemCoef (17 * g + c % 16) (settingCode (h.mode c) (h.setting c)))).isNone
    let rank (c : Nat) : Nat := if failed c then 0 else if fresh c then 1 else 2
    let age (c : Nat) : Nat := h.ageS itemCoef (17 * g + c % 16)
    let q := cs.mergeSort fun a b => decide (rank a < rank b) || (rank a == rank b && decide (age b ≤ age a))
    ((h.setRotation g { h.rotation g with queue := q }).refreshRotation g).startVisit g) h

/-! ### Fibre items (R374) -/

/-- A value that waits for a launch replaces an earlier one of its kind and index. -/
def fibreDue (kind index value : Nat) (h : Hub) : Hub :=
  { h with fi := { h.fi with
    calDue := h.fi.calDue.filter (fun p => !(p.1 == kind && p.2.1 == index)) ++ [(kind, index, value)] } }

/-- Captures of a fibre item fill the calibration-capture region of the Trace Store (R374): what stands there is free, and none of its
words is uncorrectable any more. -/
def takeCapture (h : Hub) : Hub :=
  let inside (a : Nat) : Bool := decide (0x41780000 ≤ a) && decide (a < 0x417C0000)
  { h with
    fresh := h.fresh + 1
    mem := { h.mem with
      bytes := h.mem.bytes.filter (fun p => !inside p.1)
      poison := h.mem.poison.filter fun a => !inside a
      captured := some h.fresh, zeroed := [] } }

/-- A skew measurement ends (R374, R375). -/
def skewMeasured (k tap code : Nat) (h : Hub) : Hub :=
  if 4 ≤ k || h.boot.stalled || !h.fiaOn then h
  else
    let h := h.takeCapture
    let code := if code = 0 && 63 < tap then 4 else code
    if code ≠ 0 then h.failFadc k code else (h.fibreDue 0 k tap).resetAge itemSkew k

/-- The I/Q correction of a polarisation is updated, after every 1,024 launches of group 0 (R374). -/
def iqUpdate (p : Nat) (w0 w1 : Word) (h : Hub) : Hub :=
  if 2 ≤ p || h.boot.stalled || !h.fiaOn || decide (h.fi.group0 < SMap.get (fun _ => 0) h.fi.iqAt p + 1024) then h
  else
    let h : Hub := { h with fi := { h.fi with iqAt := SMap.set (fun _ => 0) h.fi.iqAt p h.fi.group0 } }
    (h.takeCapture.fibreDue 1 p (w0.toNat * 2 ^ 32 + w1.toNat)).resetAge itemIq p

/-- A new range zero is taken once 8 measurements that lie 65,536 launches of group 0 apart agree, and waits for a quiet window (R374,
R200). -/
def rangeUpdate (das dts : Nat) (h : Hub) : Hub :=
  if h.boot.stalled || !h.fiaOn || decide (h.fi.group0 < h.fi.rangeAt + 65536) || decide (h.fi.group0 < 8 * 65536) then h else
  let h : Hub := { h.takeCapture with fi := { h.fi with rangeAt := h.fi.group0 } }
  let h := ((h.put CAL_FIBRE_STAT_RZ_PENDING 1).put CAL_FIBRE_STAT_DAS_TAP das).put CAL_FIBRE_STAT_DTS_TAP dts
  (h.fibreDue 2 0 (das % 1024)).fibreDue 3 0 (dts % 256)

end Hub

def execSpareHandover (group : Nat) (s : State) : Host.Outcome State Fault Refusal := s.onHub (Hub.handover group)
def execVisitDue (input : Nat) (s : State) : Host.Outcome State Fault Refusal := s.onHub (Hub.visitDue input)
def execCalVisit (path : Path) (input : Nat) (s : State) : Host.Outcome State Fault Refusal :=
  s.onHub (Hub.writeCmd path CAL_VISIT .LV (Hub.writeVisit input))
def execMeasurementEnd (group : Nat) (meas : CalMeas) (s : State) : Host.Outcome State Fault Refusal :=
  s.onHub (Hub.measurementEnd group meas)
def execCalApplied (group path : Nat) (s : State) : Host.Outcome State Fault Refusal := s.onHub (Hub.calApplied group path)
def execAdcStageUpdate (adc code : Nat) (trims : List Word) (s : State) : Host.Outcome State Fault Refusal :=
  s.onHub (Hub.stageUpdate adc code trims)
def execCalStale (item index : Nat) (blocked : Bool) (s : State) : Host.Outcome State Fault Refusal :=
  s.onHub (Hub.goStale item index blocked)
def execCalPassDone (s : State) : Host.Outcome State Fault Refusal := s.onHub Hub.passDone
def execFadcSkewMeasurement (fadc tap code : Nat) (s : State) : Host.Outcome State Fault Refusal :=
  s.onHub (Hub.skewMeasured fadc tap code)
def execIqUpdate (pol : Nat) (w0 w1 : Word) (s : State) : Host.Outcome State Fault Refusal := s.onHub (Hub.iqUpdate pol w0 w1)
def execRangeZeroUpdate (das dts : Nat) (s : State) : Host.Outcome State Fault Refusal := s.onHub (Hub.rangeUpdate das dts)

end Sys2Proof.Machine
end

