-- ==== Sys2Proof/Machine/MemOps.lean ====
section
/-!
DEFINITION. Shared operations of memory: the windows (R325), who may reach them (R326), their bytes with the records of the
Trace Store laid over them (R198), row repair (R329), and domains that are off.
-/

namespace Sys2Proof.Machine

/-! ### Windows (R325) -/

/-- Base and size of memory m. -/
def memWindow (m : Nat) : Nat × Nat :=
  if m < 17 then (0x40000000 + m * 0x40000, 0x40000)
  else match m with
    | 17 => (0x41000000, 0xC00000)
    | 18 => (0x42000000, 0x800000)
    | 19 => (0x43000000, 0x400000)
    | 20 => (0x44000000, 0x40000)
    | _ => (0x45000000, 0x10000)

/-- The memory an address lies in. -/
def memOf (a : Nat) : Option Nat :=
  (List.range 22).find? fun m => decide ((memWindow m).1 ≤ a) && decide (a < (memWindow m).1 + (memWindow m).2)

/-- The regions of the windows that R326 tells apart. -/
inductive Region where
  | engine | records | captures | snapshot | shadow | cistern | standpipe | mirror | descriptors
  deriving DecidableEq, Repr

/-- The region an address lies in. -/
def regionOf (a : Nat) : Option Region :=
  match memOf a with
  | none => none
  | some m =>
    if m < 17 then some .engine
    else match m with
      | 17 =>
        let o := a - 0x41000000
        some (if o < 0x780000 then .records else if o < 0x7C0000 then .captures
          else if o < 0xB00000 then .snapshot else .shadow)
      | 18 => some .cistern
      | 19 => some .standpipe
      | 20 => some .mirror
      | _ => some .descriptors

/-- DMA channel `n` may read a region (R326); DMA[31] as the service dump reads every one (R343). -/
def dmaReads (n : Nat) (r : Region) : Bool :=
  match r with
  | .records => true
  | .shadow => true
  | .snapshot => true
  | .standpipe => true
  | .engine => decide (n < 24) || decide (28 ≤ n)
  | .captures => decide (n < 24) || decide (28 ≤ n)
  | .cistern => decide (n < 24) || decide (28 ≤ n)
  | .mirror => decide (28 ≤ n)
  | .descriptors => false

/-- DMA channel `n` may write a region (R326). -/
def dmaWrites (n : Nat) (r : Region) : Bool :=
  match r with
  | .snapshot => true
  | .captures => decide (n < 24) || decide (28 ≤ n)
  | .mirror => n == 28
  | _ => false

/-- The management cores may write a region (R326). -/
def mcWrites (r : Region) : Bool :=
  match r with
  | .captures => true
  | .snapshot => true
  | .descriptors => true
  | _ => false

/-! ### Records of the Trace Store (R198) -/

/-- Byte `k` of a little-endian number. -/
def leByte (x k : Nat) : Byte := BitVec.ofNat 8 (x / 2 ^ (8 * k))

/-- Byte `k` of a gate record. -/
def Gate.byte (g : Gate) (k : Nat) : Byte :=
  if k < 12 then
    let l := g.lines.getD (k / 3) {}
    leByte (l.psi % 65536 * 256 + l.m % 64 * 4 + ofBool l.havePrev * 2 + ofBool l.weak) (k % 3)
  else if k < 28 then leByte (g.phi.getD ((k - 12) / 4) 0) ((k - 12) % 4)
  else if k < 44 then leByte (g.off.getD ((k - 28) / 4) 0) ((k - 28) % 4)
  else if k < 48 then leByte g.y1 (k - 44)
  else if k < 52 then leByte g.y2 (k - 48)
  else if k = 52 then BitVec.ofNat 8 (g.reseed % 16)
  else 0

/-- Byte `k` of a DTS bin record. -/
def DtsBin.byte (b : DtsBin) (k : Nat) : Byte :=
  if k < 6 then leByte b.s k
  else if k < 12 then leByte b.a (k - 6)
  else if k < 18 then leByte b.sBg (k - 12)
  else if k < 24 then leByte b.aBg (k - 18)
  else if k < 30 then leByte b.sNet (k - 24)
  else if k < 36 then leByte b.aNet (k - 30)
  else if k = 36 then BitVec.ofNat 8 (b.q % 8 + ofBool b.clipped * 8)
  else 0

/-- The memories' plain bytes are in canonical form: addresses rise, and no byte is listed that reads 0 unlisted (R328, R331). -/
def Memory.wf (m : Memory) : Bool := SMap.wf (fun _ => 0) m.bytes

namespace Hub

/-! ### Bytes -/

/-- A byte of the table of plain bytes. -/
def plainByte (h : Hub) (a : Nat) : Byte := SMap.get (fun _ => 0) h.mem.bytes a

/-- A byte of a window. Windows whose layout the spec leaves to the units that own them read as free values. -/
def memByte (h : Hub) (a : Nat) : Byte :=
  match regionOf a with
  | none => 0
  | some .records =>
    let o := a - 0x41000000
    if o < 0x400000 then (SMap.get (fun _ => {}) h.fi.gates (o / 64)).byte (o % 64)
    else if o < 0x700000 then
      (SMap.get (fun _ => {}) h.fi.bins ((o - 0x400000) / 48)).byte ((o - 0x400000) % 48)
    else
      let k := (o - 0x700000) / 2
      leByte (SMap.get (fun _ => 0) h.fi.amps k) (o % 2)
  | some .shadow =>
    -- the records of engine e, one after the other, from e × 64 KiB on (R159)
    let o := a - 0x41B00000
    let ws := (h.se.recipes.filter fun p => p.2.recipe.engine == o / 0x10000).flatMap fun p => p.2.recipe.words
    let i := o % 0x10000
    if i < 4 * ws.length then leByte (ws.getD (i / 4) 0).toNat (3 - i % 4) else 0
  | some .captures =>
    match h.mem.captured with
    | some n => if (SMap.find? h.mem.bytes a).isSome || h.mem.zeroed.contains a then h.plainByte a else Config.windowByte a n
    | none => h.plainByte a
  | some .snapshot => h.plainByte a
  | some .descriptors => h.plainByte a
  | some .mirror =>
    -- what DMA[28] gathers on the active hub (R429, R430): its layout is open
    if decide (0 < h.twn.number) && (h.fld TWN_STAT_ROLE == 4 || h.fld TWN_STAT_ROLE == 6) then Config.windowByte a h.fresh
    else h.plainByte a
  | some _ => Config.windowByte a h.fresh

/-- The little-endian word at an address. -/
def memWord (h : Hub) (a : Nat) : Word :=
  BitVec.ofNat 32 ((h.memByte a).toNat + (h.memByte (a + 1)).toNat * 2 ^ 8 + (h.memByte (a + 2)).toNat * 2 ^ 16
    + (h.memByte (a + 3)).toNat * 2 ^ 24)

/-- Store a plain byte. -/
def setByte (a : Nat) (b : Byte) (h : Hub) : Hub :=
  { h with mem := { h.mem with
    bytes := SMap.set (fun _ => 0) h.mem.bytes a b
    zeroed := if h.mem.captured.isNone then h.mem.zeroed
      else if b = 0 then a :: h.mem.zeroed else h.mem.zeroed.filter (fun x => x != a) } }

/-- Store a little-endian word. -/
def setMemWord (a : Nat) (w : Word) (h : Hub) : Hub :=
  (((h.setByte a (leByte w.toNat 0)).setByte (a + 1) (leByte w.toNat 1)).setByte (a + 2) (leByte w.toNat 2)).setByte
    (a + 3) (leByte w.toNat 3)

/-- Store words one after the other; a 64-bit word that is replaced whole is no longer uncorrectable (R327). -/
def setMemWords (a : Nat) (ws : List Word) (h : Hub) : Hub :=
  let h := (ws.zip (List.range ws.length)).foldl (fun (h : Hub) (p : Word × Nat) => h.setMemWord (a + 4 * p.2) p.1) h
  { h with mem := { h.mem with
    poison := h.mem.poison.filter fun x => !(decide (a ≤ x) && decide (x + 8 ≤ a + 4 * ws.length)) } }

/-- The words from an address hold one that reads as uncorrectable. -/
def poisoned (h : Hub) (a words : Nat) : Bool :=
  h.mem.poison.any fun x => decide (a < x + 8) && decide (x < a + 4 * words)

/-- The memory is powered (R325, R452): CORE and TWIN memories are off only while the hub is Quiescent. -/
def memOn (h : Hub) (m : Nat) : Bool :=
  if m < 17 then bit (h.fld PWR_DOM_STAT_ENG) m else h.bootStep != 8

/-- The memory of a domain that powers up is zero-filled, and its errors are gone (R328). -/
def fillMemory (m : Nat) (h : Hub) : Hub :=
  let (b, n) := memWindow m
  let inside (a : Nat) : Bool := decide (b ≤ a) && decide (a < b + n)
  { h with mem := { h.mem with
    bytes := h.mem.bytes.filter fun p => !inside p.1
    poison := h.mem.poison.filter fun a => !inside a
    captured := if m = 17 then none else h.mem.captured
    filling := if h.mem.filling.contains m then h.mem.filling else h.mem.filling ++ [m] } }

/-! ### Errors and row repair (R327-R330) -/

/-- The counter of corrected words of a memory (R351). -/
def eccCounter (m : Nat) : Nat := if m < 17 then 176 else min 181 (160 + m)

/-- Macros of a memory (R329). -/
def macros (m : Nat) : Nat := max 1 ((memWindow m).2 / 0x40000)

/-- Spare rows left in the macro of a row (R329). -/
def sparesIn (h : Hub) (m row : Nat) : Nat :=
  4 - h.mem.repaired.countP fun p => p.1 == m && p.2 / 256 == row / 256

/-- A row is to be repaired: its copy starts, unless one runs, or its macro has no spare row left (R329). -/
def startRepair (m row cause : Nat) (h : Hub) : Hub :=
  if h.mem.copying.any fun p => p.1 == m && p.2.1 == row then h
  else if h.sparesIn m row ≤ h.mem.copying.countP (fun p => p.1 == m && p.2.1 / 256 == row / 256) then h.raise 243 0 [m, row]
  else { h with mem := { h.mem with copying := h.mem.copying ++ [(m, row, cause)] } }

/-- REPAIRED and SPARES_LEFT of a memory. -/
def showRepairs (m : Nat) (h : Hub) : Hub :=
  let n := h.mem.repaired.countP fun p => p.1 == m
  (h.put (DMA_MEM_STAT_REPAIRED m) (min 255 n)).put (DMA_MEM_STAT_SPARES_LEFT m) (4 * macros m - n)

/-- A repair enters the log of the last 16, newest first. -/
def logRepair (m row cause : Nat) (h : Hub) : Hub :=
  let h := (List.range 15).foldr (fun i (h : Hub) => h.setReg (DMA_REPAIR_LOG (i + 1)) (h.reg (DMA_REPAIR_LOG i)))
    h
  h.setReg (DMA_REPAIR_LOG 0) (BitVec.ofNat 32 (m * 2 ^ 27 + 2 ^ 26 + cause * 2 ^ 25 + row % 2 ^ 14))

/-- The copy of a row completes: accesses go to the spare row, which starts with no error found in it, and the repair is logged and
journalled (R329). -/
def rowRepaired (m row : Nat) (h : Hub) : Hub :=
  match h.mem.copying.find? fun p => p.1 == m && p.2.1 == row with
  | none => h
  | some (_, _, cause) =>
    let spare := 4 - h.sparesIn m row
    let h : Hub := { h with mem := { h.mem with
      copying := h.mem.copying.filter fun p => !(p.1 == m && p.2.1 == row)
      seenRows := h.mem.seenRows.filter fun p => p != (m, row)
      repaired := h.mem.repaired ++ [(m, row)] } }
    let h := (h.logRepair m row cause).showRepairs m
    let h := h.raise 242 0 [m, row, cause, h.sparesIn m row]
    h.keepValue itemRow (h.mem.repaired.length % 65536) 0
      [BitVec.ofNat 32 (m * 2 ^ 27 + row % 2 ^ 14), BitVec.ofNat 32 (spare % 4)] false false

/-- A reader on a fabric port meets an uncorrectable word (R330). -/
def raiseUncorr (m a port : Nat) (h : Hub) : Hub :=
  ((h.bump (DMA_MEM_STAT_UNCORR m) 1).tally 182 1).raise 241 0 [m, a, port]

/-! ### The fabric (R351, R353) -/

/-- Filter unit `f` takes a transaction: privilege (1 firmware, 2 service-originated), port, address, and the class of the
stream it carries. -/
def filterTakes (h : Hub) (f priv port a : Nat) (cls : Option Nat) : Bool :=
  h.flag (PMC_FILT_EN f) && (h.fld (PMC_FILT_PRIV f) == 0 || h.fld (PMC_FILT_PRIV f) == priv)
    && (!h.flag (PMC_FILT_MASTER_EN f) || h.fld (PMC_FILT_MASTER f) == port)
    && decide (h.fld (PMC_FILT_ADDR_LO f) ≤ a) && decide (a ≤ h.fld (PMC_FILT_ADDR_HI f))
    && (!h.flag (PMC_FILT_CLASS_EN f) || (match cls with | some c => h.fld (PMC_FILT_CLASS f) == c | none => true))

/-- A transaction of a master on the fabric: `bytes` read or written at an address. -/
def transaction (priv port a bytes : Nat) (write : Bool) (cls : Option Nat) (h : Hub) : Hub :=
  let h := h.tally (68 + 2 * port + ofBool write) bytes
  (List.range 8).foldl (fun (h : Hub) f =>
    if h.filterTakes f priv port a cls then (h.tally (100 + 2 * f) 1).tally (101 + 2 * f) bytes else h) h

end Hub

end Sys2Proof.Machine
end

