-- ==== Sys2Proof/Machine/Dma.lean ====
section
/-!
DEFINITION. The DMA channels (R334-R342), service dumps (R343), the event records that enter stream 0 (R346), and the
performance counters (R351-R355).
-/

namespace Sys2Proof.Machine

/-! ### Descriptors (R336) -/

/-- The eight words of a descriptor. -/
structure Desc where
  w0 : Nat
  src : Nat
  dst : Nat
  w3 : Nat
  srcStride : Int
  dstStride : Int
  w6 : Nat
  w7 : Nat
  deriving DecidableEq, Repr

namespace Desc

def own (d : Desc) : Bool := bit d.w0 31
def evt (d : Desc) : Bool := bit d.w0 29
def last (d : Desc) : Bool := bit d.w0 28
def toStream (d : Desc) : Bool := bit d.w0 27
def stream (d : Desc) : Nat := bits d.w0 26 20
def repeats (d : Desc) : Bool := bit d.w0 19
def next (d : Desc) : Nat := bits d.w0 10 0
def lines (d : Desc) : Nat := bits d.w3 30 16 + 1
def lineWords (d : Desc) : Nat := bits d.w3 14 0 + 1
def total (d : Desc) : Nat := d.lines * d.lineWords

/-- First and last byte of the footprint of a pattern with a base and a stride (R338). -/
def span (d : Desc) (base : Nat) (stride : Int) : Int × Int :=
  let far := (base : Int) + stride * (d.lines - 1 : Nat)
  (if far < base then far else base, (if far < base then (base : Int) else far) + 4 * d.lineWords - 1)

/-- The bursts of a transfer in ascending order: first word within the transfer, source, destination, and words. -/
def bursts (d : Desc) : List (Nat × Nat × Nat × Nat) :=
  (List.range d.lines).flatMap fun (j : Nat) =>
    (List.range ((d.lineWords + 63) / 64)).map fun (b : Nat) =>
      let at_ (base : Nat) (stride : Int) : Nat := ((base : Int) + stride * (j : Int) + 256 * (b : Int)).toNat
      (j * d.lineWords + 64 * b, at_ d.src d.srcStride, at_ d.dst d.dstStride, min 64 (d.lineWords - 64 * b))

/-- W7 after `done` words (R336). -/
def residue (d : Desc) (done : Nat) : Nat :=
  let begun := done / d.lineWords
  let part := done % d.lineWords
  if part = 0 then (d.lines - begun) * 65536 else (d.lines - begun - 1) * 65536 + (d.lineWords - part)

end Desc

/-- Status codes (R340). -/
abbrev stComplete : Nat := 1
abbrev stAborted : Nat := 2
abbrev stOverlap : Nat := 3
abbrev stDomainOff : Nat := 4
abbrev stProtected : Nat := 5
abbrev stBadAddr : Nat := 6
abbrev stEcc : Nat := 7
abbrev stBadDesc : Nat := 8
abbrev stStopped : Nat := 9

namespace Hub

def chan (h : Hub) (n : Nat) : Channel := SMap.get (fun _ => {}) h.mem.chans n

def setChan (n : Nat) (c : Channel) (h : Hub) : Hub :=
  { h with mem := { h.mem with chans := SMap.set (fun _ => {}) h.mem.chans n c } }

def descAt (i : Nat) : Nat := 0x45000000 + 32 * i

def desc (h : Hub) (i : Nat) : Desc :=
  let w (k : Nat) : Nat := (h.memWord (descAt i + 4 * k)).toNat
  { w0 := w 0, src := w 1, dst := w 2, w3 := w 3, srcStride := signed 32 (w 4), dstStride := signed 32 (w 5), w6 := w 6, w7 := w 7 }

/-- The stream has a sample source of its own, so no snapshot channel may fill it (R240). -/
def hasSource (h : Hub) (s : Nat) : Bool :=
  (h.flag TRG_SP_CFG_EN && h.fld TRG_SP_CFG_STREAM == s)
    || h.loaded.any fun r => (h.recipe r).recipe.taps.any fun t => t.2.2 == s

/-- Every line of a pattern lies in regions that `ok` allows. -/
def linesIn (d : Desc) (base : Nat) (stride : Int) (ok : Region → Bool) : Bool :=
  (List.range d.lines).all fun j =>
    let a := (base : Int) + stride * j
    [a, a + 4 * d.lineWords - 4].all fun x => match regionOf x.toNat with | some r => ok r | none => false

/-- A pattern lies inside one window (R337). -/
def inWindow (d : Desc) (base : Nat) (stride : Int) : Bool :=
  let (lo, hi) := d.span base stride
  decide (0 ≤ lo) && (memOf lo.toNat).isSome && memOf lo.toNat == memOf hi.toNat

/-- The memories a descriptor touches. -/
def touches (d : Desc) : List Nat :=
  ((memOf d.src).toList ++ if d.toStream then [] else (memOf d.dst).toList)

/-- The checks of R337, in order; 0 where every one passes. -/
def checkDesc (h : Hub) (n : Nat) (d : Desc) : Nat :=
  let badStream := d.toStream && (d.stream == 0 || h.ringSize d.stream == 0 || !(decide (24 ≤ n) && decide (n ≤ 27))
    || h.hasSource d.stream)
  let ragged := d.src % 4 != 0 || d.srcStride % 4 != 0 || (!d.toStream && (d.dst % 4 != 0 || d.dstStride % 4 != 0))
  if ragged || bits d.w0 18 11 != 0 || bit d.w3 31 || bit d.w3 15 || bits d.w6 26 0 != 0 || badStream then stBadDesc
  else if !inWindow d d.src d.srcStride || (!d.toStream && !inWindow d d.dst d.dstStride) then stBadAddr
  else if !linesIn d d.src d.srcStride (dmaReads n) || (!d.toStream && !linesIn d d.dst d.dstStride (dmaWrites n)) then stProtected
  else
    let (slo, shi) := d.span d.src d.srcStride
    let (dlo, dhi) := d.span d.dst d.dstStride
    if !d.toStream && d.lines != 1 && decide (slo ≤ dhi) && decide (dlo ≤ shi) then stOverlap
    else if (touches d).any fun m => !h.memOn m then stDomainOff
    else 0

/-! ### Moving words (R337, R338, R327) -/

/-- The fabric port of a channel, and whether its transactions are the firmware's (1) or service-originated (2) (R353). -/
def dmaPort (n : Nat) : Nat := if n < 28 then 4 else 5
def dmaPriv (n : Nat) : Nat := if n = 31 then 2 else 1

/-- The order of the bursts: descending where one line moves up onto itself (R338). -/
def burstOrder (d : Desc) : List (Nat × Nat × Nat × Nat) :=
  let (slo, shi) := d.span d.src d.srcStride
  let (dlo, dhi) := d.span d.dst d.dstStride
  if !d.toStream && d.lines == 1 && decide (d.src < d.dst) && decide (slo ≤ dhi) && decide (dlo ≤ shi) then d.bursts.reverse
  else d.bursts

/-- The first burst that reads an uncorrectable word, as the number of bursts before it. -/
def eccStop (h : Hub) (bs : List (Nat × Nat × Nat × Nat)) : Option Nat :=
  bs.findIdx? fun b => h.poisoned b.2.1 b.2.2.2

/-- Move bursts to memory; every word is as the source held it before the transfer. -/
def moveBursts (n : Nat) (src : Nat → Word) (d : Desc) (bs : List (Nat × Nat × Nat × Nat)) (h : Hub) : Hub :=
  bs.foldl (fun (h : Hub) (b : Nat × Nat × Nat × Nat) =>
    let ws := (List.range b.2.2.2).map fun k => src (b.2.1 + 4 * k)
    let h := h.transaction (dmaPriv n) (dmaPort n) b.2.1 (4 * b.2.2.2) false
      (if d.toStream then some (h.fld (CIS_STREAM_CFG_CLASS d.stream)) else none)
    if d.toStream then h else
    ((h.setMemWords b.2.2.1 ws).transaction (dmaPriv n) (dmaPort n) b.2.2.1 (4 * b.2.2.2) true none).tally (144 + n)
      (4 * b.2.2.2)) h

/-- The words of the bursts moved enter the destination stream as one set, whose MT is the slot in which the transfer started
(R337); a stopped stream discards them (R340). -/
def fillStream (n : Nat) (src : Nat → Word) (d : Desc) (bs : List (Nat × Nat × Nat × Nat)) (h : Hub) : Hub :=
  let t := (h.chan n).began
  let ws := bs.flatMap fun b => (List.range b.2.2.2).map fun k => Cont.word (src (b.2.1 + 4 * k))
  if !d.toStream || ws.isEmpty || !h.takes d.stream t then h else
  (h.produceSet d.stream { fmt := fmtWords, mt := h.mtAt t, slot := t, setw := ws.length, follows := false
                           hold := h.flag MT_STATE_HOLDOVER, re := h.mt.span == .opened, conts := ws }).tally (144 + n) (4 * ws.length)

/-- Bursts of a transfer are done: their words are in memory, or in the stream. -/
def moved (n : Nat) (src : Nat → Word) (d : Desc) (bs : List (Nat × Nat × Nat × Nat)) (h : Hub) : Hub :=
  (h.tick.moveBursts n src d bs).fillStream n src d bs

/-- Words moved by the first bursts of an order. -/
def wordsOf (bs : List (Nat × Nat × Nat × Nat)) : Nat := (bs.map fun b => b.2.2.2).sum

/-! ### Ending a descriptor (R340) -/

/-- The hub writes W6 and W7, then W0 with OWN = 0, and the status of the channel. -/
def writeStatus (n i status w7 : Nat) (late : Bool) (h : Hub) : Hub :=
  let h := h.setMemWords (descAt i + 24) [BitVec.ofNat 32 (status * 2 ^ 28 + ofBool late * 2 ^ 27), BitVec.ofNat 32 w7]
  let h := h.setMemWord (descAt i) (h.memWord (descAt i) &&& 0x7FFFFFFF)
  (h.put (DMA_CH_STAT_LAST_STATUS n) status).put (DMA_CH_STAT_ABORT_LATE n) (ofBool late)

/-- The event a status raises (R340, R349). A DOMAIN_OFF names the memory being gated, or the first one touched that is off. -/
def statusEvent (n i status w7 words : Nat) (d : Desc) (late : Bool) (gated : Option Nat) (h : Hub) : Hub :=
  match status with
  | 1 => if d.evt || late then h.raise (112 + n) 1 [i, words, ofBool late] else h
  | 2 => h.raise (112 + n) 2 [i, w7 / 65536, w7 % 65536]
  | 4 =>
    let m := gated.getD (((touches d).find? fun m => !h.memOn m).getD ((touches d).headD 0))
    h.raise (112 + n) 4 [i, m, w7 / 65536, w7 % 65536]
  | _ => h.raise (112 + n) 3 [i, status]

/-- A descriptor ends with a status after `words` words; a COMPLETE paces the channels chained to it (R339). -/
def endDesc (n i status words : Nat) (late : Bool) (h : Hub) (gated : Option Nat := none) : Hub :=
  let d := h.desc i
  let w7 := if status = 1 then 0 else d.residue words
  let h := (h.writeStatus n i status w7 late).statusEvent n i status w7 words d late gated
  let h := match (h.chan n).feeds with
    | some s => (h.setChan n { h.chan n with feeds := none }).settleStop s
    | none => h
  if status ≠ 1 then h else
  let ns := (List.range 32).filter fun k =>
    h.flag (DMA_CH_CFG_EN k) && h.fld (DMA_CH_CFG_PACE k) == 2 && h.fld (DMA_CH_CFG_PACE_ARG k) % 32 == n
  { h with mem := { h.mem with paceDue := h.mem.paceDue ++ ns } }

/-- The channel waits for its next start: CUR is the head. -/
def rest (n : Nat) (h : Hub) : Hub :=
  (h.put (DMA_CH_STAT_STATE n) (if h.fld (DMA_CH_CFG_PACE n) = 0 then 0 else 1)).put (DMA_CH_STAT_CUR n) (h.fld (DMA_CH_CFG_HEAD n))

/-- The channels that a stall of the management plane stops (R4). -/
def firmwareChan (n : Nat) : Bool := decide (n < 24) || (decide (28 ≤ n) && decide (n ≤ 30))

/-- The channel takes up descriptor `i`: one that a check refuses ends at once, and the chain goes on (R337, R339). -/
def beginDesc (n : Nat) (fuel i : Nat) (h : Hub) : Hub :=
  match fuel with
  | 0 => h
  | fuel + 1 =>
    let h := h.put (DMA_CH_STAT_CUR n) i
    if h.poisoned (descAt i) 8 then
      -- the channel stops the descriptor; where the word that holds NEXT is lost, the chain ends with it
      let lost := h.poisoned (descAt i) 1
      let d := h.desc i
      let h := (h.raiseUncorr 21 (descAt i) (dmaPort n)).endDesc n i stEcc 0 false
      if lost then h.put (DMA_CH_STAT_STATE n) 0
      else if d.last then h.rest n
      else if (h.desc d.next).own then beginDesc n fuel d.next h
      else (h.put (DMA_CH_STAT_CUR n) d.next).put (DMA_CH_STAT_STATE n) 0
    else
      let d := h.desc i
      let status := h.checkDesc n d
      if status = 0 then
        (h.put (DMA_CH_STAT_STATE n) (if h.boot.stalled && firmwareChan n then 4 else 2)).setChan n { h.chan n with began := h.now, feeds := if d.toStream then some d.stream else none }
      else
        let h := h.endDesc n i status 0 false
        if d.last then h.rest n
        else if (h.desc d.next).own then beginDesc n fuel d.next h
        else (h.put (DMA_CH_STAT_CUR n) d.next).put (DMA_CH_STAT_STATE n) 0

/-- After a descriptor the channel goes on to NEXT, or rests (R339). -/
def goOn (n : Nat) (d : Desc) (h : Hub) : Hub :=
  if d.last then h.rest n
  else if (h.desc d.next).own then h.beginDesc n 2048 d.next
  else (h.put (DMA_CH_STAT_CUR n) d.next).put (DMA_CH_STAT_STATE n) 0

/-! ### Starting (R339) -/

/-- The channel runs a descriptor, or its abort is not yet taken. -/
def chanBusy (h : Hub) (n : Nat) : Bool := decide (2 ≤ h.fld (DMA_CH_STAT_STATE n))

/-- A start that is not queued is counted, and reported at most once per turn. -/
def missStart (n : Nat) (h : Hub) : Hub :=
  let h := h.bump (DMA_CH_STAT_PACE_MISSED n) 1
  let c := h.chan n
  if c.missedReported then h.setChan n { c with missed := c.missed + 1 }
  else (h.setChan n { c with missedReported := true, missed := 0 }).raise (112 + n) 5 [c.missed + 1]

/-- A start of channel `n`, from its head or from a given index. -/
def startChan (n : Nat) (head : Option Nat) (h : Hub) : Hub :=
  if !h.flag (DMA_CH_CFG_EN n) then h else
  let i := match head with | some k => k % 2048 | none => h.fld (DMA_CH_CFG_HEAD n)
  if h.chanBusy n then h.missStart n else
  let d := h.desc i
  if !d.own && !d.repeats then h.missStart n else
  let h := if d.repeats then
      (h.setMemWord (descAt i) (h.memWord (descAt i) ||| 0x80000000)).setMemWords (descAt i + 24) [0, 0]
    else h
  h.beginDesc n 2048 i

/-- A due pace starts its channel, unless the channel ignores paces (R339, R356). -/
def paceChan (n : Nat) (h : Hub) : Hub :=
  if !h.mem.paceDue.contains n then h else
  let h : Hub := { h with mem := { h.mem with paceDue := h.mem.paceDue.erase n } }
  if (h.chan n).ignorePace then h else h.startChan n none

/-- PACE_CTL of DMA.CH_CMD (R356). -/
def setIgnore (n : Nat) (b : Bool) (h : Hub) : Hub := h.setChan n { h.chan n with ignorePace := b }

/-! ### Completion (R340) -/

/-- The current descriptor of a channel completes: its words have moved. An uncorrectable word stops it before the burst that
read it; a stopped stream discards the words. An abort that comes after the last burst was issued is late (R341). -/
def completeChan (n : Nat) (h : Hub) : Hub :=
  let st := h.fld (DMA_CH_STAT_STATE n)
  if st != 2 && st != 3 then h else
  let i := h.fld (DMA_CH_STAT_CUR n)
  let d := h.desc i
  let bs := burstOrder d
  let stop := h.eccStop bs
  let go := match stop with | some k => bs.take k | none => bs
  let src := h.memWord
  let open_ := !d.toStream || h.takes d.stream (h.chan n).began
  let h := h.moved n src d go
  let words := wordsOf go
  let h := match stop with
    | some k =>
      let a := (bs.getD k (0, 0, 0, 0)).2.1
      h.raiseUncorr ((memOf a).getD 0) a (dmaPort n)
    | none => h
  let late := st == 3
  if stop.isSome then (h.endDesc n i stEcc words false).goOn n d
  else if !open_ then (h.endDesc n i stStopped 0 late).goOn n d
  else
    let h := h.endDesc n i stComplete words late
    if late && !d.last then (h.put (DMA_CH_STAT_CUR n) d.next).put (DMA_CH_STAT_STATE n) 0 else h.goOn n d

/-! ### Aborts (R341) -/

/-- An abort is requested. A channel that waits with an owned head has it ended at once; one that runs takes the abort at its
next burst boundary; an idle one, or one with a REPEAT head it does not own, does nothing. -/
def abortChan (n : Nat) (h : Hub) : Hub :=
  let st := h.fld (DMA_CH_STAT_STATE n)
  if st = 2 ∨ st = 4 then h.put (DMA_CH_STAT_STATE n) 3
  else if st = 1 then
    let i := h.fld (DMA_CH_CFG_HEAD n)
    let d := h.desc i
    if d.own then
      let h := (h.endDesc n i stAborted 0 false).put (DMA_CH_STAT_STATE n) 0
      if d.last then h else h.put (DMA_CH_STAT_CUR n) d.next
    else h
  else h

/-- The abort is taken after `k` bursts: with bursts left the descriptor ends ABORTED with its residue (R341). -/
def abortTaken (n k : Nat) (h : Hub) : Hub :=
  if h.fld (DMA_CH_STAT_STATE n) != 3 then h else
  let i := h.fld (DMA_CH_STAT_CUR n)
  let d := h.desc i
  let bs := burstOrder d
  if bs.length ≤ k then h.completeChan n else
  let src := h.memWord
  let h := (h.moved n src d (bs.take k)).endDesc n i stAborted (wordsOf (bs.take k)) false
  if d.last then h.rest n else (h.put (DMA_CH_STAT_CUR n) d.next).put (DMA_CH_STAT_STATE n) 0

/-! ### Domains that go off (R342) -/

/-- The descriptors queued behind one end with DOMAIN_OFF and full residue. -/
def endChain (n m fuel i : Nat) (h : Hub) : Hub :=
  match fuel with
  | 0 => h
  | fuel + 1 =>
    let d := h.desc i
    if !d.own then h.put (DMA_CH_STAT_CUR n) i else
    let h := h.endDesc n i stDomainOff 0 false (some m)
    if d.last then h.put (DMA_CH_STAT_CUR n) i else endChain n m fuel d.next h

/-- The channels whose current descriptor touches a memory to be gated stop, as many bursts written as a free value says, and
their chains end. -/
def gateChannels (m : Nat) (h : Hub) : Hub :=
  (List.range 32).foldl (fun (h : Hub) n =>
    if !h.chanBusy n then h else
    let i := h.fld (DMA_CH_STAT_CUR n)
    let d := h.desc i
    if !(touches d).contains m then h else
    let bs := burstOrder d
    let k := Config.burstsDone n h.fresh % bs.length
    let src := h.memWord
    let h := (h.moved n src d (bs.take k)).endDesc n i stDomainOff (wordsOf (bs.take k)) false (some m)
    let h := if d.last then h else h.endChain n m 2048 d.next
    h.put (DMA_CH_STAT_STATE n) 0) h

/-! ### Service dumps (R343) -/

/-- GO: none where a dump runs. -/
def startDump (a words : Nat) (h : Hub) : Option Hub :=
  if h.flag DMA_DUMP_BUSY then none else
  let h := (h.setReg DMA_DUMP_W0 (BitVec.ofNat 32 a)).put DMA_DUMP_WORDS_M1 (words - 1)
  let h : Hub := { h.put DMA_DUMP_BUSY 1 with mem := { h.mem with dump := some (a, words, h.mtNow) } }
  some (h.raise 143 6 [a, words])

/-- Words of a dump in packets of at most 1,024. -/
def dumpPackets (mt : MT) (fuel : Nat) (ws : List Word) (h : Hub) : Hub :=
  match fuel with
  | 0 => h
  | fuel + 1 =>
    if ws.isEmpty then h else
    let h := (h.closePacket 0 false).openPacket 0 0
      { fmt := fmtWords, mt := mt, slot := h.now, hold := h.flag MT_STATE_HOLDOVER, re := h.mt.span == .opened }
    let h := match (h.ring 0).open? with
      | some p => (h.setRing 0 { h.ring 0 with open? := some { p with conts := (ws.take 1024).map Cont.word } }).closePacket 0 false
      | none => h
    dumpPackets mt fuel (ws.drop 1024) h

/-- The dump ends with a status after `n` words, which have entered stream 0. -/
def endDump (n status : Nat) (h : Hub) : Hub :=
  match h.mem.dump with
  | none => h
  | some (a, _, mt) =>
    let ws := (List.range n).map fun k => h.memWord (a + 4 * k)
    let h := h.tick
    let h := if n = 0 then h else (h.transaction (dmaPriv 31) (dmaPort 31) a (4 * n) false (some 2)).tally 175 (4 * n)
    let h := h.dumpPackets mt 65 ws
    let h : Hub := { h.put DMA_DUMP_BUSY 0 with mem := { h.mem with dump := none } }
    h.raise 143 7 [a, n, status]

/-- The dump is done: every word has moved, or those before what stopped it: a malformed address, one outside a window, a memory
that is off, or an uncorrectable word. -/
def dumpDone (h : Hub) : Hub :=
  match h.mem.dump with
  | none => h
  | some (a, words, _) =>
    let m := memOf a
    if a % 4 ≠ 0 then h.endDump 0 stBadDesc
    else if m.isNone || m != memOf (a + 4 * words - 1) then h.endDump 0 stBadAddr
    else if m.any fun m => !h.memOn m then h.endDump 0 stDomainOff
    else match (List.range words).find? fun k => h.poisoned (a + 4 * k) 1 with
      | some k => (h.endDump (k / 64 * 64) stEcc).raiseUncorr (m.getD 0) (a + 4 * k) (dmaPort 31)
      | none => h.endDump words stComplete

/-- A dump of a memory to be gated stops, as many of its words moved as a free value says. -/
def gateDump (m : Nat) (h : Hub) : Hub :=
  match h.mem.dump with
  | none => h
  | some (a, words, _) =>
    if memOf a != some m || a % 4 != 0 || memOf (a + 4 * words - 1) != some m then h else
    h.endDump (min words (64 * Config.burstsDone 31 h.fresh)) stDomainOff

/-- The memory of a domain is to be gated: what moves words from or to it stops (R342). -/
def gateMemory (m : Nat) (h : Hub) : Hub := (h.gateChannels m).gateDump m

/-! ### Events (R346, R357) -/

/-- The MT a record carries. -/
def recordMt (r : List Word) : MT := MT.unpack ((r.getD 1 0).toNat * 2 ^ 32 + (r.getD 2 0).toNat)

/-- The producer of stream 0 takes the oldest waiting record; a record held back joins the queue. -/
def takeRecord (h : Hub) : Hub :=
  match h.evt.queue with
  | [] => h
  | r :: rest =>
    let (q, sp) := match h.evt.spill with
      | [] => (rest, [])
      | p :: more => (rest ++ [p.2], more)
    ({ h with evt := { h.evt with queue := q, spill := sp } } : Hub).produceRecord 0 (recordMt r) r

/-- Merging is reported once per second while it occurs. -/
def reportMerged (h : Hub) : Hub :=
  if h.evt.mergedNew = 0 then h else
  let n := h.evt.mergedSrc.length
  ({ h with evt := { h.evt with mergedSrc := [], mergedNew := 0 } } : Hub).raise 249 0 [n, h.evt.merged]

/-- The firmware clears pending entries; FW_EXTRA of each returns to 0 (R357). -/
def clearPend (w : Nat) (mask : Word) (h : Hub) : Hub :=
  let m := BitVec.ofNat 256 (mask.toNat * 2 ^ (32 * w))
  { h with evt := { h.evt with
    pend := h.evt.pend &&& ~~~m
    extra := h.evt.extra.filter fun p => !(p.1 / 32 == w && bit mask.toNat (p.1 % 32)) } }

/-! ### Counters (R351-R355) -/

/-- A counter's value: REFCLK periods run on with LT, but in the Quiescent state (R351). -/
def counterValue (h : Hub) (i : Nat) : Nat :=
  let n := SMap.get (fun _ => 0) h.pmc.count i
  if i = 185 ∧ h.bootStep ≠ 8 then (n + (h.lt - h.pmc.refAt) / 10) % 2 ^ 48 else n

/-- What a counter counted since the window began. -/
def counted (h : Hub) (i : Nat) : Nat := (h.counterValue i + 2 ^ 48 - SMap.get (fun _ => 0) h.pmc.base i) % 2 ^ 48

/-- A quotient, where the spec does not state its rounding. -/
def quot (n d : Nat) : Nat := if d ≠ 0 ∧ n % d = 0 then n / d else Config.quotient n d

/-- A PMC window ends (R354): `cycles` is what counters 0-67, 186 and 191 counted in it; what other masters moved is free. -/
def pmcWindow (cycles : List Nat) (h : Hub) : Hub :=
  let h := (List.range 68).foldl (fun (h : Hub) i => h.tally i (cycles.getD i 0)) h
  let h := (h.tally 186 (cycles.getD 68 0)).tally 191 (cycles.getD 69 0)
  let h := [68, 69, 70, 71, 72, 73, 74, 75, 80, 81, 82, 83].foldl (fun (h : Hub) i => h.tally i (Config.traffic i h.fresh)) h
  let h := (List.range 8).foldl (fun (h : Hub) f =>
    let own := h.flag (PMC_FILT_MASTER_EN f) && (h.fld (PMC_FILT_MASTER f) == 4 || h.fld (PMC_FILT_MASTER f) == 5)
    if h.flag (PMC_FILT_EN f) && !own then
      (h.tally (100 + 2 * f) (Config.traffic (100 + 2 * f) h.fresh)).tally (101 + 2 * f) (Config.traffic (101 + 2 * f) h.fresh)
    else h) h
  let us := h.fld PMC_WINDOW_US
  let h := (List.range 8).foldl (fun (h : Hub) p =>
    (h.put (PMC_BW_RD_MBS p) (quot (h.counted (68 + 2 * p)) us)).put (PMC_BW_WR_MBS p) (quot (h.counted (69 + 2 * p)) us)) h
  let h := (List.range 17).foldl (fun (h : Hub) e =>
    let n (k : Nat) : Nat := h.counted (4 * e + k)
    let all := n 0 + n 1 + n 2 + n 3
    let share (k : Nat) : Nat := if all = 0 then 0 else quot (1000 * n k) all
    (((h.put (PMC_TD_RETIRED e) (share 0)).put (PMC_TD_WASTED e) (share 1)).put (PMC_TD_FRONT e) (share 2)).put
      (PMC_TD_BACK e) (share 3)) h
  let base := ((List.range 192).map fun i => (i, h.counterValue i)).filter fun p => decide (p.2 ≠ 0)
  ({ h with pmc := { h.pmc with base := base } } : Hub).tick

/-- The newest waiting record of a source takes one more occurrence in: the one the source holds back, else the last queued. -/
def mergeNewest (src : Nat) (ev : Events) : Events :=
  let is (r : List Word) : Bool := bits (r.getD 0 0).toNat 27 20 == src
  if ev.spill.any (fun p => p.1 == src) then
    { ev with spill := ev.spill.map fun p => if p.1 = src then (p.1, mergeRecord p.2) else p }
  else match ev.queue.reverse.findIdx? is with
    | some k => { ev with queue := ev.queue.modify (ev.queue.length - 1 - k) mergeRecord }
    | none => ev

/-- The sampled counter crosses a multiple of its period (R355). An engine that runs no such recipe is idle. -/
def counterSample (r stage kernel : Nat) (h : Hub) : Hub :=
  if !h.flag PMC_SAMPLE_CFG_EN then h else
  let e := h.fld PMC_SAMPLE_CFG_ENGINE
  let (r, stage) := if h.loaded.contains r && h.fld (SE_RECIPE_STAT_ENGINE r) == e then (r, stage) else (0xFF, 0)
  let due := match h.evt.sampleAt with | some t => decide (t + 10000 ≤ h.lt) | none => true
  let c := h.fld PMC_SAMPLE_CFG_COUNTER
  if due then
    let h : Hub := { h with evt := { h.evt with sampleAt := some h.lt } }
    h.raise 248 0 ([c] ++ wide (h.counterValue c) ++ [e, r, stage, kernel])
  else
    { h with evt := { mergeNewest 248 h.evt with
      total := SMap.set (fun _ => 0) h.evt.total 248 (satAdd (2 ^ 24 - 1) (SMap.get (fun _ => 0) h.evt.total 248) 1) } }

end Hub

/-! ### The commands -/

/-- A write to DMA.CH_CMD[n]: user channels over any path, the others from the MC path only (R356). -/
def chanCmd (p : Path) (n : Nat) (f : Hub → Hub) (s : State) : Host.Outcome State Fault Refusal :=
  s.onHub (Hub.writeCmd p (DMA_CH_CMD n) .LV fun h =>
    if p == .mc || (decide (24 ≤ n) && decide (n ≤ 27)) then some (f h) else none)

def execStart (path : Path) (chan : Nat) (head : Option Nat) (s : State) : Host.Outcome State Fault Refusal :=
  chanCmd path chan (Hub.startChan chan head) s
def execAbort (path : Path) (chan : Nat) (s : State) : Host.Outcome State Fault Refusal := chanCmd path chan (Hub.abortChan chan) s
def execAborted (chan bursts : Nat) (s : State) : Host.Outcome State Fault Refusal := s.onHub (Hub.abortTaken chan bursts)
def execPaceIgnore (path : Path) (chan : Nat) (s : State) : Host.Outcome State Fault Refusal :=
  chanCmd path chan (Hub.setIgnore chan true) s
def execPaceAccept (path : Path) (chan : Nat) (s : State) : Host.Outcome State Fault Refusal :=
  chanCmd path chan (Hub.setIgnore chan false) s
def execPace (chan : Nat) (s : State) : Host.Outcome State Fault Refusal := s.onHub (Hub.paceChan chan)
def execComplete (chan : Nat) (s : State) : Host.Outcome State Fault Refusal := s.onHub (Hub.completeChan chan)
def execDump (path : Path) (addr words : Nat) (s : State) : Host.Outcome State Fault Refusal :=
  s.onHub (Hub.writeCmd path DMA_DUMP_W1 .LV (Hub.startDump addr words))
def execDumpDone (s : State) : Host.Outcome State Fault Refusal := s.onHub Hub.dumpDone
def execEventRecord (s : State) : Host.Outcome State Fault Refusal := s.onHub Hub.takeRecord
def execEvtMerged (s : State) : Host.Outcome State Fault Refusal := s.onHub Hub.reportMerged
def execPendClear (path : Path) (word : Nat) (mask : Word) (s : State) : Host.Outcome State Fault Refusal :=
  s.onHub (Hub.writeCmd path (EVT_PEND word) .W1C fun h => if path == .mc then some (h.clearPend word mask) else none)
def execPmcWindow (cycles : List Nat) (s : State) : Host.Outcome State Fault Refusal := s.onHub (Hub.pmcWindow cycles)
def execCounterSample (recipe stage kernel : Nat) (s : State) : Host.Outcome State Fault Refusal :=
  s.onHub (Hub.counterSample recipe stage kernel)
def execRowRepaired (mem rowIdx : Nat) (s : State) : Host.Outcome State Fault Refusal := s.onHub (Hub.rowRepaired mem rowIdx)

/-- A second ends: the memories with corrected words are reported (R350). -/
def execEccCorrected (s : State) : Host.Outcome State Fault Refusal :=
  s.onHub fun h =>
    if h.mem.eccSec.isEmpty then h else
    let m := (List.range 22).foldl (fun n k => if h.mem.eccSec.contains k then n + 2 ^ k else n) 0
    ({ h with mem := { h.mem with eccSec := [] } } : Hub).raise 240 0 [m]

/-- The zero-fill of a powered-up memory ends (R328). -/
def execFillDone (mem : Nat) (s : State) : Host.Outcome State Fault Refusal :=
  s.onHub fun h =>
    if !h.mem.filling.contains mem then h else
    ({ h with mem := { h.mem with filling := h.mem.filling.filter fun m => m != mem } } : Hub).raise 246 0 [mem]

end Sys2Proof.Machine
end

