-- ==== Sys2Proof/Machine/Ed25519.lean ====
section
/-!
DEFINITION. The signature check of R392: pure Ed25519 as in RFC 8032, with SHA-512 as in FIPS 180-4. Strings of bytes are
little-endian numbers, as RFC 8032 has them.
-/

namespace Sys2Proof.Machine

/-! ### The curve -/

/-- The prime of the field, the order of the base point, and the constant d of the curve. -/
def edP : Nat := 2 ^ 255 - 19
def edL : Nat := 2 ^ 252 + 27742317777372353535851937790883648493
def edD : Nat := 37095705934669439343138083508754565189542113879843219016388785533085940283555

/-- b ^ e modulo the prime, over the `k` low bits of e. -/
def edPow (k b e : Nat) : Nat :=
  match k with
  | 0 => 1
  | k + 1 =>
    let r := edPow k (b * b % edP) (e / 2)
    if e % 2 = 1 then r * b % edP else r

/-- A point in extended coordinates X, Y, Z, T. -/
structure EdPoint where
  x : Nat := 0
  y : Nat := 1
  z : Nat := 1
  t : Nat := 0
  deriving DecidableEq, Repr

/-- The sum of two points (RFC 8032, section 5.1.4). -/
def EdPoint.add (p q : EdPoint) : EdPoint :=
  let a := (p.y + edP - p.x) * (q.y + edP - q.x) % edP
  let b := (p.y + p.x) * (q.y + q.x) % edP
  let c := 2 * p.t * q.t % edP * edD % edP
  let d := 2 * p.z * q.z % edP
  let e := b + edP - a
  let f := d + edP - c
  let g := d + c
  let h := b + a
  { x := e * f % edP, y := g * h % edP, z := f * g % edP, t := e * h % edP }

/-- n times a point, over the `k` low bits of n. -/
def EdPoint.mul (k n : Nat) (p : EdPoint) : EdPoint :=
  match k with
  | 0 => {}
  | k + 1 =>
    let r := EdPoint.mul k (n / 2) (p.add p)
    if n % 2 = 1 then r.add p else r

/-- Two points are the same. -/
def EdPoint.same (p q : EdPoint) : Bool := p.x * q.z % edP == q.x * p.z % edP && p.y * q.z % edP == q.y * p.z % edP

/-- The number that bytes spell, least significant first. -/
def leNat (bs : List Byte) : Nat := bs.foldr (fun b a => a * 256 + b.toNat) 0

/-- The point that 32 bytes encode; none where they encode none (RFC 8032, section 5.1.3). -/
def edDecode (bs : List Byte) : Option EdPoint :=
  let w := leNat bs
  let sign := w / 2 ^ 255 % 2
  let y := w % 2 ^ 255
  if edP ≤ y then none else
  let u := (y * y + edP - 1) % edP
  let v := (edD * (y * y % edP) + 1) % edP
  let v3 := v * v % edP * v % edP
  let x := u * v3 % edP * edPow 255 (u * (v3 * v3 % edP * v % edP) % edP) ((edP - 5) / 8) % edP
  let vx := v * (x * x % edP) % edP
  let root := if vx = u then some x
    else if vx = (edP - u) % edP then some (x * edPow 255 2 ((edP - 1) / 4) % edP) else none
  match root with
  | none => none
  | some x =>
    if x = 0 ∧ sign = 1 then none else
    let x := if x % 2 = sign then x else (edP - x) % edP
    some { x := x, y := y, z := 1, t := x * y % edP }

/-- The base point. -/
def edBase : EdPoint :=
  { x := 15112221349535400772501151409588531511454012693041857206046113283949847762202
    y := 46316835694926478169428394003475163141307993866256225615783033603165251855960
    z := 1
    t := 46827403850823179245072216630277197565144205554125654976674165829533817101731 }

/-- The signature of 64 bytes verifies for a message under a public key of 32 bytes (RFC 8032, section 5.1.7). -/
def ed25519 (key sig msg : List Byte) : Bool :=
  let r := sig.take 32
  let s := leNat (sig.drop 32)
  match edDecode key, edDecode r with
  | some a, some p =>
    let k := leNat (sha512 (r ++ key ++ msg)) % edL
    decide (s < edL) && (edBase.mul 256 s).same (p.add (a.mul 256 k))
  | _, _ => false

end Sys2Proof.Machine
end

