-- ==== Sys2Proof/Machine/CellCmds.lean ====
section
/-!
DEFINITION. The register commands of input cells and conversion, the comparator crossing and the spare's handover
(R70, R75, R83, R98, R100-R102, R112, R115, R129, R130).
-/

namespace Sys2Proof.Machine

namespace Hub

/-- A write over a path whose refusal has an effect of its own: `f` says whether it is taken. -/
def writeCmdWith (p : Path) (addr : Nat) (f : Hub → Bool × Hub) (h : Hub) : Hub :=
  match h.pathWrites p with
  | .done =>
    if !h.writable .LV then h.report p .locked addr true else
    let (ok, h) := f h
    if ok then h else h.report p .locked addr true
  | o => h.report p o addr true

/-- Whether the staged map is a permutation of the local inputs (R111). -/
def mapLocals (ws : List Word) : List Nat :=
  (List.range 32).map fun j => bits (ws.getD (j / 4) 0).toNat (8 * (j % 4) + 4) (8 * (j % 4))

def isPerm (ls : List Nat) : Bool := (List.range 32).all fun i => ls.contains i

/-- Every INTERLOCK input of the ADC holds a lower slot than every other one (R112). -/
def ilkFirst (h : Hub) (a : Nat) (ls : List Nat) : Bool :=
  let fs := ls.map fun i => h.flag (CNV_CH_CFG_ILK (32 * a + i))
  !((fs.dropWhile id).any id)

/-- A write of CNV.MAP_COMMIT (R115): the staged words are taken, checked and held for the next tick, or refused. -/
def commitMap (a : Nat) (h : Hub) : Hub :=
  let ws := (List.range 8).map fun w => h.reg (CNV_MAP_STAGE w)
  let ls := mapLocals ws
  let result := if h.cnv.mapDue.isSome then 1 else if !isPerm ls then 2 else if !h.ilkFirst a ls then 3 else 0
  let h := ((h.put CNV_MAP_STATUS_RESULT result).put CNV_MAP_STATUS_ADC a).put CNV_MAP_COMMIT_ADC a
  if result = 0 then { h.put CNV_MAP_STATUS_PENDING 1 with cnv := { h.cnv with mapDue := some (a, ws) } }
  else h.raise (32 + a) 4 [result]

end Hub

def execCellCfgWrite (path : Path) (input : Nat) (value : Word) (s : State) : Host.Outcome State Fault Refusal :=
  s.onHub (Hub.writeCmdWith path (AFE_CELL_CFG input) (Hub.writeCellCfg input value))
def execQcumZero (path : Path) (group mask : Nat) (s : State) : Host.Outcome State Fault Refusal :=
  s.onHub (Hub.writeCmd path (AFE_QCUM_ZERO group) .LV fun h => some (h.requestZero group mask))
def execDipCapture (path : Path) (group mask : Nat) (s : State) : Host.Outcome State Fault Refusal :=
  s.onHub (Hub.writeCmd path (AFE_DIP_CAPTURE group) .LV fun h => some (h.requestCapture group mask))
def execFaultClr (path : Path) (group mask : Nat) (s : State) : Host.Outcome State Fault Refusal :=
  s.onHub (Hub.writeCmd path (AFE_FAULT_CLR group) .LV fun h => some (h.requestClear group mask))
def execComparatorCrossing (input : Nat) (high rises : Bool) (fine : Nat) (s : State) : Host.Outcome State Fault Refusal :=
  s.onHub (Hub.crossing input high rises fine)
def execMapCommit (path : Path) (adc : Nat) (s : State) : Host.Outcome State Fault Refusal :=
  s.onHub (Hub.writeCmd path CNV_MAP_COMMIT .LV fun h => some (h.commitMap adc))
def execSpareFix (path : Path) (group : Nat) (en : Bool) (input : Nat) (s : State) : Host.Outcome State Fault Refusal :=
  s.onHub (Hub.writeCmd path (CNV_SPARE_FIX group) .LV (Hub.fixSpare group en input))

end Sys2Proof.Machine
end

