-- ==== Sys2Proof/Machine/TtCheck.lean ====
section
/-!
DEFINITION. What a Timetable entry is refused for (R46): the launch spacing (R179), the declared minima (R397), the launch groups
(R178); and the live commit (R55, R56).
-/

namespace Sys2Proof.Machine

/-- The least distance in slots that two grids come to: each from its start on with its period, 0 for a single instance. -/
def gridDistance (b1 : Int) (p1 : Nat) (b2 : Int) (p2 : Nat) : Nat :=
  let g := Nat.gcd p1 p2
  if g = 0 then (b1 - b2).natAbs else
  let d := ((b1 - b2) % (g : Int)).toNat
  min d (g - d)

/-- The launch groups a mode allows (R178); each series as start, period and mask. -/
def groupsAllowed (mode : Nat) (ss : List (Int × Nat × Nat)) : Bool :=
  let sorted := ss.mergeSort fun a b => decide (a.1 ≤ b.1)
  match sorted with
  | [] => mode != 3
  | (b0, p, m0) :: _ =>
    let k := sorted.length
    match mode with
    | 0 =>
      decide (2 ≤ k) && decide (k ≤ 4) && decide (p % k = 0) &&
        (sorted.zip (List.range k)).all fun ((b, q, m), j) =>
          q == p && decide (b = b0 + (p / k * j : Nat)) && [1, 2, 4, 8].contains m
    | 1 => k == 1 && m0 != 0 && decide (m0 < 16)
    | 2 =>
      k == 2 && decide (p % 2 = 0) &&
        (sorted.zip (List.range k)).all (fun ((b, q, _), j) => q == p && decide (b = b0 + (p / 2 * j : Nat))) &&
        (sorted.any fun (_, _, m) => m == 3) && sorted.any fun (_, _, m) => m == 12
    | _ => false

namespace Hub

/-- A span of slots covers `ns` nanoseconds at the declared maximum BCLK (R179). -/
def coversAtMax (h : Hub) (slots ns : Nat) : Bool := decide (ns * h.boot.cap.bclkMax ≤ slots * 1000000)

/-- T_win and 2 × T_dwin in ns (R179). -/
def tWin (h : Hub) : Nat := h.ngates * h.tGate + 1000
def tDwin2 (h : Hub) : Nat := 2 * (h.nbins * h.tGate + 1000)

/-- The period of an entry is not below the declared minimum of its type (R397). -/
def periodDeclared (h : Hub) (e : TtEntry) : Bool :=
  e.period == 0 || decide ((match e.type with | 1 => h.boot.cap.tMin | 2 => h.boot.cap.launchMin | 3 => h.boot.cap.dtsMin | _ => 0) ≤ e.period)

/-- Entry `i`, placed as `e`, keeps the spacing of its launches, among themselves and to the other entries of its kind
(R179). -/
def launchSpaced (h : Hub) (i : Nat) (e : TtEntry) : Bool :=
  let ns := if e.type = 2 then h.tWin else h.tDwin2
  (e.period == 0 || h.coversAtMax e.period ns) && h.tt.entries.all fun (j, f) =>
    j == i || f.type != e.type || (e.type == 2 && (bits e.arg 3 0 &&& bits f.arg 3 0) == 0) ||
      h.coversAtMax (gridDistance e.base e.period f.base f.period) ns

/-- The launch series of the Timetable keep the rules of the mode (R178). -/
def groupsKept (h : Hub) : Bool :=
  groupsAllowed (h.fld FI_CTRL_MODE)
    ((h.tt.entries.filter fun p => p.2.type == 2).map fun p => (p.2.base, p.2.period, p.2.arg))

/-- The RESULT for entry `i` with content `raw` (R46, R56): the launch groups are judged as they would stand with it. -/
def commitResult (h : Hub) (i : Nat) (raw : BitVec 128) : Nat :=
  let e : TtEntry := h.placedEntry raw
  let launches := e.type == 2 || (h.entry i).type == 2
  let r := entryResult h.spt h.boot.cap.tMin ((e.type != 2 && e.type != 3) || (h.periodDeclared e && h.launchSpaced i e)) true e
  if r = 0 && launches && !(h.setEntry i e).groupsKept then 4 else r

/-- A write to MT.TT_COMMIT (R55, R56): whether it is one R12 permits. -/
def ttCommit (i : Nat) (h : Hub) : Bool × Hub :=
  let i := i % 1024
  let refuse (r : Nat) (h : Hub) : Hub :=
    ((h.put MT_TT_COMMIT_STATUS_RESULT r).put MT_TT_COMMIT_STATUS_INDEX i).raise 202 0 [i, r]
  if i < 768 then (false, refuse 1 h) else
  let h := h.put MT_TT_COMMIT_INDEX i
  if h.tt.commit.isSome then (true, refuse 5 h) else
  let raw := h.stagedEntry
  let r := h.commitResult i raw
  if r != 0 then (true, refuse r h) else
  let h := ((h.put MT_TT_COMMIT_STATUS_RESULT 0).put MT_TT_COMMIT_STATUS_INDEX i).put MT_TT_COMMIT_STATUS_PENDING 1
  (true, { h with tt := { h.tt with commit := some (i, raw) } })

end Hub

def execTtCommit (path : Path) (index : Nat) (s : State) : Host.Outcome State Fault Refusal :=
  s.onHub (Hub.writeCmdWith path MT_TT_COMMIT (Hub.ttCommit index))

end Sys2Proof.Machine
end

