-- ==== Sys2Proof/Machine/Image.lean ====
section
/-!
DEFINITION. The image: the records of a bank (R388, R389), its trailer, signature and commit (R391-R393), the structural checks
(R394, R395), and the application of its records (R390).
-/

namespace Sys2Proof.Machine

/-! ### Records (R388, R389) -/

/-- A record: type, CRITICAL, its value, and whether its CRC holds. -/
structure ImgRec where
  type : Nat
  critical : Bool
  value : List Byte
  crcOk : Bool
  deriving DecidableEq, Repr

def ImgRec.words (r : ImgRec) : List Word := beWords r.value

/-- Word `i` of the value. -/
def ImgRec.word (r : ImgRec) (i : Nat) : Nat := (r.words.getD i 0).toNat

/-- Bytes the record occupies. -/
def ImgRec.bytes (r : ImgRec) : Nat := 12 + r.value.length

/-- The types of R389. -/
def knownType (t : Nat) : Bool := (decide (1 ≤ t) && decide (t ≤ 10)) || t == 0xF0 || t == 0xF1 || t == 0xFF

/-- The offset of a bank in the flash (R386). -/
def bankAt (b : Nat) : Nat := b % 2 * 0x1000000

/-- A validated image: its configuration records, its trailer's words, and whether a signature was checked. -/
structure Image where
  recs : List ImgRec := []
  trailer : List Word := []
  signed : Bool := false
  deriving DecidableEq, Repr

namespace Hub

/-- The record at a bank offset; none where its length is no multiple of 4 or it reaches past `limit`. -/
def recordAt (h : Hub) (b off limit : Nat) : Option ImgRec :=
  let a := bankAt b + off
  let w0 := h.nvmWord a
  let len := h.nvmWord (a + 4)
  if len % 4 != 0 || decide (limit < off + 12 + len) then none else
  some { type := w0 / 65536, critical := bit w0 7, value := h.nvmRead (a + 8) len
         crcOk := h.nvmWord (a + 8 + len) == crc32c (h.nvmRead a (8 + len)) }

/-- The records from a bank offset up to `stop`, and the offset at which they end; past every bank where one has no room. -/
def walkRecords (h : Hub) (b stop fuel off : Nat) : List ImgRec × Nat :=
  match fuel with
  | 0 => ([], off)
  | n + 1 =>
    if stop ≤ off then ([], off) else
    match h.recordAt b off 0xFF0000 with
    | none => ([], 0x1000000)
    | some r =>
      let (rs, last) := walkRecords h b stop n (off + r.bytes)
      (r :: rs, last)

/-- Generation and trailer offset of a valid commit record (R393, R394). -/
def commitOf (h : Hub) (b : Nat) : Option (Nat × Nat) :=
  match h.recordAt b 0xFFFF00 0x1000000 with
  | none => none
  | some r =>
    if r.type == 0xFF && r.value.length == 16 && r.crcOk && r.word 0 == 0x434F4D54 && r.word 3 == (r.word 1 ^^^ 0xFFFFFFFF) then
      some (r.word 1, r.word 2)
    else none

/-- The signature record that follows the trailer is accepted (R392): KEY_HASH is the digest of its key, and it signs the
trailer's value. -/
def signatureOk (h : Hub) (b off : Nat) (trailer : List Byte) : Bool :=
  match h.recordAt b off 0xFF0000 with
  | none => false
  | some r =>
    let key := r.value.take 32
    r.type == 0xF1 && r.value.length == 96 && r.crcOk && beBytes (sha256 key) == beBytes ((wide256 h.boot.fuses.key))
      && ed25519 key (r.value.drop 32) trailer
where
  /-- The eight words of a hash. -/
  wide256 (k : BitVec 256) : List Word := (List.range 8).map fun i => BitVec.ofNat 32 (k.toNat / 2 ^ (32 * (7 - i)))

/-- The structural checks of R395 on a bank with generation `gen` and its trailer at `tr`, in order: the first refusal, or the
image. -/
def structural (h : Hub) (b gen tr : Nat) : Except Reject Image :=
  match (if tr % 4 = 0 then h.recordAt b tr 0xFF0000 else none) with
  | none => .error { code := 2 }
  | some t =>
    if t.type != 0xF0 || t.value.length != 48 || !t.crcOk || t.word 2 != gen then .error { code := 2 } else
    let (rs, last) := h.walkRecords b tr (tr / 12 + 1) 0
    let infos := rs.countP fun r => r.type == 1
    let caps := rs.countP fun r => r.type == 2
    let sig := bit (t.word 3) 0
    let next := tr + t.bytes
    let sigRec := h.recordAt b next 0xFF0000
    let sigBad := match sigRec with | some r => !r.crcOk | none => !(h.boot.fuses.key != 0)
    let first := rs.headD { type := 0, critical := false, value := [], crcOk := false }
    let ordinal (bad : ImgRec → Bool) : Nat := min 65535 (rs.findIdx bad)
    let fused := h.boot.fuses.key != 0
    if rs.any fun r => !r.crcOk then .error { code := 3, ordinal := ordinal fun r => !r.crcOk }
    else if sig && sigBad then .error { code := 3, ordinal := min 65535 (rs.length + 1) }
    else if last != tr || t.word 1 != tr || t.word 0 != rs.length || first.type != 1 || infos != 1 || caps != 1 then
      .error { code := 4 }
    else if sha256 (h.nvmRead (bankAt b) tr) != t.words.drop 4 then .error { code := 5 }
    else if fused && !(sig && h.signatureOk b next t.value) then .error { code := 6 }
    else if first.word 1 / 65536 != 1 || first.word 1 / 256 % 256 != 0xB1 then .error { code := 7 }
    else if rs.any fun r => r.critical && !knownType r.type then
      .error { code := 8, ordinal := ordinal fun r => r.critical && !knownType r.type }
    else if rs.any fun r => r.type == 7 && !Config.patchSigned r.value then
      .error { code := 9, ordinal := ordinal fun r => r.type == 7 && !Config.patchSigned r.value }
    else .ok { recs := rs, trailer := t.words, signed := fused }

end Hub

/-! ### Recipes (R145) -/

/-- The stage blocks of a recipe: `n` of them, with the words that follow; none where the words run out or a reserved bit is
set. -/
def parseStages : Nat → List Word → Option (List Stage × List Word)
  | 0, ws => some ([], ws)
  | _ + 1, [] => none
  | n + 1, w :: ws =>
    let p := bits w.toNat 15 0
    let banks := if bit w.toNat 16 then 2 else 1
    if bits w.toNat 23 17 != 0 || decide (ws.length < p * banks) then none else
    match parseStages n (ws.drop (p * banks)) with
    | none => none
    | some (ss, rest) =>
      some ({ kernel := w.toNat / 2 ^ 24, banks := (List.range banks).map fun b => (ws.drop (p * b)).take p } :: ss, rest)

/-- The payload of a recipe record: its number and the recipe; none where it breaks the layout of R145. -/
def parseRecipe (ws : List Word) : Option (Nat × Recipe) :=
  match ws with
  | w0 :: w1 :: rest =>
    let w0 := w0.toNat
    let w1 := w1.toNat
    let nin := bits w1 15 0
    let source := w1 / 2 ^ 30
    let lists := if source = 0 then (nin + 1) / 2 else 1
    let halves := (rest.take lists).flatMap fun w => [w.toNat / 65536, w.toNat % 65536]
    let inputs := if source = 0 then halves.take nin else []
    let pad := source == 0 && nin % 2 == 1 && halves.getD nin 0 != 0xFFFF
    let badList := if source = 0 then nin == 0 || decide (512 < nin) || inputs.any (fun x => decide (512 ≤ x)) || pad
      else nin != 0 || decide (halves.getD 1 0 < halves.getD 0 0)
    if bits w0 31 24 != 1 || bits w0 11 8 != 0 || decide (8 < bits w0 7 4) || decide (8 < bits w0 3 0) || source == 3
        || bits w1 29 16 != 0 || decide (rest.length < lists) || badList then none else
    match parseStages (bits w0 7 4) (rest.drop lists) with
    | none => none
    | some (stages, taps) =>
      let badTap (w : Word) : Bool :=
        decide (bits w0 7 4 < bits w.toNat 31 28) || bits w.toNat 26 7 != 0 || bits w.toNat 6 0 == 0
      if taps.length != bits w0 3 0 || taps.any badTap then none else
      some (bits w0 23 16,
        { engine := bits w0 15 12, source := source, inputs := inputs, first := if source = 0 then 0 else halves.getD 0 0
          last := if source = 0 then 0 else halves.getD 1 0, stages := stages
          taps := taps.map fun w => (bits w.toNat 31 28, bit w.toNat 27, bits w.toNat 6 0)
          words := ws })
  | _ => none

/-! ### Applying the records (R390) -/

/-- The hub as the records so far leave it, with the record that wrote each register, entry and recipe last, and the refusals
that applying them showed. -/
structure Load where
  hub : Hub
  regBy : SMap Nat := []
  ttBy : SMap Nat := []
  recipeBy : SMap Nat := []
  descs : List (Nat × Nat) := []
  bad : List Reject := []
  deriving DecidableEq, Repr

/-- Registers whose reads return 0: a write to one is an order, and leaves nothing to store. -/
def orderReg (a : Nat) : Bool :=
  a == DEV_LC_REQ || (decide (AFE_FAULT_CLR 0 ≤ a) && decide (a ≤ AFE_DIP_CAPTURE 31)) || a == TRG_ARM || a == TRG_TRIP_CLR
    || a == CIS_STREAM_CTL || a == CIS_FLUSH || a == FT_CTRL || (decide (DMA_CH_CMD 0 ≤ a) && decide (a ≤ DMA_CH_CMD 31))
    || a == CAL_VISIT || a == BOOT_UPD_CTRL || a == TWN_SWAP || a == PWR_QUIESCE

/-- A record can write the field: its code is LK, LV or RW (R390). -/
def imageWrites (a : Access) : Bool :=
  match a with
  | .LK | .LV | .RW => true
  | _ => false

namespace Load

/-- A refusal is noted. -/
def refuse (code ordinal detail : Nat) (l : Load) : Load :=
  { l with bad := l.bad ++ [{ code := code, ordinal := min 65535 ordinal, detail := detail }] }

/-- One word of a REGS record (R390). The class of stream 0 and its RUN_INIT stay as they read (R273). -/
def writeReg (ordinal a : Nat) (v : Word) (l : Load) : Load :=
  match cardOf a with
  | none => l.refuse 0x10 ordinal a
  | some c =>
    if !c.fields.any fun f => imageWrites f.2.2 then l.refuse 0x10 ordinal a
    else if orderReg a then l
    else
      let m := BitVec.ofNat 32 (c.fields.foldl (fun m f => if imageWrites f.2.2 then m + (2 ^ f.2.1 - 1) * 2 ^ f.1 else m) 0)
      let w := (l.hub.reg a &&& ~~~m) ||| (v &&& m)
      let w := if a = CIS_STREAM_CFG_W0 0 then (w &&& 0x1FFFFFFF) ||| 0xA0000000 else w
      { l with hub := l.hub.setReg a w, regBy := SMap.insert l.regBy a ordinal }

/-- The groups of a REGS record (R389); a group that its words break is refused with its address. -/
def regs (ordinal : Nat) (l : Load) (fuel : Nat) (ws : List Word) : Load :=
  match fuel, ws with
  | n + 1, a :: k :: rest =>
    let a := a.toNat
    let k := k.toNat
    if k = 0 ∨ 4096 < k ∨ rest.length < k ∨ a % 4 ≠ 0 then l.refuse 0x10 ordinal a else
    let l := ((rest.take k).zip (List.range k)).foldl (fun (l : Load) p => l.writeReg ordinal (a + 4 * p.2) p.1) l
    regs ordinal l n (rest.drop k)
  | _, [] => l
  | _, a :: _ => l.refuse 0x10 ordinal a.toNat

/-- A TIMETABLE record: `n` entries from index `i` on. -/
def entries (ordinal i n : Nat) (ws : List Word) (l : Load) : Load :=
  if ws.length ≠ 4 * n ∨ 1024 < i + n then l.refuse 0x12 ordinal i else
  (List.range n).foldl (fun (l : Load) k =>
    let w (j : Nat) : Nat := (ws.getD (4 * k + j) 0).toNat
    let raw := BitVec.ofNat 128 (w 0 * 2 ^ 96 + w 1 * 2 ^ 64 + w 2 * 2 ^ 32 + w 3)
    { l with hub := l.hub.setEntry (i + k) { raw := raw }, ttBy := SMap.insert l.ttBy (i + k) ordinal }) l

/-- The groups of a SLOT_MAPS record. -/
def maps (ordinal : Nat) (l : Load) (fuel : Nat) (ws : List Word) : Load :=
  match fuel, ws with
  | n + 1, a :: rest =>
    if rest.length < 8 ∨ 16 ≤ a.toNat then l.refuse 0x13 ordinal a.toNat else
    let l := (List.range 8).foldl (fun (l : Load) j =>
      { l with hub := l.hub.setReg (CNV_SLOT_MAP (8 * a.toNat + j)) (rest.getD j 0 &&& 0x1F1F1F1F)
               regBy := SMap.insert l.regBy (CNV_SLOT_MAP (8 * a.toNat + j)) ordinal }) l
    maps ordinal l n (rest.drop 8)
  | _, _ => l

/-- A DESCRIPTORS record: `n` snapshot descriptors from index `i` on (R336). -/
def descriptors (ordinal i n : Nat) (ws : List Word) (l : Load) : Load :=
  if ws.length ≠ 8 * n ∨ i < 1920 ∨ 2048 < i + n then l.refuse 0x17 ordinal i else
  { l with hub := l.hub.setMemWords (Hub.descAt i) ws
           descs := l.descs ++ (List.range n).map fun k => (i + k, ordinal) }

/-- A RECIPE record. -/
def recipe (ordinal : Nat) (ws : List Word) (l : Load) : Load :=
  match parseRecipe ws with
  | none => l.refuse 0x14 ordinal (bits (ws.headD 0).toNat 23 16)
  | some (r, x) =>
    if (l.hub.loaded).contains r then l.refuse 0x14 ordinal r else
    { l with hub := l.hub.setRecipe r { recipe := x }, recipeBy := SMap.insert l.recipeBy r ordinal }

/-- The CAPACITY record (R389, R397). -/
def capacity (ordinal : Nat) (r : ImgRec) (l : Load) : Load :=
  let c : Capacity := { tMin := bits (r.word 0) 19 0, bclkMax := bits (r.word 1) 15 0, launchMin := bits (r.word 2) 19 0
                        dtsMin := bits (r.word 3) 19 0, snapRate := (List.range 4).map fun k => r.word (4 + k) }
  let bad := r.value.length != 32 || decide (2 ^ 20 ≤ r.word 0) || decide (2 ^ 16 ≤ r.word 1) || decide (2 ^ 20 ≤ r.word 2)
    || decide (2 ^ 20 ≤ r.word 3) || decide (c.tMin < 20) || decide (c.bclkMax < 30000) || decide (45000 < c.bclkMax)
  let l : Load := { l with hub := { l.hub with boot := { l.hub.boot with cap := c } } }
  if bad then l.refuse 0x11 ordinal 0 else l

/-- One record, by its type (R389). -/
def apply (l : Load) (ordinal : Nat) (r : ImgRec) : Load :=
  let ws := r.words
  match r.type with
  | 1 => { l with hub := (l.hub.setReg BOOT_IMAGE_W0 (ws.getD 2 0)).setReg BOOT_IMAGE_W1 (ws.getD 3 0) }
  | 2 => l.capacity ordinal r
  | 3 => l.regs ordinal (ws.length + 1) ws
  | 4 => l.entries ordinal (bits (r.word 0) 9 0) (r.word 1) (ws.drop 2)
  | 5 => l.maps ordinal (ws.length + 1) ws
  | 6 => l.recipe ordinal ws
  | 7 => { l with hub := { l.hub with boot := { l.hub.boot with patches := l.hub.boot.patches ++ [r.value] } } }
  | 8 => l.descriptors ordinal (r.word 0) (r.word 1) (ws.drop 2)
  | _ => l

end Load

namespace Hub

/-- Every slot map in identity order (the card of CNV.SLOT_MAP). -/
def identityMaps (h : Hub) : Hub :=
  (List.range 128).foldl (fun (h : Hub) j => h.setReg (CNV_SLOT_MAP j) (BitVec.ofNat 32 (0x03020100 + 0x04040404 * (j % 8)))) h

/-- The records of an image applied in bank order (R390); every entry placed on the extended turn counted from 0. -/
def loadImage (h : Hub) (img : Image) : Load :=
  let h := h.identityMaps
  let l := (img.recs.zip (List.range img.recs.length)).foldl (fun (l : Load) p => l.apply p.2 p.1) { hub := h }
  let base (e : TtEntry) : TtEntry := { e with base := (e.startTurn * l.hub.spt + e.startSlot : Nat) }
  { l with hub := { l.hub with tt := { l.hub.tt with
    entries := SMap.update (fun _ => {}) (fun _ => base) l.hub.tt.entries } } }

end Hub

end Sys2Proof.Machine
end

