-- ==== Sys2Proof/Machine/Capacity.lean ====
section
/-!
DEFINITION. The capacity the image declares and uses: costs of recipes (R141, R152, R158), rates and packet sizes of streams
(R243-R248, R262), and the sums the boot checks test (R263, R270, R303).
-/

namespace Sys2Proof.Machine

/-! ### Rates -/

/-- A rate in units per second, as a fraction. -/
structure Rate where
  num : Nat := 0
  den : Nat := 1
  deriving DecidableEq, Repr

namespace Rate

def add (x y : Rate) : Rate :=
  let n := x.num * y.den + y.num * x.den
  let d := x.den * y.den
  let g := max 1 (Nat.gcd n d)
  { num := n / g, den := d / g }

def times (k : Nat) (x : Rate) : Rate := { x with num := k * x.num }
def over' (k : Nat) (x : Rate) : Rate := { x with den := max 1 k * x.den }
def sum (xs : List Rate) : Rate := xs.foldl add {}
/-- The rate exceeds a limit. -/
def exceeds (x : Rate) (limit : Nat) : Bool := decide (limit * x.den < x.num)
/-- The share of a limit in 1/`unit`, rounded up, saturating at `top`. -/
def share (x : Rate) (unit limit top : Nat) : Nat := min top (ceilDiv (unit * x.num) (limit * x.den))

end Rate

/-! ### Recipes -/

/-- What passes between stages: values in a set, and sets per second. -/
structure Flow where
  width : Nat := 0
  rate : Rate := {}
  deriving DecidableEq, Repr

namespace Hub

/-- The declared rates (R397): frames, launches of one group, DTS cycles, turns. -/
def frameRate (h : Hub) : Rate := { num := 1000 * h.boot.cap.bclkMax, den := max 1 h.boot.cap.tMin }
def launchRate (h : Hub) : Rate :=
  if h.boot.cap.launchMin = 0 then {} else { num := 1000 * h.boot.cap.bclkMax, den := h.boot.cap.launchMin }
def cycleRate (h : Hub) : Rate :=
  if h.boot.cap.dtsMin = 0 then {} else { num := 1000 * h.boot.cap.bclkMax, den := h.boot.cap.dtsMin * max 1 (h.fld FI_DTS_CFG_NACC) }
def turnRate (h : Hub) : Rate := { num := 1000 * h.boot.cap.bclkMax, den := h.spt }

/-- DIV at the declared minimum frame period (R88). -/
def declaredDiv (h : Hub) : Nat := 64 * max 1 (ceilDiv (1000 * h.boot.cap.bclkMax) (1280000 * max 1 h.boot.cap.tMin))

/-- Width of the source of a recipe, and its rate (R140, R158). -/
def sourceFlow (h : Hub) (r : Recipe) : Flow :=
  match r.source with
  | 0 => { width := r.inputs.length, rate := h.frameRate }
  | 1 => { width := r.last + 1 - r.first, rate := h.launchRate.times h.ngroups }
  | _ => { width := r.last + 1 - r.first, rate := h.cycleRate }

/-- What a stage makes of a flow (R146). -/
def stageFlow (h : Hub) (s : Stage) (f : Flow) : Flow :=
  let w0 := s.word 0 0
  match s.kernel with
  | 2 => { f with rate := f.rate.over' (bits w0 31 16) }
  | 3 => { f with rate := f.rate.over' (bits w0 15 0) }
  | 5 => { f with rate := f.rate.over' (bits w0 31 16 + 1) }
  | 6 => { width := f.width * (bits w0 3 0 + 1), rate := f.rate.over' (bits w0 31 16 + 1) }
  | 7 => { width := 4 * f.width, rate := h.turnRate.over' (bits w0 31 16 + 1) }
  | 8 => { width := 2 * f.width, rate := h.turnRate.over' (bits w0 31 16 + 1) }
  | 10 => { f with rate := h.turnRate.times (ceilDiv (h.spt - bits w0 11 0) (bits w0 27 16)) }
  | 11 => { f with width := f.width / max 1 (bits w0 24 16) }
  | 12 => { width := bits w0 5 0 + 1, rate := f.rate.over' (bits w0 31 16 + 1) }
  | _ => f

/-- The flow after the first `k` stages. -/
def flowAt (h : Hub) (r : Recipe) (k : Nat) : Flow := (r.stages.take k).foldl (fun f s => h.stageFlow s f) (h.sourceFlow r)

/-- A CIC runs wide: W = 24 + ⌈M log₂ R⌉ exceeds 40. -/
def cicWide (s : Stage) : Bool := decide (16 < clog2 ((bits (s.word 0 0) 31 16) ^ (bits (s.word 0 0) 2 0)))

/-- Cycles per lane-set (R152): per input, per output, and per tone period. -/
def stageCost (s : Stage) : Nat × Nat × Nat :=
  let w0 := s.word 0 0
  match s.kernel with
  | 1 => (6, 0, 24)
  | 2 => let m := bits w0 2 0; if cicWide s then (2 * m, 2 * m + 8, 0) else (m, m + 6, 0)
  | 3 => (1, bits w0 31 16 + 6, 0)
  | 4 => (12 * bits w0 3 0 + 3, 0, 0)
  | 5 => (3, 48, 0)
  | 6 => (4 * (bits w0 3 0 + 1), 40 * (bits w0 3 0 + 1), 0)
  | 7 => (4, 60, 0)
  | 8 => (3, 8, 0)
  | 9 => (3, 0, 0)
  | 10 => (1, 12, 0)
  | 11 => (1, 4, 0)
  | 12 => (3, 50 * (bits w0 5 0 + 1), 0)
  | _ => (0, 80, 0)

/-- Memory of a stage in bytes (R152), from the widths of its input and output. -/
def stageMemory (s : Stage) (win wout : Nat) : Nat :=
  let w0 := s.word 0 0
  let n := s.banks.length
  match s.kernel with
  | 1 => 32 * win
  | 2 => (if cicWide s then 32 else 16) * bits w0 2 0 * win
  | 3 => 4 * bits w0 31 16 * win + 2 * bits w0 31 16 * n
  | 4 => 16 * bits w0 3 0 * win + 20 * bits w0 3 0 * n
  | 5 => 24 * win
  | 6 => 16 * (bits w0 3 0 + 1) * win + 8 * (bits w0 3 0 + 1)
  | 7 => 24 * win
  | 8 => 16 * win
  | 9 => 8 * win
  | 10 => 24 * win
  | 11 => 8 * wout
  | 12 => 4 * win + 16 * wout
  | _ => 16 * win

/-- A stage filters along time, or is DIG_THRESHOLD: its cost counts in ENGINE_BURST (R148, R158). -/
def bursty (s : Stage) : Bool := s.filters || s.kernel == 9

/-- Cycles per second, cycles in the worst frame, and memory of a recipe without its input buffers (R152, R158). -/
def recipeCost (h : Hub) (r : Recipe) : Rate × Nat × Nat :=
  (r.stages.zip (List.range r.stages.length)).foldl (fun (c : Rate × Nat × Nat) p =>
    let (s, k) := p
    let f := h.flowAt r k
    let g := h.stageFlow s f
    let sets := ceilDiv f.width 8
    let (i, o, t) := stageCost s
    let cycles := ((f.rate.times i).add (g.rate.times o)).add (f.rate.over' h.declaredDiv |>.times t)
    (c.1.add (cycles.times sets), c.2.1 + (if bursty s then sets * (i + o + t) else 0), c.2.2 + stageMemory s f.width g.width))
    ({}, 0, 256)

/-- What engine `e` uses (R158): cycles per second, cycles in the worst frame, bytes of memory, bytes of shadow, intake per
second. -/
def engineUse (h : Hub) (e : Nat) : Rate × Nat × Nat × Nat × Rate :=
  let rs := (h.recipesOf e).map fun r => (h.recipe r).recipe
  let costs := rs.map h.recipeCost
  let inputs := (rs.flatMap fun r => r.inputs).eraseDups.length
  let gates := Rate.sum ((rs.filter fun r => r.source == 1).map fun r => (h.sourceFlow r).rate.times (h.sourceFlow r).width)
  (Rate.sum (costs.map Prod.fst), (costs.map fun c => c.2.1).sum, (costs.map fun c => c.2.2).sum + 16 * inputs,
    (rs.map Recipe.bytes).sum, gates.add (h.frameRate.times inputs))

/-- The limit of ENGINE_BURST as a fraction: 1.8 × 800 × T_min in µs. -/
def burstLimit (h : Hub) : Rate := { num := 1440000 * h.boot.cap.tMin, den := max 1 h.boot.cap.bclkMax }

/-! ### Streams (R240, R262) -/

/-- The sample sources of R240. -/
inductive SourceKind where
  | tap | rawCells | rawDas | burst | snapshot
  deriving DecidableEq, Repr

/-- A sample source of a stream: its kind, format, set width, and sets per second. -/
structure Source where
  stream : Nat := 0
  kind : SourceKind := .tap
  fmt : Nat := 0
  width : Nat := 0
  rate : Rate := {}
  deriving DecidableEq, Repr

/-- NCH: inputs the Standpipe stores (R218). -/
def spWidth (h : Hub) : Nat := (List.range 512).countP fun c => bit (h.fld (TRG_SP_SEL_SEL (c / 32))) (c % 32)

/-- The streams that the chain of descriptors from `i` on names (R336, R337). -/
def chainStreams (h : Hub) (fuel i : Nat) : List Nat :=
  match fuel with
  | 0 => []
  | n + 1 =>
    let d := h.desc i
    (if d.toStream then [d.stream] else []) ++ (if d.last then [] else chainStreams h n d.next)

/-- The sample sources of the image: engine taps, raw taps, the Standpipe, and the snapshot channels. -/
def sources (h : Hub) : List Source :=
  let taps := h.loaded.flatMap fun r =>
    let x := (h.recipe r).recipe
    x.taps.map fun (k, s16, s) =>
      let f := h.flowAt x k
      { stream := s, kind := if k != 0 then .tap else if x.source = 0 then .rawCells else .rawDas
        fmt := if k = 0 ∧ x.source = 0 then fmtRaw64 else if s16 then fmtS16 else fmtS32, width := f.width, rate := f.rate : Source }
  let burst := if h.flag TRG_SP_CFG_EN then
      [{ stream := h.fld TRG_SP_CFG_STREAM, kind := .burst, fmt := fmtS32, width := h.spWidth, rate := h.frameRate : Source }] else []
  let snaps := [24, 25, 26, 27].flatMap fun n =>
    if !h.flag (DMA_CH_CFG_EN n) then [] else
    (h.chainStreams 128 (h.fld (DMA_CH_CFG_HEAD n))).eraseDups.map fun s =>
      { stream := s, kind := .snapshot, fmt := fmtWords, width := 1, rate := { num := h.boot.cap.snapRate.getD (n - 24) 0 } : Source }
  taps ++ burst ++ snaps

/-- The triggers whose marks a stream carries. -/
def markers (h : Hub) (s : Nat) : List Nat := (List.range 16).filter fun t => s != 0 && h.fld (TRG_CFG_MARK_STREAM t) == s

/-- The greatest bytes of a packet of `n` containers (R243-R248). -/
def packetBytes (fmt n ratio : Nat) : Nat :=
  if fmt = fmtRaw64 then 16 + 8 * n
  else if fmt = fmtWords then 16 + 4 * n
  else if fmt = fmtS16 then 24 + 4 * ((n + 1) / 2) + 4 * min 64 n
  else if ratio = 0 then 20 + 4 * n
  else 24 + (n + 31) / 32 * blockBytes ratio + 4 * min 64 n

/-- Containers in a packet: an INTERLOCK stream carries one frame (R252). -/
def packetConts (h : Hub) (x : Source) : Nat :=
  if h.fld (CIS_STREAM_CFG_CLASS x.stream) = 0 then max 1 x.width else max 1 (h.fld (CIS_STREAM_CFG_PKT_SAMPLES x.stream))

/-- Sample packets of a source: bytes at their greatest, and packets per second. -/
def samplePackets (h : Hub) (ratio : Nat) (x : Source) : Nat × Rate :=
  (packetBytes x.fmt (h.packetConts x) (if x.fmt = fmtS32 then ratio else 0), (x.rate.times x.width).over' (h.packetConts x))

/-- Record packets of a stream beside its samples: bytes and packets per second (R262). -/
def recordPackets (h : Hub) (src : List Source) (s : Nat) : List (Nat × Rate) :=
  (if src.any fun x => x.stream == s && x.kind == .burst then
    let r := h.frameRate.over' (h.fld TRG_SP_DEPTH_POST); [(40, r), (32, r)] else [])
  ++ (h.markers s).map fun t => (32, h.frameRate.over' (h.fld (TRG_CFG_HOLDOFF t) + 1))

/-- Every packet of a stream at a Siphon ratio. -/
def streamPackets (h : Hub) (src : List Source) (s ratio : Nat) : List (Nat × Rate) :=
  ((src.filter fun x => x.stream == s).map (h.samplePackets ratio)) ++ h.recordPackets src s

/-- The declared write rate B_s in bytes per second (R262). -/
def writeRate (h : Hub) (src : List Source) (s : Nat) : Rate :=
  if s = 0 then { num := 16000000 } else
  Rate.sum ((h.streamPackets src s (h.fld (CIS_STREAM_CFG_RATIO s))).map fun p => p.2.times p.1)

/-- The greatest packet size P_s; a RECORDS packet holds 64 words (R248, R262). -/
def greatestPacket (h : Hub) (src : List Source) (s : Nat) : Nat :=
  let records := s == 0 || !(h.recordPackets src s).isEmpty
  let samples := (src.filter fun x => x.stream == s).map fun x => (h.samplePackets (h.fld (CIS_STREAM_CFG_RATIO s)) x).1
  let degraded := (src.filter fun x => x.stream == s && h.fld (CIS_STREAM_CFG_CLASS s) == 3).map fun x =>
    (h.samplePackets (h.fld (CIS_STREAM_CFG_DEG_RATIO s)) x).1
  (samples ++ degraded).foldl max (if records || samples.isEmpty then 272 else 0)

/-- The block rate L_s in blocks per second, at a ratio (R303). -/
def blockRate (h : Hub) (src : List Source) (s ratio : Nat) : Rate :=
  if s = 0 then { num := 2250000 } else
  let l := Rate.sum ((h.streamPackets src s ratio).map fun p => p.2.times (ceilDiv p.1 8 + 3))
  if h.fld (CIS_STREAM_CFG_CLASS s) = 0 then l.times 2 else l

/-- The rings in use. -/
def usedRings (h : Hub) : List Nat := (List.range 128).filter fun s => h.ringSize s != 0

/-- The ratio of a stream in three-lane operation (R271). -/
def degradedRatio (h : Hub) (s : Nat) : Nat :=
  if h.fld (CIS_STREAM_CFG_CLASS s) = 3 then h.fld (CIS_STREAM_CFG_DEG_RATIO s) else h.fld (CIS_STREAM_CFG_RATIO s)

/-- Samples per second of the coded streams at the degraded ratios (R270). -/
def codedRate (h : Hub) (src : List Source) : Rate :=
  Rate.sum ((src.filter fun x => x.fmt == fmtS32 && h.degradedRatio x.stream != 0).map fun x => x.rate.times x.width)

/-- ΣL_s with every stream at its normal ratio, and with every BULK stream at its degraded one (R303). -/
def linkRates (h : Hub) (src : List Source) : Rate × Rate :=
  (Rate.sum (h.usedRings.map fun s => h.blockRate src s (h.fld (CIS_STREAM_CFG_RATIO s))),
   Rate.sum (h.usedRings.map fun s => h.blockRate src s (h.degradedRatio s)))

/-- H_s in nanoseconds as a fraction: what the ring holds beyond RES_s, over B_s (R262). Its denominator is 0 where nothing is
declared to write the ring. -/
def holdTime (size packet : Nat) (b : Rate) : Rate :=
  -- RES = 2P + 64 + B × 20 µs
  let room := 1000000 * b.den * (size - (2 * packet + 64)) - 20 * b.num
  { num := 1000 * room, den := b.num }

end Hub

end Sys2Proof.Machine
end

