-- ==== Sys2Proof/Machine/Checks.lean ====
section
/-!
DEFINITION. The CHECKS step of boot (R395, R399): every refusal that an applied image draws, and the results the step writes.
-/

namespace Sys2Proof.Machine

/-! ### Recipes: parameters and order of stages (R144, R146) -/

/-- The greatest pole radius for which H stays at 65,535 (R146), as a fraction of 10^40: 2^(-16/65,535). -/
def poleLimit : Nat := 9998307863501521370145965882510391790098

/-- Both poles of a section with a1 and a2 in Q2.22 lie within the radius above. -/
def polesOk (a1 a2 : Int) : Bool :=
  let r : Int := poleLimit
  let e : Int := 10 ^ 40
  -- |a2| ≤ r² and |a1| r ≤ r² + a2, both times 2^22
  decide ((a2.natAbs : Int) * e * e ≤ 4194304 * r * r) && decide ((a1.natAbs : Int) * r * e ≤ 4194304 * r * r + a2 * e * e)

/-- The words of one bank keep the ranges and reserved bits of R146, and the limits of the kernel. -/
def bankOk (kernel : Nat) (ws : List Word) : Bool :=
  let w (i : Nat) : Nat := (ws.getD i 0).toNat
  let w0 := w 0
  let top (i : Nat) : Bool := w i / 2 ^ 24 == 0
  match kernel with
  | 1 => ws.length == 1 && w0 / 256 == 0 && decide (4 ≤ bits w0 7 0) && decide (bits w0 7 0 ≤ 64)
  | 2 => ws.length == 2 && decide (2 ≤ bits w0 31 16) && decide (bits w0 31 16 ≤ 4096) && bits w0 7 3 == 0
      && decide (1 ≤ bits w0 2 0) && decide (bits w0 2 0 ≤ 5) && top 1
  | 3 =>
    let n := bits w0 31 16
    let coefs := (List.range n).map fun i => signed 16 (if i % 2 = 0 then w (1 + i / 2) / 65536 else w (1 + i / 2))
    decide (1 ≤ n) && decide (n ≤ 512) && decide (1 ≤ bits w0 15 0) && decide (bits w0 15 0 ≤ 64)
      && ws.length == 1 + (n + 1) / 2 && decide ((coefs.map Int.natAbs).sum ≤ 65536)
  | 4 =>
    let s := bits w0 3 0
    decide (1 ≤ bits w0 31 16) && bits w0 15 4 == 0 && decide (1 ≤ s) && decide (s ≤ 8) && ws.length == 1 + 5 * s
      && (List.range (5 * s)).all (fun i => top (1 + i))
      && (List.range s).all fun k => polesOk (signed 24 (w (4 + 5 * k))) (signed 24 (w (5 + 5 * k)))
  | 5 => ws.length == 1 && bits w0 15 1 == 0 && decide (1 ≤ bits w0 31 16)
  | 6 =>
    let k := bits w0 3 0 + 1
    ws.length == 1 + 2 * k && bits w0 15 4 == 0 && decide (15 ≤ bits w0 31 16)
      && (List.range k).all fun i => w (1 + 2 * i) / 65536 == 0 && top (2 + 2 * i)
  | 7 | 8 => ws.length == 2 && decide (bits w0 15 0 ≤ bits w0 31 16) && w 1 / 2 == 0
  | 9 => ws.isEmpty
  | 10 => ws.length == 1 && w0 / 2 ^ 28 == 0 && bits w0 15 12 == 0 && bits w0 27 16 != 0
  | 11 =>
    let b := bits w0 24 16
    ws.length == 1 && bits w0 31 25 == 0 && bits w0 15 9 == 0 && decide (1 ≤ b) && decide (b ≤ 256)
      && decide (1 ≤ bits w0 8 0) && decide (bits w0 8 0 ≤ b)
  | 12 =>
    let z := bits w0 5 0 + 1
    ws.length == 1 + 4 * z && bits w0 15 6 == 0
      && (List.range z).all fun i =>
        decide (w (1 + 4 * i) % 65536 ≥ w (1 + 4 * i) / 65536) && w (2 + 4 * i) / 64 == 0 && top (3 + 4 * i) && top (4 + 4 * i)
          && decide (w (4 + 4 * i) < w (3 + 4 * i))
  | 13 => ws.length == 5 && decide (bits (w 2) 31 16 ≤ bits (w 2) 15 0) && w 4 / 65536 == 0
  | _ => false

/-- A stage keeps R146; two banks only where the table allows them. -/
def stageOk (s : Stage) : Bool := (s.banks.length == 1 || [3, 4, 12].contains s.kernel) && s.banks.all (bankOk s.kernel)

/-- The order of a CELLS chain without DIG_THRESHOLD, after TONE_REMOVE: whether a RESAMPLE, or a CIC or FIR, has passed (R144). -/
def cellsTail (resampled thinned : Bool) : List Nat → Bool
  | [] => true
  | 4 :: ks => cellsTail resampled thinned ks
  | 2 :: ks => cellsTail resampled true ks
  | 3 :: ks => cellsTail resampled true ks
  | 10 :: ks => !resampled && !thinned && cellsTail true thinned ks
  | [k] => k == 5 || k == 6 || k == 7
  | _ => false

/-- The order of stages that R144 allows. -/
def chainOk (r : Recipe) : Bool :=
  let ks := r.stages.map Stage.kernel
  match r.source with
  | 0 =>
    let rest := ks.filter fun k => k != 9
    let rest' := if rest.head? = some 1 then rest.drop 1 else rest
    decide (ks.countP (fun k => k == 9) ≤ 1) && (!ks.contains 1 || ks.head? == some 1) && (rest' == [8] || cellsTail false false rest')
  | 1 =>
    let rest := if ks.head? = some 11 then ks.drop 1 else ks
    let rest := if rest.getLast? = some 12 then rest.dropLast else rest
    rest.all fun k => k == 2 || k == 3 || k == 4
  | _ => ks == [13]

/-- The zone bits that a stage names in a bank, one for each zone. -/
def bankZones (s : Stage) (bank : Nat) : List Nat :=
  if s.kernel = 12 then (List.range (bits (s.word bank 0) 5 0 + 1)).map fun z => (zoneOf s bank z).2.2.1 else []

/-- The zone bits that a stage names in either bank. -/
def zoneBits (s : Stage) : List Nat := ((List.range s.banks.length).flatMap (bankZones s)).eraseDups

/-- Two zones of one bank name the same bit. -/
def zonesTwice (s : Stage) : Bool := (List.range s.banks.length).any fun b => decide ((bankZones s b).eraseDups.length < (bankZones s b).length)

namespace Hub

/-! ### Registers: ranges of the cards (BAD_FIELD) -/

/-- Fields with a range: the field, its least and its greatest value. -/
def rangesA : List (Fld × Nat × Nat) :=
  [(MT_CTRL_REV_MISS_LIMIT, 1, 255), (MT_BCLK_NOM_KHZ, 30000, 45000), (FI_CTRL_MODE, 0, 2), (FI_GEOM_DAS_NG64, 1, 1024),
   (FI_GEOM_DTS_NB64, 1, 1024), (FI_PULSE_LAUNCH_W, 1, 255), (FI_PULSE_DTS_W, 1, 255), (FI_GAUGE_G, 2, 64),
   (FI_TRACK_STITCH_K, 2, 12), (FI_FIBRE_N_N_G, 65536, 131072), (FI_FIBRE_LAMBDA_PM, 1500000, 1650000),
   (FI_DTS_CFG_NACC, 1, 65535), (TRG_SP_DEPTH_PRE, 1, 65535), (TRG_SP_DEPTH_POST, 1, 65535), (WL_CTRL_SPARE_TX, 0, 4),
   (WL_CTRL_IDLE_US, 1, 255), (FT_CFG_DOMAIN, 0, 127), (FT_SERVO_TAU, 1, 1024), (FT_SERVO_LOSS_INTERVALS, 2, 255),
   (FT_SERVO_ACQ_N, 4, 64), (FT_JUMP_CFG_THRESH, 10, 4095), (FT_JUMP_CFG_PERSIST, 1, 255), (FT_JUMP_CFG_SLEW, 1, 100)]

def rangesB : List (Fld × Nat × Nat) :=
  [(DMA_PRIV_RATE_SHARE, 1, 255), (DMA_PRIV_RATE_BURST_KIB, 1, 64), (PMC_WINDOW_US, 1, 65535),
   (PMC_SAMPLE_CFG_LOG2_PERIOD, 8, 40), (PMC_SAMPLE_CFG_ENGINE, 0, 16), (PMC_SAMPLE_CFG_COUNTER, 0, 191),
   (CAL_CTRL_PERIOD_S, 10, 65535), (CAL_AGE_LIMIT_S, 1, 65535), (CAL_JOURNAL_CFG_COMPACT_PCT, 50, 95),
   (TWN_CFG_START_WAIT_MS, 10, 65535), (TWN_CFG_CKPT_MS, 1, 1000), (PWR_FEED_CFG_REVERT_MS, 10, 60000),
   (PWR_FEED_TEST_TEST_MS, 10, 1000), (PWR_THERM_CFG_WARN, 800, 1000), (PWR_QCFG_DRAIN_MS, 1, 100)]

/-- The ranges of the cards that have an index. -/
def rangesC : List (Fld × Nat × Nat) :=
  ((List.range 32).map fun n => (DMA_CH_CFG_PACE n, 0, 3)) ++ ((List.range 8).map fun f => (PMC_FILT_PRIV f, 0, 2))
    ++ ((List.range 128).map fun s => (CIS_RING_SIZE_SIZE s, 0, 2048))
    ++ ((List.range 16).flatMap fun n => [(TRG_TRIP_CFG_FILT n, 0, 40), (TRG_TRIP_CFG_K n, 1, 64)])
    ++ ((List.range 512).map fun c => (SE_DT_CFG_PERSIST c, 1, 255))

/-- The cell configuration of an input breaks its card or R75. -/
def cellConfigBad (h : Hub) (c : Nat) : Bool :=
  let m := h.mode c
  let pair := m == 3 || m == 4
  decide (5 ≤ m) || h.fld (AFE_CELL_CFG_WIRES c) == 3 || (pair && (c % 2 == 1 || h.mode (c + 1) == 1 || h.mode (c + 1) == 2))

/-- An input's registers that break their cards. -/
def cellBreaks (h : Hub) (c : Nat) : List Nat :=
  (if h.cellConfigBad c then [AFE_CELL_CFG c] else [])
  ++ (if signed 8 (h.fld (AFE_CMP_TH_TH_HI c)) ≤ signed 8 (h.fld (AFE_CMP_TH_TH_LO c)) then [AFE_CMP_TH c] else [])
  ++ (if h.fld (CNV_CH_CFG_URG_SRC c) ≠ 0 ∧ ¬ h.flag (CNV_CH_CFG_ILK c) then [CNV_CH_CFG c] else [])
  ++ (if h.sfld (SE_DT_TH_HI_TH c) ≤ h.sfld (SE_DT_TH_LO_TH c) then [SE_DT_TH_HI c] else [])

/-- A group's registers that break their cards, or R76. -/
def groupBreaks (h : Hub) (g : Nat) : List Nat :=
  let pairs := (List.range 16).any fun i => h.mode (16 * g + i) == 3 || h.mode (16 * g + i) == 4
  (if pairs && !h.flag (AFE_EXC_CFG_EN g) then [AFE_EXC_CFG g] else [])
  ++ (if h.flag (CNV_SPARE_FIX_EN g) && !h.acquires (16 * g + h.fld (CNV_SPARE_FIX_INPUT g)) then [CNV_SPARE_FIX g] else [])

/-- The other rules of the cards (R28, R31, R60, R271, R397). -/
def fieldBreaks (h : Hub) (src : List Source) : List Nat :=
  ((rangesA ++ rangesB ++ rangesC).filterMap fun (f, lo, hi) => if h.fld f < lo ∨ hi < h.fld f then some f.addr else none)
  ++ (if h.spt ≤ h.revOffset then [MT_TURN_CFG] else [])
  ++ (if h.flag MT_CTRL_TURN_FROM_MMSG && !h.flag MT_CTRL_MMSG_EN then [MT_CTRL] else [])
  ++ (if 100 * h.boot.cap.bclkMax < 101 * h.fld MT_BCLK_NOM_KHZ then [MT_BCLK_NOM] else [])
  ++ ((List.range 16).filterMap fun n =>
    if h.flag (MT_MMSG_BITSEL_EN n) && (h.fld (MT_MMSG_BITSEL_CODE n) == 0 || h.fld (MT_MMSG_BITSEL_CODE n) == 255)
    then some (MT_MMSG_BITSEL n) else none)
  ++ ((List.range 512).flatMap h.cellBreaks) ++ ((List.range 32).flatMap h.groupBreaks)
  ++ (if h.fld FT_ETH_CFG_SUMMARY_MS ≠ 0 ∧ (h.fld FT_ETH_CFG_SUMMARY_MS < 10 ∨ 10000 < h.fld FT_ETH_CFG_SUMMARY_MS)
      then [FT_ETH_CFG_W3] else [])
  ++ ((List.range 32).filterMap fun n =>
    if h.fld (DMA_CH_CFG_PACE n) = 2 ∧ 32 ≤ h.fld (DMA_CH_CFG_PACE_ARG n) then some (DMA_CH_CFG n) else none)
  ++ ((src.map Source.stream).eraseDups.filterMap fun s =>
    if h.fld (CIS_STREAM_CFG_PKT_SAMPLES s) = 0
        ∨ (h.fld (CIS_STREAM_CFG_CLASS s) = 3 ∧ h.fld (CIS_STREAM_CFG_DEG_RATIO s) < h.fld (CIS_STREAM_CFG_RATIO s))
    then some (CIS_STREAM_CFG_W0 s) else none)

/-- The DTS recipes whose reference section does not lie in their range and among the bins (R197). -/
def referenceBreaks (h : Hub) : List Nat :=
  h.loaded.filter fun r =>
    let x := (h.recipe r).recipe
    x.source == 2 && x.stages.any fun s =>
      s.kernel == 13 && (decide (h.nbins ≤ bits (s.word 0 2) 15 0) || decide (bits (s.word 0 2) 31 16 < x.first)
        || decide (x.last < bits (s.word 0 2) 15 0))

/-! ### Recipes (BAD_RECIPE) -/

/-- A recipe breaks R140, R143-R146 or a limit of its kernels. -/
def recipeBad (h : Hub) (r : Nat) : Bool :=
  let x := (h.recipe r).recipe
  let zones := (h.loaded.flatMap fun q => (h.recipe q).recipe.stages.flatMap zoneBits)
  !chainOk x || x.stages.any (fun s => !stageOk s)
    || x.inputs.any (fun c => h.isPartner c || decide (4 < h.loaded.countP fun q => (h.recipe q).recipe.inputs.contains c))
    || (x.stages.any (fun s => s.kernel == 8) && x.inputs.any fun c => h.mode c != 2)
    || decide (32 ≤ ((h.recipesOf x.engine).findIdx fun q => q == r))
    || (x.source == 2 && x.taps.any fun t => t.1 == 0)
    || x.taps.any (fun t => h.fld (CIS_STREAM_CFG_CLASS t.2.2) == 0 && t.1 != 0)
    || x.stages.any zonesTwice || (x.stages.flatMap zoneBits).any fun z => decide (1 < zones.count z)
    || (h.fld (SE_BANK_SEL_BANK r) == 1 && !x.stages.any fun s => decide (2 ≤ s.banks.length))

/-- Registers and recipes that break R155 and R156: thresholds that name a recipe which cannot evaluate their input, and banks
selected for no recipe. Each with the register and the recipe. -/
def recipeRegs (h : Hub) : List (Nat × Nat) :=
  ((List.range 512).filterMap fun c =>
    let r := h.fld (SE_DT_CFG_RECIPE c)
    let x := (h.recipe r).recipe
    if h.flag (SE_DT_CFG_SRC c) && !(h.loaded.contains r && x.inputs.contains c && x.stages.any fun s => s.kernel == 9)
    then some (SE_DT_CFG c, r) else none)
  ++ ((List.range 256).filterMap fun r =>
    if h.fld (SE_BANK_SEL_BANK r) = 1 ∧ ¬ h.loaded.contains r then some (SE_BANK_SEL r, r) else none)

/-! ### Streams (BAD_STREAM) -/

/-- A ring breaks R239: it leaves the Cistern, or overlaps a ring of a lower number. -/
def ringBad (h : Hub) (s : Nat) : Bool :=
  let lo (s : Nat) : Nat := h.fld (CIS_RING_BASE_BASE s)
  let n (s : Nat) : Nat := h.fld (CIS_RING_SIZE_SIZE s)
  if n s = 0 then s == 0 else
  decide (2048 < lo s + n s) || (s == 0 && decide (n s < 16)) ||
    (List.range s).any fun q => n q != 0 && decide (lo q < lo s + n s) && decide (lo s < lo q + n q)

/-- A stream breaks R239, R240, R243, R252 or R264. -/
def streamBad (h : Hub) (src : List Source) (s : Nat) : Bool :=
  let xs := src.filter fun x => x.stream == s
  let cls := h.fld (CIS_STREAM_CFG_CLASS s)
  let coded := h.fld (CIS_STREAM_CFG_RATIO s) != 0 || h.degradedRatio s != 0
  let pkt := h.fld (CIS_STREAM_CFG_PKT_SAMPLES s)
  let named := !xs.isEmpty || !(h.markers s).isEmpty
  h.ringBad s || (named && decide (h.fld (CIS_RING_SIZE_SIZE s) < 4)) || decide (1 < xs.length) || (s == 0 && !xs.isEmpty)
    || xs.any (fun x => cls == 0 && x.kind != .rawCells)
    || (coded && (cls == 0 || pkt % 32 != 0 || xs.isEmpty || xs.any fun x => x.fmt != fmtS32 || (x.kind != .tap && x.kind != .rawDas)))
    || (cls != 0 && h.fld (CIS_STREAM_CFG_CUT s) != 0 && !xs.any fun x => x.width == pkt && decide (x.width ≤ 4095))

/-! ### Fibre (BAD_FIBRE, FIBRE_SPACING) -/

/-- The rules of R199 other than R179 and R197, with their details: the register, or the recipe. -/
def fibreBreaks (h : Hub) : List Nat :=
  (if h.groupsKept then [] else [FI_CTRL])
  ++ (if h.ngates ≤ h.fld FI_GAUGE_G then [FI_GAUGE] else [])
  ++ (if (List.range 4).all fun k => ((List.range 4).map h.toneOf).contains k then [] else [FI_TONE_MAP])
  ++ h.loaded.filter fun r =>
    let x := (h.recipe r).recipe
    (x.source == 1 && decide (h.ngates ≤ x.last)) || (x.source == 2 && decide (h.nbins ≤ x.last))

/-! ### Routes and triggers (BAD_ROUTE, BAD_TRIGGER) -/

def routeBreaks (h : Hub) : List Nat :=
  (List.range 256).filterMap fun n =>
    if (h.flag (EVT_ROUTE_DMA n) && h.fld (DMA_CH_CFG_PACE (h.fld (EVT_ROUTE_CHANNEL n))) != 3)
        || (h.flag (EVT_ROUTE_TT n) && (h.fld (EVT_ROUTE_CODE n) == 0 || h.fld (EVT_ROUTE_CODE n) == 255))
    then some (EVT_ROUTE n) else none

/-- The Standpipe breaks R219. -/
def standpipeBad (h : Hub) (src : List Source) : Bool :=
  let n := h.spWidth
  let s := h.fld TRG_SP_CFG_STREAM
  h.flag TRG_SP_CFG_EN && (n == 0 || decide (1048576 / n < h.fld TRG_SP_DEPTH_PRE + 8)
    || (List.range 512).any (fun c => bit (h.fld (TRG_SP_SEL_SEL (c / 32))) (c % 32) && !h.acquires c)
    || h.fld (CIS_STREAM_CFG_CLASS s) != 1 || src.any (fun x => x.stream == s && x.kind != .burst)
    || h.fld (CIS_STREAM_CFG_RATIO s) != 0)

def triggerBreaks (h : Hub) (src : List Source) : List Nat :=
  ((List.range 16).filterMap fun t =>
    if h.fld (TRG_CFG_MARK_STREAM t) ≠ 0 ∧ h.fld (CIS_STREAM_CFG_CLASS (h.fld (TRG_CFG_MARK_STREAM t))) = 0
    then some (TRG_CFG_W0 t) else none)
  ++ (if h.standpipeBad src then [TRG_SP_CFG] else [])
  ++ ((List.range 16).flatMap fun n => (List.range 64).filterMap fun i =>
    if 2159 < h.fld (TRG_TRIP_SEL_FLAG n i) then some (TRG_TRIP_SEL n i) else none)
  ++ ((List.range 16).filterMap fun n =>
    let k := h.fld (TRG_TRIP_CFG_K n)
    if h.flag (TRG_TRIP_CFG_EN n) && (k == 0 || decide ((List.range 64).countP (fun i => h.flag (TRG_TRIP_SEL_EN n i)) < k))
    then some (TRG_TRIP_CFG n) else none)

/-! ### Capacity -/

/-- The codes of R158 that an engine's use draws. -/
def engineBreaks (h : Hub) (e : Nat) : List Nat :=
  let (cycles, burst, mem, shadow, intake) := h.engineUse e
  (if cycles.exceeds 720000000 then [0x20] else [])
  ++ (if h.burstLimit.num < burst * h.burstLimit.den then [0x21] else [])
  ++ (if 229376 < mem then [0x22] else []) ++ (if 65536 < shadow then [0x23] else [])
  ++ (if intake.exceeds 200000000 then [0x24] else [])

/-! ### The step -/

end Hub

namespace Load

/-- The record that wrote a register last. -/
def ofReg (l : Load) (a : Nat) : Nat := (SMap.find? l.regBy a).getD 0
def ofRecipe (l : Load) (r : Nat) : Nat := (SMap.find? l.recipeBy r).getD 0
def ofEntry (l : Load) (i : Nat) : Nat := (SMap.find? l.ttBy i).getD 0

/-- Refusals of one code for registers. -/
def atRegs (l : Load) (code : Nat) (as : List Nat) : List Reject := as.map fun a => { code := code, ordinal := l.ofReg a, detail := a }

/-- Every refusal of the CHECKS step (R395), by code. -/
def refusals (l : Load) : List Reject :=
  let h := l.hub
  let src := h.sources
  let early (n : Nat) : List Reject := l.bad.filter fun r => r.code == n
  let tt := h.tt.entries.filterMap fun (i, e) =>
    if Hub.entryResult h.spt h.boot.cap.tMin ((e.type != 2 && e.type != 3) || h.periodDeclared e) true e != 0
    then some { code := 0x12, ordinal := l.ofEntry i, detail := i : Reject } else none
  let maps := (List.range 16).filterMap fun a =>
    let ls := Hub.mapLocals ((List.range 8).map fun j => h.reg (CNV_SLOT_MAP (8 * a + j)))
    if Hub.isPerm ls && h.ilkFirst a ls then none else some { code := 0x13, ordinal := l.ofReg (CNV_SLOT_MAP (8 * a)), detail := a : Reject }
  let recipes := (h.loaded.filter h.recipeBad).map fun r => { code := 0x14, ordinal := l.ofRecipe r, detail := r : Reject }
  let recipes' := h.recipeRegs.map fun (a, r) => { code := 0x14, ordinal := l.ofReg a, detail := r : Reject }
  let streams := ((List.range 128).filter (h.streamBad src)).map fun s =>
    { code := 0x15, ordinal := l.ofReg (CIS_STREAM_CFG_W0 s), detail := s : Reject }
  let fibre := h.fibreBreaks.map fun d =>
    { code := 0x16, ordinal := if d < 256 then l.ofRecipe d else l.ofReg d, detail := d : Reject }
  let descs := l.descs.filterMap fun (i, o) =>
    if h.checkDesc 24 (h.desc i) = 0 then none else some { code := 0x17, ordinal := o, detail := i : Reject }
  let engines := [0x20, 0x21, 0x22, 0x23, 0x24].flatMap fun c =>
    (List.range 16).filterMap fun e => if (h.engineBreaks e).contains c then some { code := c, detail := e : Reject } else none
  let writes := Rate.sum (h.usedRings.map (h.writeRate src))
  let held := h.usedRings.filterMap fun s =>
    let t := Hub.holdTime (h.ringSize s) (h.greatestPacket src s) (h.writeRate src s)
    if t.den ≠ 0 ∧ t.num < 1000000 * t.den then some { code := 0x26, ordinal := l.ofReg (CIS_RING_SIZE s), detail := s : Reject } else none
  let one (code : Nat) (bad : Bool) : List Reject := if bad then [{ code := code }] else []
  let spacing := h.tt.entries.filterMap fun (i, e) =>
    if (e.type == 2 || e.type == 3) && !h.launchSpaced i e then some { code := 0x2A, ordinal := l.ofEntry i, detail := i : Reject } else none
  early 0x10 ++ early 0x11 ++ l.atRegs 0x11 (h.fieldBreaks src)
    ++ (h.referenceBreaks.map fun r => { code := 0x11, ordinal := l.ofRecipe r, detail := r })
    ++ early 0x12 ++ tt ++ early 0x13 ++ maps ++ early 0x14 ++ recipes ++ recipes' ++ streams ++ fibre ++ early 0x17 ++ descs
    ++ l.atRegs 0x18 h.routeBreaks ++ l.atRegs 0x19 (h.triggerBreaks src) ++ engines
    ++ one 0x25 (writes.exceeds 2200000000) ++ held ++ one 0x27 ((h.codedRate src).exceeds 400000000)
    ++ one 0x28 ((h.linkRates src).1.exceeds 744681818) ++ one 0x29 ((h.linkRates src).2.exceeds 558511363) ++ spacing

end Load

namespace Hub

/-- What the CHECKS step writes (R159, R262, R270, R303, R399). -/
def writeCapacity (h : Hub) : Hub :=
  let src := h.sources
  let h := (List.range 16).foldl (fun (h : Hub) e =>
    let (cycles, burst, mem, shadow, intake) := h.engineUse e
    let b := min 65535 (ceilDiv (1024 * burst * h.burstLimit.den) (max 1 h.burstLimit.num))
    let h := (h.put (SE_CAP_CYCLES e) (cycles.share 1024 720000000 65535)).put (SE_CAP_BURST e) b
    ((h.put (SE_CAP_INTAKE e) (intake.share 256 200000000 255)).put (SE_CAP_SHADOW e) (min 255 (ceilDiv shadow 1024))).put
      (SE_CAP_MEM e) (min 65535 (ceilDiv mem 16))) h
  let hold (s : Nat) : Rate := holdTime (h.ringSize s) (h.greatestPacket src s) (h.writeRate src s)
  let us (s : Nat) : Nat :=
    let t := hold s
    if t.den = 0 then Config.quotient t.num 0 else t.num / (1000 * t.den)
  let rings := h.usedRings
  let h := rings.foldl (fun (h : Hub) s =>
    let b := h.writeRate src s
    let h := (h.put (CIS_RING_HOLD_US s) (min 0xFFFFFFFF (us s))).put (CIS_RING_RATE_KBS s) (ceilDiv b.num (1000 * b.den))
    h.setRing s { h.ring s with maxPkt := h.greatestPacket src s }) h
  let least := (rings.filter fun s => (h.writeRate src s).num != 0).foldl
    (fun (best : Option Nat) s => match best with
      | none => some s
      | some q => if (hold s).num * (hold q).den < (hold q).num * (hold s).den then some s else some q) none
  let h := match least with
    | some s => (h.put CIS_HOLDOVER_RING s).put CIS_HOLDOVER_US (min (2 ^ 24 - 1) (us s))
    | none => h
  let writes := Rate.sum (rings.map (h.writeRate src))
  let coded := h.codedRate src
  let (l4, l3) := h.linkRates src
  let h := (h.put CIS_WRITE_RATE_KBS (quot writes.num (1000 * writes.den))).put SIP_LOAD_PERMILLE (min 65535 (quot coded.num (400000 * coded.den)))
  (h.put WL_BUDGET_LANES4 (l4.share 1000 744681818 65535)).put WL_BUDGET_LANES3 (l3.share 1000 558511363 65535)

end Hub

end Sys2Proof.Machine
end

