-- ==== Sys2Proof/Machine/FacilityTime.lean ====
section
/-!
DEFINITION. Facility Time (R306-R318, R322, R323): the PTP messages, the servo, path jumps, time-correspondence records, the
cross-check, the SUMMARY frame and the link of the Ethernet port. FT is kept in units of 10^-12 ns.
-/

namespace Sys2Proof.Machine

/-- A signed quotient, exact where it is whole and otherwise left open. -/
def ratioOr (n : Int) (d : Nat) : Int := if n % (d : Int) = 0 then n / (d : Int) else Config.ratio n d

/-- A list of path delays or offsets in ascending order. -/
def sortInts (xs : List Int) : List Int := xs.mergeSort fun a b => decide (a ≤ b)

/-- The median; of an even number the mean of the middle two. -/
def median (xs : List Int) : Int :=
  let ys := sortInts xs
  let n := ys.length
  if n % 2 = 1 then ys.getD (n / 2) 0 else ratioOr (ys.getD (n / 2 - 1) 0 + ys.getD (n / 2) 0) 2

/-- The mean. -/
def mean (xs : List Int) : Int := if xs.isEmpty then 0 else ratioOr xs.sum xs.length

/-- FT states (R314). -/
inductive FtState where
  | none | acquire | track | frozen | hold
  deriving DecidableEq, Repr

def FtState.code : FtState → Nat
  | .none => 0 | .acquire => 1 | .track => 2 | .frozen => 3 | .hold => 4

namespace Hub

def ftState (h : Hub) : FtState :=
  match h.fld FT_STAT_STATE with
  | 0 => .none | 1 => .acquire | 2 => .track | 3 => .frozen | _ => .hold

/-- FT changes state (R314, R323). -/
def setFtState (st : FtState) (h : Hub) : Hub :=
  let old := h.ftState
  if old = st then h else (h.put FT_STAT_STATE st.code).raise 184 0 [old.code, st.code]

/-- An LT of the current REFCLK period with its part below 10 ns (R306). -/
def ltFine (h : Hub) (ns : Nat) : Nat := h.lt / 10 * 10 + ns % 10

/-- The rate y changes at an LT; FT goes on from there without a step (R306, R307). -/
def setRate (lt : Nat) (y : Int) (h : Hub) : Hub :=
  ({ h with ft := { h.ft with ft := h.ftAt lt, at_ := lt, y := y } } : Hub).sput FT_RATE_PPT y

/-- A time session begins (R307): state NONE, the counter runs on LT at y = 0, and nothing of the last session is left. -/
def startSession (h : Hub) : Hub :=
  let h := h.put FT_STAT_SESSION h.boot.sessions
  let h : Hub := { h with
    boot := { h.boot with sessions := h.boot.sessions + 1 }
    ft := { h.ft with ft := (h.lt : Int) * 1000000000000, at_ := h.lt, freq := 0, y := 0, masters := [], selected := none
                      waiting := none, sync := none, request := none, gathered := [], delays := [], dref := 0, jumps := []
                      kept := false, ramp := none, stepDue := false, acceptedDue := false, base := none, rebase := false } }
  let h := ((((h.put FT_STAT_FT_VALID 0).put FT_STAT_ASYM_SUSPECT 0).put FT_STAT_XCHK_MISMATCH 0).put FT_STAT_OFFSET_LARGE 0).sput
    FT_RATE_PPT 0
  let h := (((h.setReg FT_MASTER_W0 0).setReg FT_MASTER_W1 0).setReg FT_MASTER_W2 0).setReg FT_UTC_OFFSET 0
  h.setFtState .none

/-- The port carries PTP: the ETH domain powered and configured, the link up, PTP enabled (R311, R319, R452). -/
def ethUp (h : Hub) : Bool := decide (4 ≤ h.bootStep) && decide (h.bootStep ≤ 7) && h.flag FT_ETH_STAT_LINK

def ptpOn (h : Hub) : Bool := h.ethUp && h.flag FT_CFG_PTP_EN

/-- A message is ignored and counted (R311). -/
def ignorePtp (h : Hub) : Hub := h.bump FT_CNT_IGNORED 1

/-- The hub's MAC address (R319): in a pair, bit 0 of its last octet is UNIT_SEL (R419). -/
def macAddress (h : Hub) : Nat :=
  let m := h.fld FT_ETH_CFG_MAC_W0 * 65536 + h.fld FT_ETH_CFG_MAC_W1
  if h.flag TWN_CFG_EN then m / 2 * 2 + h.fld TWN_STAT_UNIT else m

/-- The 802.1Q tag of the frames the hub sends (R311). -/
def vlanTag (h : Hub) : Option Nat :=
  if h.flag FT_ETH_CFG_VLAN_EN then some (h.fld FT_ETH_CFG_PCP * 2 ^ 13 + h.fld FT_ETH_CFG_VID) else none

/-- The two PTP addresses (R311), and the broadcast address. -/
abbrev ptpForwardable : Nat := 0x011B19000000
abbrev ptpLocal : Nat := 0x0180C200000E
abbrev broadcast : Nat := 2 ^ 48 - 1

/-- The port accepts a frame: one to the hub, to a PTP address or to all (R319). -/
def accepts (h : Hub) (dest : Nat) : Bool :=
  dest == ptpForwardable || dest == ptpLocal || dest == broadcast || dest == h.macAddress

/-- A PTP message reaches the port: those to the PTP addresses are taken, others that the port accepts are ignored (R311, R319). -/
def ptpMessage (m : PtpHdr) (f : Hub → Hub) (h : Hub) : Hub :=
  if !h.ptpOn || !h.accepts m.dest then h
  else if m.dest == ptpForwardable || m.dest == ptpLocal then f h else h.ignorePtp

/-- The message is of the hub's domain. -/
def inDomain (h : Hub) (m : PtpHdr) : Bool := m.domain == h.fld FT_CFG_DOMAIN && m.sdo == 0

/-- The message comes from the selected master. -/
def fromMaster (h : Hub) (m : PtpHdr) : Bool := h.ft.selected == some (m.clock, m.port)

/-! ### Masters (R311, R314) -/

/-- Lexicographic order of lists of numbers. -/
def listBefore : List Nat → List Nat → Bool
  | a :: as, b :: bs => decide (a < b) || (a == b && listBefore as bs)
  | [], _ :: _ => true
  | _, [] => false

/-- What the data-set comparison of IEEE 1588-2019 ranks a master by, the lowest first: priority1, clockClass, clockAccuracy,
offsetScaledLogVariance, priority2 and identity of its grandmaster, then stepsRemoved, then its own identity and port (PRESUMED,
log entry 130). -/
def masterRank (f : Foreign) : List Nat :=
  (f.dataset.take 1 ++ [f.cls] ++ f.dataset.drop 1) ++ [f.clock, f.port]

/-- The best of the qualified masters (R311). -/
def bestMaster (ms : List Foreign) : Option Foreign :=
  ms.foldl (fun best f => match best with
    | some b => if listBefore (masterRank f) (masterRank b) then some f else some b
    | none => some f) none

/-- The last qualified master is lost (R314). -/
def loseMasters (h : Hub) : Hub :=
  let h : Hub := { h with ft := { h.ft with
    masters := h.ft.masters.map fun m => { m with qualified := false }
    selected := none, waiting := none, sync := none, request := none, gathered := [], jumps := [] } }
  let h := ((h.setReg FT_MASTER_W0 0).setReg FT_MASTER_W1 0).setReg FT_MASTER_W2 0
  match h.ftState with
  | .none => h
  | .acquire => (({ h with ft := { h.ft with delays := [], dref := 0 } } : Hub).put FT_PATH_DELAY_NS 0).setFtState .none
  | _ => h.setFtState .hold

/-- The best of the qualified masters is selected; a change raises FT_MASTER, and the first selection starts acquisition
(R311, R314). -/
def selectMaster (h : Hub) : Hub :=
  match bestMaster (h.ft.masters.filter Foreign.qualified) with
  | none => if h.ft.selected.isSome then h.loseMasters else h
  | some m =>
    let h := h.setReg FT_UTC_OFFSET (BitVec.ofNat 32 (ofBool m.utcValid * 2 ^ 31 + unsigned 16 m.utc))
    let h := h.put FT_MASTER_CLASS m.cls
    if h.ft.selected = some (m.clock, m.port) then h else
    let h : Hub := { h with ft := { h.ft with selected := some (m.clock, m.port), waiting := none, sync := none, request := none } }
    let h := (h.put FT_MASTER_ID_HI (m.clock / 2 ^ 32)).put FT_MASTER_ID_LO m.clock
    let h := (h.put FT_MASTER_PORT m.port).raise 186 0 [m.clock % 2 ^ 32]
    if h.ftState = .none then h.setFtState .acquire else h

/-- An Announce arrives (R311): two of one master within four announce intervals qualify it. -/
def announce (m : PtpHdr) (cls : Nat) (dataset : List Nat) (utc : Int) (utcValid : Bool) (h : Hub) : Hub :=
  h.ptpMessage m fun h =>
  let h := h.bump FT_CNT_ANNOUNCE 1
  if !h.inDomain m then h.ignorePtp else
  let span := if m.logInterval < 0 then 4000000000 / 2 ^ m.logInterval.natAbs else 4000000000 * 2 ^ m.logInterval.natAbs
  let same (f : Foreign) : Bool := f.clock == m.clock && f.port == m.port
  let fresh (f : Foreign) : Bool := decide (h.lt ≤ f.heard + f.span)
  let before := h.ft.masters.find? same
  let qualified := match before with | some f => decide (h.lt ≤ f.heard + span) | none => false
  let new : Foreign := { clock := m.clock, port := m.port, cls := cls, dataset := dataset, utc := utc, utcValid := utcValid
                         heard := h.lt, span := span, qualified := qualified }
  let others := (h.ft.masters.filter fun f => !same f).map fun f => { f with qualified := f.qualified && fresh f }
  ({ h with ft := { h.ft with masters := others ++ [new] } } : Hub).selectMaster

/-! ### The servo (R308, R314) -/

/-- The part of y that corrects phase: within 100 ppm, and 100 ppm while a large offset is removed (R308). -/
def phasePart (h : Hub) (offset : Int) : Int :=
  if h.flag FT_STAT_OFFSET_LARGE then (if 0 < offset then -100000000 else 100000000)
  else clamp (-100000000) 100000000 (Config.servoPhase (h.fld FT_SERVO_TAU) offset)

/-- The flag of a large offset follows the offset of an exchange, in ps (R308). -/
def judgeOffset (offset : Int) (h : Hub) : Hub :=
  let big := decide (1000000000 < offset.natAbs)
  if big && !h.flag FT_STAT_OFFSET_LARGE then (h.put FT_STAT_OFFSET_LARGE 1).raise 189 0 [sword (ratioOr offset 1000000)]
  else if offset.natAbs < 1000000 then h.put FT_STAT_OFFSET_LARGE 0 else h

/-- An exchange feeds the running servo; while a ramp runs the rate is the ramp's (R308, R317). -/
def runServo (offset : Int) (h : Hub) : Hub :=
  let h := h.judgeOffset offset
  let last := h.sfld FT_OFFSET_NS
  let h := h.sput FT_OFFSET_NS
    (clamp (-2147483648) 2147483647 (Config.servoFilter (h.fld FT_SERVO_TAU) last offset))
  if h.ft.ramp.isSome then h else
  let freq := clamp (-300000000) 300000000 (Config.servoFreq (h.fld FT_SERVO_TAU) h.ft.freq offset)
  let h : Hub := { h with ft := { h.ft with freq := freq } }
  h.setRate h.lt (clamp (-300000000) 300000000 (freq + h.phasePart offset))

/-- D_ref, in ps, comes to be a value (R316). -/
def setDref (d : Int) (h : Hub) : Hub :=
  ({ h with ft := { h.ft with dref := d } } : Hub).put FT_PATH_DELAY_NS (unsigned 32 (ratioOr d 1000))

/-- An exchange that is no jump sample feeds D_ref and the servo (R316). -/
def goodExchange (mpd offset : Int) (h : Hub) : Hub :=
  let ds := (mpd :: h.ft.delays).take 16
  let h := ({ h with ft := { h.ft with delays := ds } } : Hub).setDref (mean ds)
  h.runServo offset

/-- The jump samples lie within THRESH of their own median, so the jump is accepted (R317): their median offset, in ps, goes by a
ramp of y at SLEW ppm, away from the servo's frequency estimate. -/
def acceptJump (h : Hub) : Hub :=
  let mpds := h.ft.jumps.map Prod.fst
  let o := median (h.ft.jumps.map Prod.snd)
  let slew := max 1 (h.fld FT_JUMP_CFG_SLEW)
  let dy : Int := if 0 < o then -((slew * 1000000 : Nat) : Int) else ((slew * 1000000 : Nat) : Int)
  let end_ := h.lt + ceilDiv (o.natAbs * 1000) slew
  let h := h.setDref (mean mpds)
  let h : Hub := { h with ft := { h.ft with
    delays := mpds.reverse.take 16, jumps := [], kept := true, acceptedDue := true
    ramp := if o = 0 then h.ft.ramp else some (h.lt, end_, dy) } }
  let h := if o = 0 then h else h.setRate h.lt (clamp (-300000000) 300000000 (h.ft.freq + dy))
  let h := (h.bump FT_CNT_JUMPS 1).setFtState .track
  h.raise 188 0 [h.fld FT_PATH_DELAY_NS, sword (ratioOr o 1000)]

/-- A jump sample in FROZEN; PERSIST of them decide (R317). -/
def jumpSample (mpd offset : Int) (h : Hub) : Hub :=
  let js := h.ft.jumps ++ [(mpd, offset)]
  let h : Hub := { h with ft := { h.ft with jumps := js } }
  if js.length < h.fld FT_JUMP_CFG_PERSIST then h else
  let m := median (js.map Prod.fst)
  if js.all fun p => decide ((p.1 - m).natAbs ≤ 1000 * h.fld FT_JUMP_CFG_THRESH) then h.acceptJump
  else { h with ft := { h.ft with jumps := [] } }

/-- An exchange in TRACK or FROZEN meets the path-jump test (R316, R317). -/
def judgeExchange (mpd offset : Int) (h : Hub) : Hub :=
  let d := mpd - h.ft.dref
  let jump := decide (1000 * h.fld FT_JUMP_CFG_THRESH < d.natAbs)
  if h.ftState = .frozen then
    if jump then h.jumpSample mpd offset else
    let h : Hub := { h with ft := { h.ft with jumps := [] } }
    let h := if h.ft.kept then h else h.put FT_STAT_ASYM_SUSPECT 0
    ((h.bump FT_CNT_JUMPS 1).setFtState .track).goodExchange mpd offset
  else if jump then
    let h := (h.put FT_STAT_ASYM_SUSPECT 1).setFtState .frozen
    (h.raise 187 0 [sword (ratioOr d 1000)]).jumpSample mpd offset
  else h.goodExchange mpd offset

/-- The last exchange of acquisition is complete: FT is stepped by the median of the offsets (R307, R314). -/
def stepFt (h : Hub) : Hub :=
  let o := median h.ft.gathered
  let h : Hub := { h with ft := { h.ft with
    ft := h.ftAt h.lt - o * 1000000000, at_ := h.lt, gathered := [], stepDue := true } }
  let h := (h.put FT_STAT_FT_VALID 1).raise 185 0 (wide (unsigned 64 (ratioOr (-o) 1000)) ++ [h.fld FT_STAT_SESSION])
  h.setFtState .track

/-- A complete exchange, path delay and offset in ps (R313, R314). An exchange that completes during a management stall is
discarded (R4). -/
def exchange (mpd offset : Int) (h : Hub) : Hub :=
  if h.boot.stalled then h else
  match h.ftState with
  | .none => h
  | .acquire =>
    let ds := (mpd :: h.ft.delays).take 16
    let h := ({ h with ft := { h.ft with delays := ds, gathered := h.ft.gathered ++ [offset] } } : Hub).setDref (mean ds)
    if h.ft.gathered.length < h.fld FT_SERVO_ACQ_N then h else h.stepFt
  | .hold => (h.setFtState .track).judgeExchange mpd offset
  | _ => h.judgeExchange mpd offset

/-! ### Messages (R311-R313) -/

/-- A complete Sync of the selected master is kept for the exchange. -/
def takeSync (t1 corr : Int) (lt : Nat) (h : Hub) : Hub :=
  ({ h with ft := { h.ft with sync := some (t1, corr, lt), waiting := none } } : Hub).bump FT_CNT_SYNC 1

/-- A Sync arrives (R311); a two-step one waits for its Follow_Up. -/
def syncIn (m : PtpHdr) (twoStep : Bool) (t1 corr : Int) (ns : Nat) (h : Hub) : Hub :=
  h.ptpMessage m fun h =>
  if !h.inDomain m || !h.fromMaster m || m.logInterval < -4 || 1 < m.logInterval then h.ignorePtp
  else if twoStep then { h with ft := { h.ft with waiting := some { seq := m.seq, lt := h.ltFine ns, corr := corr } } }
  else h.takeSync t1 corr (h.ltFine ns)

/-- A Follow_Up arrives (R311). -/
def followUp (m : PtpHdr) (t1 corr : Int) (h : Hub) : Hub :=
  h.ptpMessage m fun h =>
  if !h.inDomain m || !h.fromMaster m || m.logInterval < -4 || 1 < m.logInterval then h.ignorePtp
  else match h.ft.waiting with
    | some w => if w.seq = m.seq then h.takeSync t1 (corr + w.corr) w.lt else h.ignorePtp
    | none => h.ignorePtp

/-- The hub sends a Delay_Req to its master, with t₃ itself as originTimestamp; LT while FT is not valid (R312). -/
def delayReq (ns : Nat) (h : Hub) : Hub :=
  if !h.ptpOn || h.ft.selected.isNone then h else
  let lt := h.ltFine ns
  let stamp := if h.flag FT_STAT_FT_VALID then h.ftNs lt else lt
  let out : DelayOut := { dest := if h.flag FT_CFG_DST then ptpLocal else ptpForwardable, source := h.macAddress, tag := h.vlanTag
                          seq := h.ft.reqSeq, origin := stamp }
  ({ h with ft := { h.ft with
    request := some (h.ft.reqSeq, lt, stamp), delayOut := some out, reqSeq := (h.ft.reqSeq + 1) % 65536 } } : Hub).bump
    FT_CNT_DELAY_REQ 1

/-- A Delay_Resp arrives (R313): it completes an exchange with the last Sync. -/
def delayResp (m : PtpHdr) (t4 corr : Int) (h : Hub) : Hub :=
  h.ptpMessage m fun h =>
  if !h.inDomain m || !h.fromMaster m || m.logInterval < -4 || 4 < m.logInterval then h.ignorePtp
  else match h.ft.request with
    | none => h.ignorePtp
    | some (seq, lt3, _) =>
      if seq != m.seq then h.ignorePtp else
      let h : Hub := ({ h with ft := { h.ft with request := none } } : Hub).bump FT_CNT_DELAY_RESP 1
      match h.ft.sync with
      | none => h
      | some (t1, cs, lt2) =>
        let ps : Int := 1000000000
        let ms := h.ftAt lt2 - (t1 + cs) * ps
        let sm := (t4 - corr) * ps - h.ftAt lt3
        h.exchange (ratioOr (ms + sm) 2000000000) (ratioOr (ms - sm - 2 * h.sfld (FT_ASYM_PS 0) * ps) 2000000000)

/-- LOSS_INTERVALS intervals have passed without what the state waits for (R314); jump samples are discarded. -/
def lossIntervals (h : Hub) : Hub :=
  if h.ftState = .track || h.ftState = .frozen then
    ({ h with ft := { h.ft with jumps := [] } } : Hub).setFtState .hold
  else h

/-- The ramp of y ends (R317): LT is at its end, and y is the servo's frequency estimate again. In a management stall the rate is
held, and changes when the plane resumes (R4). -/
def rampEnd (h : Hub) : Hub :=
  match h.ft.ramp with
  | none => h
  | some (_, end_, _) =>
    let h : Hub := { h with lt := max h.lt (ceilDiv end_ 10 * 10) }
    if h.boot.stalled then h else
    { h.setRate end_ h.ft.freq with ft := { (h.setRate end_ h.ft.freq).ft with ramp := none } }

/-- The plane resumes after the end of a ramp: y is the servo's frequency estimate again from here on (R4, R317). -/
def resumeRamp (h : Hub) : Hub :=
  match h.ft.ramp with
  | none => h
  | some (_, end_, _) =>
    if h.lt < end_ then h else { h.setRate h.lt h.ft.freq with ft := { (h.setRate h.lt h.ft.freq).ft with ramp := none } }

/-! ### Time-correspondence records (R309, R310, R318) -/

/-- The turn of the next record: the next turn boundary where a step or an accepted jump calls for one, else the next turn that
is a multiple of TCR_TURNS; none where no record is called for (R309). -/
def recordTurn (h : Hub) : Option Int :=
  let t0 := if h.mt.slot = 0 && h.ft.lastTurn != some h.mt.turn then h.mt.turn else h.mt.turn + 1
  let n := h.fld FT_CFG_TCR_TURNS
  if !h.mt.anchored then none
  else if h.ft.stepDue || h.ft.acceptedDue then some t0
  else if n = 0 then none
  else
    let k := (t0 % (2 ^ 40 : Nat)).toNat
    some (t0 + ((min ((n - k % n) % n) (if k = 0 then 0 else 2 ^ 40 - k) : Nat) : Int))

/-- The cross-check at a record (R318). -/
def crossCheck (ft : Int) (slot : Int) (h : Hub) : Hub :=
  let base : XchkBase := { ft := ft, slot := slot }
  let hold := h.flag MT_STATE_HOLDOVER
  if !h.flag FT_XCHK_EN || !h.flag FT_STAT_FT_VALID then h
  else match h.ft.base with
    | none => if h.ftState = .track || h.ft.rebase then { h with ft := { h.ft with base := some base, rebase := false } } else h
    | some b =>
      if h.ft.rebase || hold || h.ft.moved then { h with ft := { h.ft with base := some base, rebase := false } }
      else
        let dev := ratioOr (ft - b.ft - (slot - b.slot) * (h.fld FT_XCHK_SLOT_FS : Int) * 1000000) 1000000000000
        let h := h.sput FT_XCHK_DEV_NS dev
        let bad := decide (h.fld FT_XCHK_TOL_NS < dev.natAbs)
        let was := h.flag FT_STAT_XCHK_MISMATCH
        let h := h.put FT_STAT_XCHK_MISMATCH (ofBool bad)
        if bad && !was then h.raise 190 0 [sword dev] else h

/-- The eight words of a record at an LT (R310). -/
def recordWords (lt : Nat) (h : Hub) : List Word :=
  let valid := h.flag FT_STAT_FT_VALID
  let w0 := 14 * 2 ^ 28 + 2 ^ 24 + ofBool valid * 2 ^ 23 + ofBool (h.ftState = .track) * 2 ^ 22
    + h.fld FT_STAT_ASYM_SUSPECT * 2 ^ 21 + h.fld MT_STATE_HOLDOVER * 2 ^ 20 + ofBool h.ft.stepDue * 2 ^ 19
    + h.fld FT_STAT_XCHK_MISMATCH * 2 ^ 18 + ofBool h.ft.acceptedDue * 2 ^ 17 + h.fld FT_STAT_SESSION * 2 ^ 8
  let rate := unsigned 16 (ratioOr h.ft.y 10000)
  ([w0] ++ wide h.mtNow.pack ++ wide (if valid then h.ftNs lt else 0) ++ wide lt
    ++ [rate * 65536 + min 65535 (Config.ftError h.fresh)]).map (BitVec.ofNat 32)

/-- The count runs on to the next edge that calls for a record, which goes to the service stream (R309). -/
def timeRecord (ns : Nat) (h : Hub) : Hub :=
  match h.recordTurn with
  | none => h
  | some t =>
    let h := h.advanceTo (t * h.spt)
    let lt := h.ltFine ns
    let h := h.crossCheck (h.ftAt lt) h.now
    let ws := h.recordWords lt
    let h := h.tick.produceRecord 0 h.mtNow ws
    { h with ft := { h.ft with lastTurn := some t, record := ws, stepDue := false, acceptedDue := false, moved := false } }

/-! ### Commands of FT.CTRL (R317, R318) -/

/-- ASYM_ACK: outside FROZEN it clears ASYM_SUSPECT. -/
def ackAsym (h : Hub) : Hub :=
  if h.ftState = .frozen then h
  else ({ h with ft := { h.ft with kept := false } } : Hub).put FT_STAT_ASYM_SUSPECT 0

/-- XCHK_REBASE: the next record becomes the base. -/
def askRebase (h : Hub) : Hub := { h with ft := { h.ft with rebase := true } }

/-! ### The port (R319, R322, R323) -/

def peer (h : Hub) : Nat := h.fld FT_ETH_CFG_PEER_W2 * 65536 + h.fld FT_ETH_CFG_PEER_W3

/-- Two words to a 64-bit one, the first in the high half. -/
def pairWords : List Nat → List (BitVec 64)
  | a :: b :: rest => BitVec.ofNat 64 (a % 2 ^ 32 * 2 ^ 32 + b % 2 ^ 32) :: pairWords rest
  | [a] => [BitVec.ofNat 64 (a % 2 ^ 32 * 2 ^ 32)]
  | [] => []

/-- Words 8 to 15 of a SUMMARY frame (R322). -/
def summaryTail (h : Hub) : List Nat :=
  let mask (n : Nat) (f : Nat → Bool) : Nat := (List.range n).foldl (fun m i => m + ofBool (f i) * 2 ^ i) 0
  let gaps := ((List.range 128).map fun s => h.fld (CIS_GAP_CNT_GAPS s)).sum
  let inService (e : Nat) : Bool := h.fld (SE_ENG_STAT_STATE e) != 0 && h.fld (SE_ENG_STAT_STATE e) != 4
  [(h.reg WL_STAT).toNat,
   mask 16 (fun n => h.flag (TRG_TRIP_STAT_LATCHED n)) * 65536 + mask 16 h.tripRuns,
   (h.reg TRG_STAT).toNat, min gaps 0xFFFFFFFF,
   mask 16 (fun a => h.flag (CNV_ADC_STAT_IN_SERVICE a)) * 65536 + mask 16 inService,
   h.fld PWR_TEMP_TJ * 65536, (h.reg FT_STAT).toNat, h.lt]

/-- A SUMMARY frame leaves (R322). -/
def sendSummary (h : Hub) : Hub :=
  if !h.ethUp || h.fld FT_ETH_CFG_SUMMARY_MS = 0 then h else
  let rec8 := if h.ft.record.isEmpty then List.replicate 8 0 else h.ft.record.map BitVec.toNat
  let out : EthOut := { dest := if h.peer = 0 then broadcast else h.peer
                        source := h.macAddress, tag := h.vlanTag
                        header := 0x4A * 2 ^ 24 + 2 ^ 20 + 2 * 2 ^ 16 + Config.frameSeq h.fresh % 65536
                        words := pairWords (rec8 ++ h.summaryTail) }
  ({ h with ft := { h.ft with summary := some out } } : Hub).tick

/-- Auto-negotiation completes with the link up, or the link goes down (R319, R323). -/
def ethLink (up : Bool) (h : Hub) : Hub :=
  if h.bootStep == 8 || h.flag FT_ETH_STAT_LINK == up then h else
  let h := ((h.put FT_ETH_STAT_LINK (ofBool up)).put FT_ETH_STAT_AN_DONE (ofBool up)).put FT_STAT_ETH_LINK (ofBool up)
  let h := if up then h else h.bump FT_ETH_STAT_FLAPS 1
  h.raise 191 0 [ofBool (!up)]

end Hub

def execSync (hdr : PtpHdr) (twoStep : Bool) (t1 corr : Int) (ns : Nat) (s : State) : Host.Outcome State Fault Refusal :=
  s.onHub (Hub.syncIn hdr twoStep t1 corr ns)
def execFollowUp (hdr : PtpHdr) (t1 corr : Int) (s : State) : Host.Outcome State Fault Refusal :=
  s.onHub (Hub.followUp hdr t1 corr)
def execDelayReq (ns : Nat) (s : State) : Host.Outcome State Fault Refusal := s.onHub (Hub.delayReq ns)
def execDelayResp (hdr : PtpHdr) (t4 corr : Int) (s : State) : Host.Outcome State Fault Refusal :=
  s.onHub (Hub.delayResp hdr t4 corr)
def execAnnounce (hdr : PtpHdr) (cls : Nat) (dataset : List Nat) (utc : Int) (utcValid : Bool) (s : State) :
    Host.Outcome State Fault Refusal := s.onHub (Hub.announce hdr cls dataset utc utcValid)
def execLossIntervals (s : State) : Host.Outcome State Fault Refusal := s.onHub Hub.lossIntervals
def execQualifiedMasterLoss (s : State) : Host.Outcome State Fault Refusal :=
  s.onHub fun h => if h.ft.selected.isSome then h.loseMasters else h
def execJumpRampEnd (s : State) : Host.Outcome State Fault Refusal := s.onHub Hub.rampEnd
def execTimeCorrespondence (ns : Nat) (s : State) : Host.Outcome State Fault Refusal := s.onHub (Hub.timeRecord ns)
def execAsymAck (path : Path) (s : State) : Host.Outcome State Fault Refusal :=
  s.onHub (Hub.writeCmd path FT_CTRL .LV fun h => some h.ackAsym)
def execXchkRebase (path : Path) (s : State) : Host.Outcome State Fault Refusal :=
  s.onHub (Hub.writeCmd path FT_CTRL .LV fun h => some h.askRebase)
def execSummary (s : State) : Host.Outcome State Fault Refusal := s.onHub Hub.sendSummary
def execEthLink (up : Bool) (s : State) : Host.Outcome State Fault Refusal := s.onHub (Hub.ethLink up)

end Sys2Proof.Machine
end

