-- ==== Sys2Proof/Machine/PowerOps.lean ====
section
/-!
DEFINITION. The power domains (R452, R453): which of them the image, the role and the rails want on, and what powering one on
or gating it off does.
-/

namespace Sys2Proof.Machine

/-- Domain codes of R460. -/
abbrev codeEng (e : Nat) : Nat := 2 + e
abbrev codeAfe (g : Nat) : Nat := 19 + g
abbrev codeFia : Nat := 51

/-- Why a domain changes (R460). -/
inductive DomainCause where
  | register | role | rail | quiescent
  deriving DecidableEq, Repr

def DomainCause.code : DomainCause → Nat
  | .register => 0 | .role => 1 | .rail => 2 | .quiescent => 3

namespace Hub

/-- A domain that the user controls is powered. -/
def domainOn (h : Hub) (code : Nat) : Bool :=
  if code < 19 then bit (h.fld PWR_DOM_STAT_ENG) (code - 2)
  else if code < 51 then h.afePowered (code - 19)
  else h.fiaOn

def showDomain (code : Nat) (on : Bool) (h : Hub) : Hub :=
  if code < 19 then h.put PWR_DOM_STAT_ENG (putBit (h.fld PWR_DOM_STAT_ENG) (code - 2) on)
  else if code < 51 then h.put PWR_DOM_STAT_AFE (putBit (h.fld PWR_DOM_STAT_AFE) (code - 19) on)
  else h.put PWR_DOM_STAT_FIA (ofBool on)

/-- The role powers the domains of the data plane (R424, R426). -/
def rolePowers (h : Hub) : Bool := h.fld TWN_STAT_ROLE != 1 && h.fld TWN_STAT_ROLE != 2

/-- The register, the role and the rails want a domain on (R451-R453). -/
def wanted (h : Hub) (code : Nat) : Bool :=
  h.rolePowers &&
    (if code < 19 then bit (h.fld PWR_DOM_CTL_ENG) (code - 2)
     else if code < 51 then bit (h.fld PWR_DOM_CTL_AFE) (code - 19) && !bit h.pwr.faulted 3 && !bit h.pwr.faulted 4
     else h.flag PWR_DOM_CTL_FIA && !bit h.pwr.faulted 5)

/-- An engine powers on: its memory is filled unless it was retained through the Quiescent state, its known-answer test passes, and it is idle; one that has failed stays failed
until reset (R328, R453). -/
def engineOn (e : Nat) (retained : Bool) (h : Hub) : Hub :=
  let h := if retained then h else h.fillMemory e
  let failed := h.fld (SE_ENG_STAT_CAUSE e) != 0
  let h := h.put (SE_ENG_STAT_STATE e) (if failed then 4 else if (h.recipesOf e).isEmpty || e == 16 then 2 else 1)
  if e = 16 ∧ ¬ failed then { h with se := { h.se with spareOut := false } } else h

/-- An engine is gated off: its local memory is lost; without SE_SPARE a failure finds no spare (R164, R453). -/
def engineOff (e : Nat) (h : Hub) : Hub :=
  let h := h.put (SE_ENG_STAT_STATE e) 0
  if e ≠ 16 then h else
  let lost := h.se.takeover
  let h := ({ h with se := { h.se with spareOut := true, takeover := none, swap := none } } : Hub).raise 64 8 [0]
  match lost with | some (f, _) => h.loseEngine f | none => h

/-- The cells of a group power on: each input that is not OFF settles for the span of a mode change, its comparators frozen
(R86, R133, R453). A CA input's amplifier is released at its first tick, and the charge of the gated interval went uncounted (R70);
in a takeover or swap the checkpoint says so. At step 5 of boot that span is over before arm. -/
def groupOn (g : Nat) (role : Bool) (h : Hub) : Hub :=
  if h.bootStep = 5 then h else
  (List.range 16).foldl (fun (h : Hub) (i : Nat) =>
    let c := 16 * g + i
    if !h.acquires c then h else
    let h := h.changeSpan c 16 200000
    if h.mode c = 2 then
      h.setCell c { h.cell c with release := true, switch := [], q1Frame := none, gap := !role }
    else h) h

/-- The cells of a group are gated off: inputs and EXC go high impedance, so comparators read low and the excitation's
conditions end (R77, R82, R99); a visit in the group ends (R366). -/
def groupOff (g : Nat) (h : Hub) : Hub :=
  let h := (List.range 16).foldl (fun (h : Hub) (i : Nat) =>
    let c := 16 * g + i
    (h.setCell c { h.cell c with rawHi := false, rawLo := false, rawSw := false }).driveCmp c) h
  let h := (((h.put (AFE_EXC_STAT_LIMIT g) 0).put (AFE_EXC_STAT_SENSE_OPEN g) 0).put (AFE_EXC_STAT_STRING_OPEN g) 0).put
    (AFE_EXC_STAT_LOAD g) 0
  let h := h.setGroup g { h.group g with limitFault := false, senseFault := false, stringFault := false, baseline := none }
  if (h.rotation g).visit.isSome then h.endVisit g else h

/-- A domain powers on or is gated off for a cause; a change is reported (R453). The Trace Pipeline that step 5 of boot powers starts
at arm, and where the mirror is current FIA's power-up with the role keeps the gate records it holds (R193). -/
def setDomain (code : Nat) (cause : DomainCause) (on : Bool) (h : Hub) : Hub :=
  if h.domainOn code = on then h else
  let h := if !on && decide (code < 19) then h.gateMemory (code - 2) else h
  let h := h.showDomain code on
  let h :=
    if code < 19 then (if on then h.engineOn (code - 2) (cause == .quiescent) else h.engineOff (code - 2))
    else if code < 51 then (if on then h.groupOn (code - 19) (cause == .role) else h.groupOff (code - 19))
    else if on then
      let h := h.serveFibre true
      if h.bootStep = 5 then h else
      (if cause == .role && h.fld TWN_STAT_MIRROR == 2 then h else h.coldStart 1).refreshLaser
    else ((h.serveFibre false).put FI_STAT_STATE 0).refreshLaser
  h.raise 236 0 [code, ofBool on, cause.code]

/-- The domains the user controls, in order of their codes. -/
def userDomains : List Nat := (List.range 50).map (· + 2)

/-- Every domain goes to the state that is wanted of it. -/
def settleDomains (cause : DomainCause) (h : Hub) : Hub :=
  userDomains.foldl (fun (h : Hub) code => h.setDomain code cause (h.wanted code)) h

/-- Every domain the user controls is gated off. -/
def gateDomains (cause : DomainCause) (h : Hub) : Hub :=
  userDomains.foldl (fun (h : Hub) code => h.setDomain code cause false) h

/-- A write of PWR.DOM_CTL asks to gate an engine that runs a recipe, or any engine while SE_SPARE stands in (R453). -/
def gateRefused (h : Hub) (word : Nat) (v : Word) : Bool :=
  word == 1 && (List.range 17).any fun e =>
    bit (h.fld PWR_DOM_STAT_ENG) e && !bit v.toNat e
      && (h.fld (SE_ENG_STAT_STATE e) == 1 || h.fld (SE_ENG_STAT_STATE 16) == 5)

end Hub

end Sys2Proof.Machine
end

