-- ==== Sys2Proof/Machine/FrameTick.lean ====
section
/-!
DEFINITION. The frame tick: the series that runs (R38, R49, R92), the live writes that act at a tick (R102, R115, R157, R236),
FAULT and SETTLING marking (R97, R98, R131-R134), the schedule of the frame (R110-R122), and the frame's window (R205).
-/

namespace Sys2Proof.Machine

namespace Hub

/-! ### Which ticks are taken -/

/-- Frame ticks reach the data plane: armed, no shutdown, not on the way to the Quiescent state, and the role runs frames (R424,
R426, R433, R440, R454). -/
def framesRun (h : Hub) : Bool :=
  h.bootStep == 6 && !h.pwr.shutdown && !h.pwr.draining && !(h.fld TWN_STAT_ROLE == 1 || h.fld TWN_STAT_ROLE == 2)
    && !(h.fld TWN_STAT_ROLE == 6 && h.twn.swap.past)

/-- Frames are streamed, recorded and evaluated: not before the resume point of a takeover or swap (R433, R440). -/
def framesCount (h : Hub) : Bool := h.framesRun && !(h.fld TWN_STAT_ROLE == 3 || h.fld TWN_STAT_ROLE == 5)

/-- A FRAME_SERIES that executes its first instance supersedes every other one that has executed an instance (R49). -/
def supersede (e : Nat) (h : Hub) : Hub :=
  h.tt.entries.foldl (fun (h : Hub) (p : Nat × TtEntry) =>
    let x : TtEntry := h.entry p.1
    if p.1 ≠ e ∧ x.type = 1 ∧ x.enable ∧ x.ran then (h.setEntry p.1 (x.withEnable false)).raise 206 0 [p.1, e] else h) h

/-! ### Closing a frame -/

/-- The window that runs closes: it waits for its evaluation, and the captures deferred in it are reported (R122, R206). -/
def closeWindow (h : Hub) : Hub :=
  match h.trg.window with
  | none => h
  | some w =>
    let h := (List.range 16).foldl (fun (h : Hub) (a : Nat) =>
      let n := (h.adc a).deferred.length
      if n = 0 then h else h.raise (32 + a) 1 [w.frame % 65536, n]) h
    { h with trg := { h.trg with
      window := none
      closedWin := if h.framesCount then h.trg.closedWin ++ [w] else h.trg.closedWin } }

/-! ### Live writes at the tick (R102, R132-R134) -/

/-- ROLE of an input as its own mode and its pair have it (R75). -/
def showRole (c : Nat) (h : Hub) : Hub :=
  h.put (AFE_CELL_STAT_ROLE c) (if h.isPartner c then 2 else if h.mode c = 0 then 0 else 1)

/-- A write to AFE.CELL_CFG[c] takes effect (R70, R71, R74, R80, R86, R102, R133, R366). -/
def applyCellCfg (c : Nat) (v : Word) (h : Hub) : Hub :=
  let g := c / 16
  let oldMode := h.mode c
  let oldGain := h.fld (AFE_CELL_CFG_GAIN c)
  let oldRange := h.fld (AFE_CELL_CFG_CA_RANGE c)
  let oldWires := h.fld (AFE_CELL_CFG_WIRES c)
  let k := h.cnv.taken - 1
  let busy := oldMode == 2 && (AFE_CELL_CFG_MODE c).get v == 2 && oldRange != (AFE_CELL_CFG_CA_RANGE c).get v
    && (h.cell c).switch.any fun s => s.oldRange != s.newRange && s.frame + 1 == k
  -- a range write during the SETTLING of the last switch waits for the tick after it (R74)
  let h := if busy then { h with staged := SMap.insert h.staged (AFE_CELL_CFG c) v } else h
  let v := if busy then (AFE_CELL_CFG_CA_RANGE c).put v oldRange else v
  let hadRes := h.hasRes g
  let pairs := oldMode == 3 || oldMode == 4
  let h := h.setReg (AFE_CELL_CFG c) v
  let mode := h.mode c
  -- the group's first RES pair has its baseline taken afresh (R82)
  let h := if !hadRes && h.hasRes g then h.setGroup g { h.group g with baseline := none } else h
  let h := if oldMode == 4 && oldWires == 1 && !(mode == 4 && h.fld (AFE_CELL_CFG_WIRES c) == 1) then
      { (h.put (AFE_LEAD_MEAS_VALID c) 0).put (AFE_LEAD_MEAS_RATIO c) 0 with
        afe := { h.afe with leads := SMap.erase h.afe.leads c } }
    else h
  let h :=
    if mode ≠ oldMode then
      let h := h.changeSpan c 16 200000
      let h := if mode = 2 then
          h.setCell c { h.cell c with zeroY := some k, zeroFrame := some k, qacc := 0, inexact := false, gap := false }
        else h
      let h := h.showRole c
      if c % 2 ≠ 0 then h else
      let h := h.showRole (c + 1)
      if h.isPartner (c + 1) then h.mirrorPair (c + 1) else if pairs then h.leavePair (c + 1) else h
    else if mode = 2 ∧ h.fld (AFE_CELL_CFG_CA_RANGE c) ≠ oldRange then
      let h := h.changeSpan c 1 0
      h.setCell c { h.cell c with switch := (h.cell c).switch ++
        [{ oldRange := oldRange, newRange := h.fld (AFE_CELL_CFG_CA_RANGE c), frame := k }] }
    else if mode ≠ 2 ∧ mode ≠ 0 ∧ h.fld (AFE_CELL_CFG_GAIN c) ≠ oldGain then h.changeSpan c 2 1500
    else h
  let h := (h.showCoef (17 * g + c % 16)).driveCmp c
  -- a visited input that is switched off ends its visit, and one that changes its setting starts it again (R366)
  if (h.rotation g).visit != some c then h
  else if !h.visitable c then h.endVisit g
  else if mode != oldMode || h.fld (AFE_CELL_CFG_GAIN c) != oldGain || h.fld (AFE_CELL_CFG_CA_RANGE c) != oldRange then
    h.restartVisit g
  else h

/-- A live write that waited for the tick takes effect: most only take their value. -/
def applyStaged (a : Nat) (v : Word) (h : Hub) : Hub :=
  if 0x20000 ≤ a ∧ a < 0x30000 ∧ (List.range 512).any (fun c => AFE_CELL_CFG c == a) then
    h.applyCellCfg ((a - AFE_CELL_CFG 0) / 4) v
  else if (List.range 32).any (fun g => AFE_EXC_CFG g == a) then
    let g := (a - AFE_EXC_CFG 0) / 4
    let level := h.fld (AFE_EXC_CFG_LEVEL g)
    let h := h.setReg a v
    let h := if h.flag (AFE_EXC_CFG_EN g) then h else
      ((((h.put (AFE_EXC_STAT_LIMIT g) 0).put (AFE_EXC_STAT_SENSE_OPEN g) 0).put (AFE_EXC_STAT_STRING_OPEN g) 0).setGroup g
        { h.group g with limitFault := false, senseFault := false, stringFault := false, baseline := none })
    if h.fld (AFE_EXC_CFG_LEVEL g) = level then h else
    let h := h.setGroup g { h.group g with baseline := none }
    (List.range 16).foldl (fun (h : Hub) (i : Nat) =>
      let c := 16 * g + i
      if h.mode c = 3 ∨ h.mode c = 4 then h.openSpan c 0 500000 else h) h
  else if (List.range 512).any (fun c => AFE_DIP_BASE c == a) then
    let c := (a - AFE_DIP_BASE 0) / 4
    (h.setReg a v).setCell c { h.cell c with baseDue := none }
  else if (List.range 512).any (fun c => CNV_APT_SKEW c == a) then
    let c := (a - CNV_APT_SKEW 0) / 4
    (h.setReg a v).setTap (h.servingCell c)
  else if (List.range 32).any (fun g => CNV_SPARE_FIX g == a) then h.applyFix ((a - CNV_SPARE_FIX 0) / 4) v
  else if (List.range 512).any (fun c => SE_DT_CFG c == a) then
    let c := (a - SE_DT_CFG 0) / 4
    let was := h.flag (SE_DT_CFG_EN c)
    let h := h.setReg a v
    if was && h.flag (SE_DT_CFG_EN c) then h else (h.setDt c false).setDtCounts c 0 0
  else if (List.range 16).any (fun t => TRG_CFG_W0 t == a) then
    let t := (a - TRG_CFG_W0 0) / 8
    let n := h.fld (TRG_CFG_AUTO_TURNS t)
    let h := h.setReg a v
    if h.fld (TRG_CFG_AUTO_TURNS t) = n then h else
    { h with trg := { h.trg with autoRef := SMap.set (fun _ => 0) h.trg.autoRef t (h.now - 1) } }
  else if (List.range 32).any (fun g => CAL_EXCLUDE g == a) then h.applyExclude ((a - CAL_EXCLUDE 0) / 4) v
  else h.setReg a v

/-- Every live write that waits for the tick takes effect, in address order; then the orders that waited, in theirs. -/
def applyAllStaged (h : Hub) : Hub :=
  let due := h.staged
  (due.foldl (fun (h : Hub) (p : Nat × Word) => h.applyStaged p.1 p.2) { h with staged := [] }).applyVisits.applyHists

/-- An accepted slot map takes effect: this frame is converted in the old map, the next one in the new (R115). -/
def applyMap (h : Hub) : Hub :=
  match h.cnv.mapDue with
  | none => h
  | some (a, ws) =>
    let old := (List.range 32).map fun j => h.mapSlot a j
    let h := (List.range 8).foldl (fun (h : Hub) (w : Nat) => h.setReg (CNV_SLOT_MAP (8 * a + w)) (ws.getD w 0)) h
    let h : Hub := { h.put CNV_MAP_STATUS_PENDING 0 with cnv := { h.cnv with mapDue := none } }
    (List.range 32).foldl (fun (h : Hub) (j : Nat) =>
      let i := h.mapSlot a j
      if old.getD j 32 = i then h else h.openSpan (32 * a + i) 1 0) h

/-- A committed pattern takes effect at the tick (R208, R236). -/
def applyPattern (frame : Nat) (h : Hub) : Hub :=
  match h.trg.patDue with
  | none => h
  | some (t, m, v) =>
    let h : Hub := { h with trg := { h.trg with
      patDue := none
      pats := SMap.set (fun _ => (0, 0)) h.trg.pats t (m, v)
      renewed := h.trg.renewed ||| BitVec.ofNat 16 (2 ^ t) } }
    (h.put TRG_PAT_STATUS_PENDING 0).raise (80 + t) 4 [frame % 65536]

/-! ### Marking (R97, R98, R103, R131-R134) -/

/-- FAULT begins or ends for an input at this tick; a source DIPSTICK, STRING or CELL is reported where it confirms, also on an input
that the excitation marks already (R77, R82, R97, R98). What switching an input OFF leaves latched marks it again when it acquires
again (DESIGN CHOICE, log entry 126). -/
def updateFault (c : Nat) (h : Hub) : Hub :=
  if h.isPartner c then h else
  let x := h.cell c
  let h := h.setCell c { x with
    excFault := x.excFault || (h.excApplies c && h.acquires c), strFault := x.strFault || (h.strApplies c && h.acquires c) }
  let h := h.tryClear c
  let on := h.acquires c && h.faulty c
  let was := h.flag (AFE_CELL_STAT_FAULT c)
  let g := c / 16
  if !on then
    if was then (h.setCell c { h.cell c with settle := max (h.cell c).settle 1 }).endFault c else h
  else
    let x := h.cell c
    let m := h.mtNow
    let src : Option Nat := if x.dipFault then some 0 else if x.strFault then some 1
      else if x.cellFault then some 2 else none
    let onset := match src with | some 0 => x.onset | some 1 => (h.group g).stringOnset | _ => m
    let h := if was then h else
      let h := h.markFault c true
      if h.isPartner (c + 1) then h.markFault (c + 1) true else h
    match x.source, src with
    | none, some s =>
      (h.setCell c { x with source := src, onset := onset }).groupEvent g 2 (c % 16) (wide onset.pack ++ wide m.pack ++ [s])
    | _, _ => h

/-- SETTLING and SETTLE_LEFT of an input for this tick's frame, and the release of frozen comparators (R86, R134); the odd input of a
pair shows the pair's (R75). -/
def updateSettling (c : Nat) (h : Hub) : Hub :=
  if h.isPartner c then h.mirrorPair c else
  let x := h.cell c
  let x := { x with settleWake := x.settleWake && decide (h.fld CAL_AGE_LIMIT_S < h.ageS itemCoef (h.servingCell c)) }
  let open' := h.leadWait c || x.settleWake
  let on := h.acquires c && (open' || decide (0 < x.settle))
  let h := (h.put (AFE_CELL_STAT_SETTLING c) (ofBool on)).put (AFE_CELL_STAT_SETTLE_LEFT c)
    (if !on then 0 else if open' then 0xFFFF else min 0xFFFE x.settle)
  let h := h.setCell c { x with settle := x.settle - 1, freeze := x.freeze - 1 }
  if x.freeze = 1 then (h.put (AFE_CELL_STAT_FROZEN c) 0).driveCmp c else h

/-- What an input leaves at the tick of frame `n`: zeroing of the count and the release of the amplifier (R70), a write to DIP_BASE
for which no tone period runs any more (R102). -/
def afterTick (n c : Nat) (h : Hub) : Hub :=
  let x := h.cell c
  let h := if x.gap && !x.zeroDue then h.setInexact c h.mtNow else h
  let h := match x.baseDue with
    | some v => if h.toneRuns c then h else (h.setReg (AFE_DIP_BASE c) v).setCell c { h.cell c with baseDue := none }
    | none => h
  let x := { h.cell c with gap := false }
  let x := if x.zeroDue then { x with zeroDue := false, qacc := 0, inexact := false, zeroFrame := some n } else x
  let x := if x.release then { x with release := false, zeroY := some n } else x
  h.setCell c (if x.closing then { x with closing := false, settle := max 1 x.settle } else x)

/-! ### The schedule of a frame (R110-R123) -/

/-- An urgent capture of the last window with u = P is served in the first free slot of this frame (R118, R119). -/
def placeAtZero (frame : Nat) (cv : Conv) (h : Hub) : Hub :=
  let a := cv.input / 32
  let x := h.adc a
  let v := freeSlot x.busy 200 0
  let hit := h.holdsConv a frame v
  let h := h.setAdc a { x with busy := x.busy ++ [v], shift := x.shift + ofBool hit }
  let h := if hit then h.shiftFrom a frame v else h
  { h with cnv := { h.cnv with convs := h.cnv.convs ++ [{ cv with slot := v, base := h.now }] } }

/-- The schedule of ADC `a` for frame `n`: the map's inputs, the captures deferred to the frame, and those due in slot 0. -/
def openAdc (n : Nat) (hold re : Bool) (a : Nat) (h : Hub) : Hub :=
  let x := h.adc a
  let cs := if h.flag (CNV_ADC_STAT_IN_SERVICE a) then h.scheduleAdc a n h.now hold re else []
  let ds := placeDeferred h.now 36 x.deferred
  let h : Hub := { h with cnv := { h.cnv with convs := h.cnv.convs ++ cs ++ ds } }
  let h := h.put (CNV_ADC_STAT_SHIFT a) x.shift
  let h := h.setAdc a { used := x.usedNext, busy := ds.map Conv.slot }
  x.atZero.foldl (fun (h : Hub) (cv : Conv) => h.placeAtZero n cv) h

/-- Inputs that are not OFF and get no conversion in this frame give a FILL word (R131). -/
def fillInputs (n : Nat) (hold re : Bool) (h : Hub) : Hub :=
  let h := h.cnv.fills.foldl (fun (h : Hub) (cv : Conv) => h.deliverFill cv) { h with cnv := { h.cnv with fills := [] } }
  let cs := (List.range 512).filter fun c => h.acquires c && !(h.adcIn c && h.afePowered (c / 16))
  let fills := cs.map fun c => { h.convOf c n h.now with holdover := hold, reanchor := re }
  ({ h with cnv := { h.cnv with fills := fills } } : Hub).drainFills

/-! ### The window (R205, R211) -/

/-- The window of frame `n` opens at this tick; `boundary` says that the tick is a turn boundary. -/
def openWindow (n : Nat) (hold re boundary : Bool) (h : Hub) : Hub :=
  let due := h.mt.bits.filter fun p => decide (p.2 ≤ h.now)
  let bits' := h.mt.bits.filter fun p => !decide (p.2 ≤ h.now)
  let w : Window := {
    frame := n, tick := h.now, holdover := hold, reanchor := re
    trigIn := BitVec.ofNat 16 (h.fld TRG_TRIG_IN_LEVEL)
    mmsg := due.foldl (fun (v : BitVec 16) (p : Nat × Int) => v ||| BitVec.ofNat 16 (2 ^ p.1)) 0
    dt := h.se.dt, armed := BitVec.ofNat 16 (h.fld TRG_STAT_ARMED), renewed := h.trg.renewed, refs := h.trg.autoRef
    boundary := boundary
    pats := h.trg.pats }
  { h with mt := { h.mt with bits := bits' }, trg := { h.trg with window := some w, renewed := 0 } }

/-- The inputs that `p` holds for. -/
def inputsWhere (p : Nat → Bool) : BitVec 512 :=
  (List.range 512).foldl (fun (v : BitVec 512) (c : Nat) => if p c then v ||| BitVec.ofNat 512 (2 ^ c) else v) 0

/-- What the window takes from the fields as this tick leaves them: the comparator bits that are 1, the inputs whose bit is a
digital threshold, HOLDOFF and AUTO_TURNS (R204, R205, R236). -/
def loadWindow (h : Hub) : Hub :=
  let f (w : Window) : Window := { w with
    high := inputsWhere h.chanBit
    dt := h.se.dt
    dtFast := inputsWhere fun c => h.acquires c && h.chSrc c == 2 && !h.flag (SE_DT_CFG_SRC c)
    dtEngine := inputsWhere fun c => h.acquires c && h.chSrc c == 2 && h.flag (SE_DT_CFG_SRC c)
    cfg := (List.range 16).map fun t => (h.fld (TRG_CFG_HOLDOFF t), h.fld (TRG_CFG_AUTO_TURNS t)) }
  { h with trg := { h.trg with window := h.trg.window.map f } }

/-! ### The Standpipe (R218, R220, R223) -/

/-- STATE, NCH and BURST_ID of TRG.SP_STAT. -/
def showStandpipe (h : Hub) : Hub :=
  let nch := (List.range 512).countP h.spSelects
  let have' := match h.sp.f0 with | some f => h.cnv.taken - f | none => 0
  let st :=
    if !h.flag TRG_SP_CFG_EN then 0
    else if h.sp.burst.isSome then 3
    else if h.sp.rearmTo.isSome then (if h.sp.capped then 5 else 4)
    else if have' < h.fld TRG_SP_DEPTH_PRE then 1 else 2
  (h.put TRG_SP_STAT_STATE st).put TRG_SP_STAT_NCH nch

/-- D, the depth of the ring in frames (R218). -/
def spDepth (h : Hub) : Nat :=
  let n := (List.range 512).countP h.spSelects
  if n = 0 then 0 else 1048576 / n

/-- The Standpipe opens frame `n`: a restart that is due sets F₀, and the frame the ring has no more room for goes (R218,
R220). -/
def spFrame (n : Nat) (hold re : Bool) (h : Hub) : Hub :=
  if !h.flag TRG_SP_CFG_EN then h else
  let h := match h.sp.restartDue with
    | some cause =>
      { h.raise 80 0x10 [n % 65536, cause] with sp := { h.sp with restartDue := none, f0Old := h.sp.f0, f0 := some n, rearmTo := none } }
    | none => h
  let d := h.spDepth
  let fs := h.sp.frames.filter fun p => decide (n < p.1 + d)
  { h with sp := { h.sp with frames := SMap.insert fs n { tick := h.now, cad := h.mt.breaks, holdover := hold, reanchor := re } } }

/-! ### The tick -/

/-- The last window of ADC `a` closes at grid instance `g` with no frame to follow: the captures deferred in it and those with u = P are
converted from slot 36 after `g`, in capture order, as far as slots are left; the others are refused (R123). -/
def convertDeferred (g : Int) (a : Nat) (h : Hub) : Hub :=
  let x := h.adc a
  let all := (x.deferred ++ x.atZero).mergeSort fun a b => decide (a.ord ≤ b.ord)
  let room := h.adcPeriods - 36
  let less (f : Fld) (n : Nat) (h : Hub) : Hub := h.put f (h.fld f - n)
  let h := less (CNV_URG_CNT_SERVED a) x.atZero.length h
  let h := (h.bump (CNV_URG_CNT_DEFERRED a) x.atZero.length).bump (CNV_ADC_STAT_PENDING a) x.atZero.length
  let h := (all.drop room).foldl (fun (h : Hub) (cv : Conv) =>
    (less (CNV_ADC_STAT_PENDING a) 1 (less (CNV_URG_CNT_DEFERRED a) 1 h)).refuseCapture cv.input cv.frame) h
  let h := h.setAdc a { x with deferred := all.take room, atZero := [] }
  { h with cnv := { h.cnv with convs := h.cnv.convs ++ placeDeferred g 36 (all.take room) } }

/-- The series that runs is superseded before its next grid instance: its window closes, and the captures deferred in it are
converted after that instance and not in the frame that begins (R123). -/
def leaveSeries (h : Hub) : Hub :=
  match h.cnv.gridNext with
  | some g =>
    if h.cnv.series.isSome ∧ h.now < g then
      (List.range 16).foldl (fun (h : Hub) (a : Nat) =>
        let x := h.adc a
        let h : Hub := { h with cnv := { h.cnv with convs := h.cnv.convs ++ placeDeferred g 36 x.deferred } }
        h.setAdc a { x with deferred := [] }) h.closeWindow
    else h
  | none => h

/-- A FRAME_SERIES starts at this tick (R92, R150, R220): the tone, the chains and the Standpipe restart. -/
def startSeries (e : Nat) (h : Hub) : Hub :=
  let p := (h.entry e).period
  let h : Hub := { h with cnv := { h.cnv with series := some e, lastPeriod := p, restart := false } }
  let h := (h.put CNV_FRAME_PERIOD_SLOTS p).dipRestart p
  let h := h.restartChains h.now
  let h := match h.trg.window, h.trg.closedWin.getLast? with
    | some w, _ => h.fixBurst w.frame 2
    | none, some w => h.fixBurst w.frame 2
    | none, none => h
  { h with sp := { h.sp with restartDue := some (h.sp.restartDue.getD 1) } }

/-- A frame is taken at this slot. -/
def takeFrame (h : Hub) : Hub :=
  let n := h.cnv.taken
  let h := if n = 0 then h else h.calSlots (n - 1)
  let hold := h.flag MT_STATE_HOLDOVER
  let re := h.mt.span != .closed || h.mt.turnFlag == some h.mt.turn
  let boundary := match h.mt.lastTick with
    | some t => decide (t / (h.spt : Int) < h.mt.turn)
    | none => true
  let h := h.closeWindow
  let h : Hub := { h with
    mt := { h.mt with lastTick := some h.now, lastEdge := some h.now, span := if h.mt.span == .closing then .closed else h.mt.span }
    cnv := { h.cnv with taken := n + 1 } }
  let h := (h.put CNV_FRAME_NUM_FRAME n).tally 187 1
  let h := (List.range 512).foldl (fun (h : Hub) (c : Nat) => (h.updateFault c).updateSettling c) h
  let h := if h.framesCount then h.spFrame n hold re else h
  let pos := h.afe.dipFrames.getD 0
  let div := h.fld AFE_DIP_STAT_DIV
  let set : SampleSet := { mt := h.mtNow, slot := h.now, hold := hold, re := re, cad := h.mt.breaks, period := h.fld CNV_FRAME_PERIOD_SLOTS
                           pos := if div = 0 then 0 else pos % div, div := div, jumps := h.se.jumps, cross := h.se.cross }
  let h : Hub := { h with se := { h.se with jumps := [], cross := false }, afe := { h.afe with dipFrames := some (pos + 1) } }
  let h : Hub := if div ≠ 0 ∧ pos % div = 0 then
      { h with afe := { h.afe with dipTicks := (h.mtNow :: h.afe.dipTicks).take 2 } } else h
  let h := if 256 * div ≤ pos + 1 ∧ div ≠ 0 then h.put AFE_DIP_STAT_FULL 1 else h
  let h := if h.framesCount then h.openGather n set (fun c => h.acquires c && h.adcIn c && h.afePowered (c / 16)) else h
  let h := h.openRaw n
  let h := (List.range 16).foldl (fun (h : Hub) (a : Nat) => h.openAdc n hold re a) h
  let h := (h.applyPattern n).openWindow n hold re boundary
  let h := h.fillInputs n hold re
  let h := (List.range 512).foldl (fun (h : Hub) (c : Nat) => h.afterTick n c) h
  let h := h.cnv.spill.foldl (fun (h : Hub) (p : Nat × Nat) =>
    h.captureAt p.1 (captureTime p.2 h.bclk - (p.2 / 1024 + 1) * 10240000000)) { h with cnv := { h.cnv with spill := [] } }
  let domains := h.staged.any fun p => p.1 == PWR_DOM_CTL_W0 || p.1 == PWR_DOM_CTL_W1
  let h := h.applyMap.applyAllStaged
  ((if domains then h.settleDomains .register else h).placeCells n).calBoundary.loadWindow.showStandpipe

/-- The requests whose capture instant lies past the grid instance at which no tick was taken under R38 belong to the window
that runs on (R118, R123). -/
def spillHere (h : Hub) : Hub :=
  h.cnv.spill.foldl (fun (h : Hub) (p : Nat × Nat) => h.captureAt p.1 (captureTime p.2 h.bclk)) { h with cnv := { h.cnv with spill := [] } }

/-- Another FRAME_SERIES executes its first instance in this slot and runs instead of `e`: then that one gives the tick of the
slot (R49). -/
def yieldsTick (e : Nat) (first : Bool) (h : Hub) : Bool :=
  h.tt.entries.any fun (j, x) =>
    j != e && x.type == 1 && x.enable && !x.spent && !x.ran && decide (x.next = h.now) && (!first || decide (e < j))

/-- The next grid instance of the series that runs. -/
def setGrid (g : Int) (h : Hub) : Hub := { h with cnv := { h.cnv with gridNext := some g } }

/-- The instance of FRAME_SERIES `e` that fell due in `slot` gives a tick: it is taken, or not where the previous one lies less
than 20 slots back (R38). `first` says that it is the first instance of the series. -/
def tickNow (e : Nat) (first : Bool) (slot : Int) (h : Hub) : Hub :=
  let starts := first || h.cnv.restart || h.cnv.series != some e
  let next := (h.entry e).next
  match h.mt.lastEdge with
  | some t =>
    if t = h.now then
      if starts then (h.startSeries e).setGrid next else h
    else if h.now < t + 20 then
      let h := (h.raise 203 0 (wide (h.mtAt slot).pack)).spillHere
      let h : Hub := { h.breakCadence with se := { h.se with cross := true } }
      if starts then { h with cnv := { h.cnv with restart := !(h.entry e).spent } }
      else h.setGrid next
    else (if starts then h.leaveSeries.startSeries e else h).takeFrame.setGrid next
  | none => (if starts then h.leaveSeries.startSeries e else h).takeFrame.setGrid next

/-- The next instance of FRAME_SERIES `e` falls due (R38, R47, R49). -/
def frameTick (e : Nat) (h : Hub) : Hub :=
  let (due, slot, h) := h.fallDue 1 e
  if !due then h else
  let first := !(h.entry e).ran
  let yields := h.yieldsTick e first
  let h := (h.takeInstance e).paceEntry e
  if yields then h else
  let h := if first then h.supersede e else h
  if h.framesRun then h.tickNow e first slot else h

/-! ### The end of a series (R123) -/

/-- No frame follows in this series: the last window closes at grid instance `g`, and the deferred captures are converted after it
(R123). -/
def stopFrames (g : Int) (h : Hub) : Hub :=
  let p := h.fld CNV_FRAME_PERIOD_SLOTS
  let spilled := h.cnv.spill
  let h := (List.range 16).foldl (fun (h : Hub) (a : Nat) => h.convertDeferred g a) h
  let h := match h.trg.window with | some w => h.fixBurst w.frame 2 | none => h
  let h := h.closeWindow
  let h := (List.range 16).foldl (fun (h : Hub) (a : Nat) =>
    (h.put (CNV_ADC_STAT_SHIFT a) (h.adc a).shift).setAdc a { queue := (h.adc a).queue }) h
  let h : Hub := { h with
    cnv := { h.cnv with series := none, lastPeriod := p, gridNext := some (g + p), restart := false, spill := [] }
    afe := { h.afe with dipFrames := none } }
  let h := spilled.foldl (fun (h : Hub) (q : Nat × Nat) => h.refuseCapture q.1 (h.fld CNV_FRAME_NUM_FRAME)) h
  ((h.put CNV_FRAME_PERIOD_SLOTS 0).put AFE_DIP_STAT_FULL 0).showStandpipe

/-- The grid instance G at which the next tick of the ended series would have fallen: the last window closes there. -/
def endSeries (h : Hub) : Hub :=
  match h.cnv.series, h.cnv.gridNext with
  | some s, some g =>
    let e : TtEntry := h.entry s
    if h.cnv.restart ∨ e.type = 1 ∧ e.enable ∧ e.ran ∧ ¬ e.spent then h else
    let h := h.advanceTo g
    if h.cnv.series != some s || h.cnv.gridNext != some g then h else h.stopFrames g
  | _, _ => h

end Hub

def execFrameTick (entry : Nat) (s : State) : Host.Outcome State Fault Refusal := s.onHub (Hub.frameTick entry)

end Sys2Proof.Machine
end

