-- ==== Sys2Proof/Machine/Link.lean ====
section
/-!
DEFINITION. The Wilique Link (R275-R305): bring-up, lanes, frames, credits, acknowledgements and resends. The words that read
and write registers stand in LinkWords.lean.
-/

namespace Sys2Proof.Machine

/-- Reply words of R290. -/
def replyRead (tag data : Nat) : BitVec 64 := BitVec.ofNat 64 (0x81 * 2 ^ 56 + tag % 256 * 2 ^ 48 + data % 2 ^ 32)
def replyWrite (tag : Nat) : BitVec 64 := BitVec.ofNat 64 (0x82 * 2 ^ 56 + tag % 256 * 2 ^ 48)
def replyNak (tag code dlsn opcode : Nat) : BitVec 64 :=
  BitVec.ofNat 64 (0x83 * 2 ^ 56 + tag % 256 * 2 ^ 48 + code % 256 * 2 ^ 40 + dlsn % 65536 * 2 ^ 24 + opcode % 256 * 2 ^ 16)

/-! ### Control blocks (R277, R283) -/

/-- A control block: its type and its payload. -/
def ctlBlock (type payload : Nat) : BitVec 64 := BitVec.ofNat 64 (type * 2 ^ 56 + payload % 2 ^ 56)

/-- The SOF and EOF blocks of a frame. -/
def SentFrame.sof (f : SentFrame) : BitVec 64 :=
  ctlBlock 0x78 (f.kind % 4 * 2 ^ 54 + ofBool f.retx * 2 ^ 53 + f.copy % 2 * 2 ^ 52 + f.num % 2 ^ 32 * 2 ^ 16 + f.words % 2 ^ 13)
def SentFrame.eof (f : SentFrame) : BitVec 64 := ctlBlock 0x87 (f.pad % 256 * 2 ^ 48 + f.crc.getD 0 % 2 ^ 32 * 2 ^ 16)

/-- The ABT block that cuts frame `num` short. -/
def abtBlock (num : Nat) : BitVec 64 := ctlBlock 0x99 (num % 2 ^ 32 * 2 ^ 16)

/-- An AM block of physical lane `k` with logical number `l`. -/
def amBlock (k l am : Nat) : BitVec 64 := ctlBlock 0x55 (k % 16 * 2 ^ 52 + l % 16 * 2 ^ 48 + am % 2 ^ 32)

/-- A TRAIN block: lane numbers, link state, block offset within the AM period, AM counter. -/
def trainBlock (k l st offset am : Nat) : BitVec 64 :=
  ctlBlock 0x2D (k % 16 * 2 ^ 52 + l % 16 * 2 ^ 48 + st % 16 * 2 ^ 44 + offset % 16384 * 2 ^ 26 + am % 2 ^ 26)

/-- The time a frame takes on its lane, in units of 1/32 ns: SOF, LT, content and EOF of 5.15625 ns each (R275, R283). -/
def SentFrame.span (f : SentFrame) : Nat := 165 * (f.words + 3)

namespace Hub

/-! ### Lanes -/

/-- The link state (R278). -/
def linkState (h : Hub) : Nat := h.fld WL_STAT_STATE

/-- The physical lane of a logical lane, 7 none. -/
def logOf (h : Hub) (l : Nat) : Nat :=
  match l with
  | 0 => h.fld WL_LANE_MAP_LOG0
  | 1 => h.fld WL_LANE_MAP_LOG1
  | 2 => h.fld WL_LANE_MAP_LOG2
  | _ => h.fld WL_LANE_MAP_LOG3

def setLog (l k : Nat) (h : Hub) : Hub :=
  match l with
  | 0 => h.put WL_LANE_MAP_LOG0 k
  | 1 => h.put WL_LANE_MAP_LOG1 k
  | 2 => h.put WL_LANE_MAP_LOG2 k
  | _ => h.put WL_LANE_MAP_LOG3 k

/-- The logical lanes that are active, in ascending order. -/
def activeLanes (h : Hub) : List Nat := (List.range 4).filter fun l => h.logOf l != 7

/-- The logical number of a physical lane in its blocks: 0xF for a spare or failed lane (R277). -/
def logicalOf (h : Hub) (k : Nat) : Nat := ((List.range 4).find? fun l => h.logOf l == k).getD 15

/-- A control block leaves physical lane `k`. -/
def sendCtl (k : Nat) (b : BitVec 64) (h : Hub) : Hub := { h with wl := { h.wl with ctl := SMap.insert h.wl.ctl k b } }

/-- Physical lane `k` sends TRAIN blocks with logical number `l`; the block offset is free (R277). -/
def sendTrain (k l : Nat) (h : Hub) : Hub :=
  (h.sendCtl k (trainBlock k l h.linkState (Config.blockOffset h.fresh) h.wl.am)).tick

/-- Physical lane `k` leaves electrical idle (R300). -/
def wakeLane (k : Nat) (h : Hub) : Hub :=
  if h.flag (WL_LANE_STAT_IDLE k) then (h.put (WL_LANE_STAT_IDLE k) 0).sendTrain k (h.logicalOf k) else h

/-- The states in which frames are sent (R289, R299). -/
def sendsFrames (h : Hub) : Bool := h.linkUp || h.linkState == 7

/-- The physical lane of the next LINK frame: the lowest active one that is awake, else the lowest. Whether it has to wait for the
lane is left out. -/
def linkLane (h : Hub) : Option Nat :=
  if !h.sendsFrames then none else
  let ks := h.activeLanes.map h.logOf
  (ks.find? fun k => !h.flag (WL_LANE_STAT_IDLE k)).orElse fun _ => ks.head?

/-- A frame leaves a lane, which wakes from electrical idle for it (R283, R285, R300). -/
def sendFrame (k : Nat) (f : SentFrame) (h : Hub) : Hub :=
  let h := h.wakeLane k
  { h with wl := { h.wl with lanes := SMap.insert h.wl.lanes k f } }

/-- LINK frames of at most 64 words each, with the reply counter (R283). -/
def sendWords (k fuel : Nat) (ws : List (BitVec 64)) (h : Hub) : Hub :=
  match fuel with
  | 0 => h
  | n + 1 =>
    if ws.isEmpty then h else
    let content := (ws.take 64).flatMap fun w => (wide w.toNat).map (BitVec.ofNat 32)
    let f : SentFrame := { kind := 2, num := h.wl.linkNum, lt := h.lt }
    let h := h.sendFrame k (f.carry content)
    sendWords k n (ws.drop 64) { h with wl := { h.wl with linkNum := (h.wl.linkNum + 1) % 2 ^ 32 } }

/-- Reply words leave in LINK frames, or wait while no frame is sent (R283, R289, R290). -/
def answer (ws : List (BitVec 64)) (h : Hub) : Hub :=
  if ws.isEmpty then h else
  let all := h.wl.waiting ++ ws
  match h.linkLane with
  | none => { h with wl := { h.wl with waiting := all } }
  | some k => ({ h with wl := { h.wl with outbox := all, waiting := [] } } : Hub).sendWords k ((all.length + 63) / 64) all

/-- LANE_REPORT, in the states in which frames are sent (R289, R290). -/
def laneReport (h : Hub) : Hub :=
  if h.linkLane.isNone then h else
  h.answer [BitVec.ofNat 64 (0x84 * 2 ^ 56 + h.linkState * 2 ^ 52 + h.fld WL_LANE_MAP_SPARE * 2 ^ 49
    + (h.reg WL_LANE_MAP).toNat % 4096 * 2 ^ 37 + h.fld WL_STAT_RX_ACTIVE * 2 ^ 36 + h.fld WL_LSN_NEXT)]

/-- The state that the number of active lanes gives while frames are sent (R297). -/
def laneState (h : Hub) : Nat :=
  let n := h.activeLanes.length
  if n = 4 then 4 else if n = 3 then 5 else if n = 0 then 2 else 6

/-- TRAIN blocks go out in CLOCK and TRAIN on every lane, in ALIGN on those without lock (R278). -/
def trainLanes (h : Hub) : Hub :=
  let st := h.linkState
  (List.range 5).foldl (fun (h : Hub) k =>
    if st = 1 ∨ st = 2 ∨ (st = 3 ∧ ¬ h.flag (WL_LANE_STAT_LOCK k)) then h.sendTrain k (h.logicalOf k) else h) h

/-- The link changes state (R278): entering DEGRADED or LIMP is reported (R297), and BULK streams step with three-lane operation, which
DOWNLINK_LOST leaves as it is (R271). -/
def setLink (st : Nat) (h : Hub) : Hub :=
  let old := h.linkState
  if old = st then h else
  let h := ((h.put WL_STAT_STATE st).raise 168 0 [old, st])
  let n := h.activeLanes.length
  let h := if st = 5 then h.raise 171 0 [n] else if st = 6 then h.raise 173 0 [n] else h
  (if st = 7 then h else h.setDegraded (st == 5 || st == 6)).trainLanes.laneReport

/-- The number of active lanes, and the state it gives while frames are sent (R297). -/
def settleLanes (h : Hub) : Hub :=
  let h := h.put WL_STAT_ACTIVE h.activeLanes.length
  if h.linkUp then h.setLink h.laneState else h

/-! ### Resends -/

/-- DATA frames sent and not acknowledged (R286). -/
def outstanding (h : Hub) : Nat := (h.fld WL_LSN_NEXT + 2 ^ 32 - h.wl.acked) % 2 ^ 32

/-- An LSN lies after the last ACK and at or before the last LSN sent. -/
def isOut (h : Hub) (n : Nat) : Bool := decide ((n + 2 ^ 32 - h.wl.acked) % 2 ^ 32 < h.outstanding)

/-- A DATA frame in progress on a lane ends with an ABT block. -/
def abortLane (k : Nat) (h : Hub) : Hub :=
  match SMap.find? h.wl.lanes k with
  | some f =>
    let h : Hub := { h with wl := { h.wl with lanes := SMap.erase h.wl.lanes k }, fresh := h.fresh + 1 }
    if f.kind = 0 && Config.frameRunning k h.fresh then (h.bump WL_CNT_ABORTED 1).sendCtl k (abtBlock f.num) else h
  | none => h

/-- Every DATA frame in flight carries a packet that is discarded (R454, R458): it keeps its LSN, under no stream. -/
def discardFrames (h : Hub) : Hub :=
  { h with wl := { h.wl with resend := [], unacked := h.wl.unacked.map fun p => (p.1, 128) } }

/-- The frames from LSN `n` to the last one sent are resent (R294). A resend that runs restarts from `n`, or takes `n` in where
it lies before the frames still to be resent or already resent. -/
def resendFrom (n : Nat) (h : Hub) : Hub :=
  let frames := ((h.wl.unacked.filter fun p => decide (p.2 < 128)).map Prod.fst).filter fun l => decide ((n + 2 ^ 32 - h.wl.acked) % 2 ^ 32 ≤ (l + 2 ^ 32 - h.wl.acked) % 2 ^ 32)
  let h : Hub := { h with wl := { h.wl with resend := frames } }
  (List.range 5).foldl (fun (h : Hub) k =>
    match SMap.find? h.wl.lanes k with
    | some f => if f.kind = 0 && frames.contains f.num then h.abortLane k else h
    | none => h) h

/-! ### Bring-up (R278-R282) -/

/-- An RX lane gains block lock, inverted where its sync headers show it (R279, R280); in CLOCK the link goes to TRAIN. -/
def blockLock (j : Nat) (inv : Bool) (h : Hub) : Hub :=
  if 2 ≤ j || h.linkState == 0 then h else
  let h := (h.put (WL_RX_STAT_LOCK j) 1).put (WL_RX_STAT_INV j) (ofBool inv)
  if h.linkState = 1 then
    let h := (h.put WL_STAT_RX_ACTIVE j).put WL_STAT_DOWNLINK_OK 1
    ((h.put (WL_RX_STAT_ACTIVE j) 1).put (WL_RX_STAT_ACTIVE (1 - j)) 0).setLink 2
  else if h.fld WL_STAT_RX_ACTIVE = j then h.put WL_STAT_DOWNLINK_OK 1 else h

/-- An RX lane loses lock; the hub switches to the other one where that holds it (R279, R299). -/
def lockLoss (j : Nat) (h : Hub) : Hub :=
  if 2 ≤ j || h.linkState == 0 then h else
  let h := (h.put (WL_RX_STAT_LOCK j) 0).bump (WL_RX_STAT_BLOCK_ERR j) 16
  if h.fld WL_STAT_RX_ACTIVE != j then h
  else if h.flag (WL_RX_STAT_LOCK (1 - j)) then
    let h := ((h.put WL_STAT_RX_ACTIVE (1 - j)).put (WL_RX_STAT_ACTIVE j) 0).put (WL_RX_STAT_ACTIVE (1 - j)) 1
    ((h.put WL_STAT_DOWNLINK_OK 1).raise 174 0 [1 - j]).laneReport
  else h.put WL_STAT_DOWNLINK_OK 0

/-- The lane map of R280 from the lanes a TRAIN_ACK shows locked: the lanes of the four logical lanes, then the spare. -/
def lanePlan (h : Hub) (rev : Bool) : List Nat × Nat :=
  if rev then ([4, 3, 2, 1], 0)
  else
    let sp := min 4 (h.fld WL_CTRL_SPARE_TX)
    ((List.range 5).filter (fun k => k != sp), sp)

/-- The hub applies a TRAIN_ACK with three or more locked lanes (R280). -/
def applyTrainAck (lock inv : Nat) (rev : Bool) (h : Hub) : Hub :=
  let (logs, sp) := h.lanePlan rev
  let h := (h.put WL_STAT_REV (ofBool rev)).put WL_LANE_MAP_SPARE 7
  let h := (List.range 5).foldl (fun (h : Hub) k =>
    ((h.put (WL_LANE_STAT_INV k) (ofBool (bit inv k))).put (WL_LANE_STAT_LOCK k) (ofBool (bit lock k))).put
      (WL_LANE_STAT_ROLE k) (if bit lock k then 1 else 3)) h
  let h := (logs.zip (List.range 4)).foldl (fun (h : Hub) (k, l) => h.setLog l (if bit lock k then k else 7)) h
  let missing := (List.range 4).find? fun l => h.logOf l == 7
  let h := if bit lock sp then
      match missing with
      | some l => h.setLog l sp
      | none => (h.put WL_LANE_MAP_SPARE sp).put (WL_LANE_STAT_ROLE sp) 2
    else h
  h.put WL_STAT_ACTIVE h.activeLanes.length

/-- A TRAIN_ACK arrives (R278, R280, R282). -/
def trainAck (lock inv : Nat) (rev align : Bool) (h : Hub) : Hub :=
  if h.linkState = 2 && decide (3 ≤ (List.range 5).countP (bit lock)) then (h.applyTrainAck lock inv rev).setLink 3
  else if h.linkState = 3 && align then (h.setLink h.laneState).resendFrom h.wl.acked
  else h

/-- 16 consecutive TRAIN blocks on the active RX lane (R278). -/
def trainBlocks (h : Hub) : Hub :=
  let st := h.linkState
  if st == 4 || st == 5 || st == 6 || st == 7 then
    let h := h.setLink 2
    { h with wl := { h.wl with swaps := [], goodSince := [] } }
  else h

/-! ### Losing lanes (R296-R299) -/

/-- A lane starts to carry logical lane `l`: it sends 128 TRAIN blocks that name it (R296). -/
def promote (k l : Nat) (h : Hub) : Hub :=
  let h := h.sendTrain k l
  { h with wl := { h.wl with swaps := h.wl.swaps ++ [(k, l)], goodSince := SMap.erase h.wl.goodSince k } }

/-- A lane that is being promoted is not shown locked, so it cannot be (R297). -/
def promotionHeld (h : Hub) : Bool := h.wl.swaps.any fun p => !h.flag (WL_LANE_STAT_LOCK p.1)

/-- Logical lane `l` has failed: its lane is FAILED, and the spare, where it was and is locked, starts the swap. `was` is LOCK
as the report before showed it. -/
def failLane (was l : Nat) (h : Hub) : Hub :=
  let k := h.logOf l
  let sp := h.fld WL_LANE_MAP_SPARE
  let h := (((h.abortLane k).put (WL_LANE_STAT_ROLE k) 3).put (WL_LANE_STAT_IDLE k) 0).bump (WL_LANE_STAT_FAILS k) 1
  let h : Hub := { h with wl := { h.wl with goodSince := SMap.erase h.wl.goodSince k } }
  let h := (h.setLog l 7).raise 169 0 [k, l]
  if sp = 7 || h.wl.swaps.any fun p => p.1 == sp then h
  else if bit was sp && h.flag (WL_LANE_STAT_LOCK sp) then h.promote sp l
  else h.raise 178 0 [sp]

/-- A FAILED lane shown locked, or with new errors, or without lock: the second without errors starts or starts anew (R298). -/
def judgeFailed (k : Nat) (ok new : Bool) (h : Hub) : Hub :=
  if h.fld (WL_LANE_STAT_ROLE k) != 3 then h else
  let g := h.wl.goodSince
  let g := if !ok then SMap.erase g k else if new || (SMap.find? g k).isNone then SMap.insert g k h.lt else g
  { h with wl := { h.wl with goodSince := g } }

/-- A LANE_STATUS word (R296, R297, R298). -/
def laneStatus (lock : Nat) (h : Hub) : Hub :=
  let was := (List.range 5).foldl (fun n k => n + h.fld (WL_LANE_STAT_LOCK k) * 2 ^ k) 0
  let h := (List.range 5).foldl (fun (h : Hub) k => h.put (WL_LANE_STAT_LOCK k) (ofBool (bit lock k))) h
  let h := (List.range 5).foldl (fun (h : Hub) k => h.judgeFailed k (bit lock k) false) h
  let failed := h.activeLanes.filter fun l => !bit lock (h.logOf l)
  let h := failed.foldl (fun (h : Hub) l => h.failLane was l) h
  let missing := (List.range 4).countP fun l => h.logOf l == 7
  let h := if h.promotionHeld || decide (h.wl.swaps.length < missing) then h.settleLanes else h
  if failed.isEmpty then h else h.laneReport

/-- The lane that is promoted has sent its 128 TRAIN blocks and carries its logical lane; `t` is the time taken in 10 ns units
(R296, R298). -/
def laneSwap (t : Nat) (h : Hub) : Hub :=
  match h.wl.swaps with
  | [] => h
  | (k, l) :: rest =>
    if !h.flag (WL_LANE_STAT_LOCK k) then h else
    let before := h.linkState
    let h := (h.setLog l k).put (WL_LANE_STAT_ROLE k) 1
    let h := if h.fld WL_LANE_MAP_SPARE = k then h.put WL_LANE_MAP_SPARE 7 else h
    let h : Hub := { h with wl := { h.wl with swaps := rest } }
    let h := ((h.put WL_LAST_SWAP_T10NS (min 65535 t)).raise 170 0 [k, l, t]).settleLanes
    let h := if before != h.linkState && h.linkState == 4 then h.raise 172 0 [(h.reg WL_LANE_MAP).toNat] else h
    h.laneReport

/-- A failed lane has been shown locked without new errors for 1 s: it is promoted into the lowest missing logical lane that no other
lane is to fill, or becomes the spare (R298). -/
def laneReady (k : Nat) (h : Hub) : Hub :=
  match SMap.find? h.wl.goodSince k with
  | none => h
  | some t =>
    if h.fld (WL_LANE_STAT_ROLE k) != 3 || !h.flag (WL_LANE_STAT_LOCK k) || !h.linkUp then h else
    let h : Hub := { h with lt := max h.lt (t + 1000000000), wl := { h.wl with goodSince := SMap.erase h.wl.goodSince k } }
    let h := h.raise 179 0 [k]
    match (List.range 4).find? fun l => h.logOf l == 7 && !h.wl.swaps.any fun p => p.2 == l with
    | some l => h.promote k l
    | none => ((h.put WL_LANE_MAP_SPARE k).put (WL_LANE_STAT_ROLE k) 2).laneReport

/-- The downlink has been out for 10 µs (R299). -/
def downlinkLost (h : Hub) : Hub :=
  if !h.linkUp then h else
  let h : Hub := { h with wl := { h.wl with before := h.linkState, lostAt := h.lt } }
  let h := ((h.put (WL_RX_STAT_LOCK 0) 0).put (WL_RX_STAT_LOCK 1) 0).put WL_STAT_DOWNLINK_OK 0
  (h.setLink 7).raise 175 0 [h.wl.dlsn]

/-- Block lock returns without TRAIN blocks on RX lane `j` (R299). -/
def downlinkOk (j : Nat) (h : Hub) : Hub :=
  if h.linkState != 7 || 2 ≤ j then h else
  let h := ((h.put (WL_RX_STAT_LOCK j) 1).put WL_STAT_RX_ACTIVE j).put WL_STAT_DOWNLINK_OK 1
  let h := (h.put (WL_RX_STAT_ACTIVE j) 1).put (WL_RX_STAT_ACTIVE (1 - j)) 0
  (h.setLink (if 4 ≤ h.wl.before then h.laneState else h.wl.before)).raise 176 0 [(h.lt - h.wl.lostAt) / 1000]

/-- A lane with nothing to send enters electrical idle (R300). -/
def electricalIdle (l : Nat) (h : Hub) : Hub :=
  let k := h.logOf l
  let interlock := (List.range 128).any fun s => h.fld (CIS_STREAM_CFG_CLASS s) == 0 && h.ringSize s != 0 && h.runs s
  if l = 0 || 4 ≤ l || k == 7 || !h.sendsFrames || !h.flag WL_CTRL_IDLE_EN || (l == 1 && interlock) then h
  else h.put (WL_LANE_STAT_IDLE k) 1

/-! ### Frames (R283-R288) -/

/-- Credit available to a stream (R292). -/
def credit (h : Hub) (s : Nat) : Nat :=
  (SMap.get (fun _ => 0) h.wl.grant s + 2 ^ 32 - SMap.get (fun _ => 0) h.wl.used s % 2 ^ 32) % 2 ^ 32

def showCredit (s : Nat) (h : Hub) : Hub := h.put (WL_CREDIT_AVAIL s) (h.credit s)

/-- The oldest unsent packet of a stream. -/
def nextPacket (h : Hub) (s : Nat) : Option Packet := ((h.ring s).packets.drop (h.ring s).sent).head?

/-- What the consumer of a stream finds ready: bytes, number in the order of closing, SEQ, and the content, none where the packet is past
its cut-through threshold and still being written (R252, R287). -/
structure Ready where
  bytes : Nat := 0
  closed : Nat := 0
  seq : Nat := 0
  content : Option (List Word) := none
  deriving DecidableEq, Repr

/-- Units of 64 B it costs. -/
def Ready.units (r : Ready) : Nat := (r.bytes + 63) / 64

/-- The packet a stream is filling is past its cut-through threshold, CUT × 16 B, and no closed packet stands before it (R252). One
whose length is fixed only when it closes, an S16 or coded packet, is not begun before. -/
def cutReady (h : Hub) (s : Nat) : Option Ready :=
  let r := h.ring s
  match r.open? with
  | none => none
  | some p =>
    let cut := if h.interlock s then 2 else h.fld (CIS_STREAM_CFG_CUT s)
    let lengthOf (n : Nat) : Nat := if p.fmt = fmtRaw64 then 16 + 8 * n else if p.fmt = fmtS32 then 20 + 4 * n else 16 + 4 * n
    if cut = 0 || decide (lengthOf p.conts.length < 16 * cut) || p.cut || p.dropped || p.spoilt || p.ratio != 0 || p.fmt == fmtS16
        || p.fmt == fmtRecords || decide (r.sent < r.packets.length) then none
    else some { bytes := lengthOf p.setw, closed := h.cis.closed, seq := h.fld (CIS_SEQ_NEXT s) }

/-- The oldest unsent packet of a stream, closed or past its cut-through threshold. -/
def ready (h : Hub) (s : Nat) : Option Ready :=
  match h.nextPacket s with
  | some p => some { bytes := p.bytes, closed := p.closed, seq := p.seq, content := some (p.header ++ p.body) }
  | none => h.cutReady s

/-- Of the streams that have something ready, the one whose packet closed first. -/
def firstClosed (xs : List (Nat × Ready)) : Option (Nat × Ready) :=
  xs.foldl (fun best x => match best with
    | none => some x
    | some b => if x.2.closed < b.2.closed then some x else best) none

/-- The frame that carries what is ready of stream `s`, leaving now. -/
def frameOf (h : Hub) (kind num s : Nat) (r : Ready) : SentFrame :=
  let f : SentFrame := { kind := kind, num := num, stream := s, seq := r.seq, lt := h.lt }
  match r.content with
  | some c => f.carry c
  | none => { f with words := (r.bytes + 7) / 8, pad := r.bytes % 8 }

/-- The packet is no longer waiting: it counts as sent, or as begun. -/
def takeReady (s : Nat) (r : Ready) (h : Hub) : Hub :=
  let x := h.ring s
  match r.content with
  | some _ => (h.setRing s { x with sent := x.sent + 1 }).tally 125 r.bytes
  | none => h.setRing s { x with open? := x.open?.map fun p => { p with cut := true } }

/-- The hub sends a stream: stream 0 always, the others only while it works as the active hub or has no twin, and not before the
final checkpoint of a planned swap (R282, R402, R424, R426, R441). -/
def sendsStream (h : Hub) (s : Nat) : Bool :=
  s == 0 || ((h.fld TWN_STAT_ROLE == 0 || h.fld TWN_STAT_ROLE == 4 || h.fld TWN_STAT_ROLE == 6) && !h.twn.swap.held)

/-- What is ready in the streams of class `c` (R287): all of them, or those with the credit. -/
def readyOf (h : Hub) (c : Nat) : List (Nat × Ready) :=
  (List.range 128).filterMap fun s =>
    if h.fld (CIS_STREAM_CFG_CLASS s) != c || !h.sendsStream s then none else (h.ready s).map fun r => (s, r)

/-- The stream of class `c` whose oldest unsent packet is ready and closed first (R287). -/
def readyStream (h : Hub) (c : Nat) : Option (Nat × Ready) :=
  firstClosed ((h.readyOf c).filter fun x => decide (x.2.units ≤ h.credit x.1))

/-- In a thermal shutdown the GAP packets go ahead of every other DATA frame, without regard to credit (R458). -/
def gapFirst (h : Hub) : Option (Nat × Ready) :=
  if !h.pwr.shutdown then none else
  ((List.range 128).find? fun s => h.fld (CIS_STREAM_CFG_CLASS s) != 0 && (match h.nextPacket s with
    | some p => p.fmt == fmtGap
    | none => false)).bind fun s => (h.ready s).map fun r => (s, r)

/-- The INTERLOCK packet that goes next (R288). -/
def interlockReady (h : Hub) : Option (Nat × Ready) := firstClosed (h.readyOf 0)

/-- A lane still carries an INTERLOCK copy: its blocks take longer than the time since it left. -/
def carriesCopy (h : Hub) (k : Nat) : Bool :=
  (SMap.get (fun _ => []) h.wl.inner k).any fun f => decide (32 * h.lt < 32 * f.lt + f.span)

/-- The lanes the copies of an INTERLOCK packet take: the two lowest active ones that carry no INTERLOCK frame, or the one there is
(R288, R297). With fewer than two free, the copies leave when the lowest are. -/
def copyLanes (h : Hub) : List Nat :=
  let free := h.activeLanes.filter fun l => !h.carriesCopy (h.logOf l)
  (if 2 ≤ free.length then free else h.activeLanes).take 2

/-- A free lane takes the next DATA frame: a resend in LSN order, else a new one by class precedence; the copies of an INTERLOCK
packet go first on theirs (R286, R287). -/
def dataFrame (l : Nat) (h : Hub) : Hub :=
  let k := h.logOf l
  if k == 7 || !h.sendsFrames || (h.interlockReady.isSome && h.copyLanes.contains l) then h else
  match h.wl.resend with
  | n :: rest =>
    let s := ((h.wl.unacked.find? fun p => p.1 == n).map Prod.snd).getD 0
    let h : Hub := { h with wl := { h.wl with resend := rest } }
    let i := (h.wl.unacked.filter fun p => p.2 == s).findIdx fun p => p.1 == n
    let r : Ready := match (h.ring s).packets[i]? with
      | some p => { bytes := p.bytes, seq := p.seq, content := some (p.header ++ p.body) }
      | none => { seq := h.fld (CIS_SEQ_NEXT s) }
    let h := (h.tally 120 1).tally 126 r.bytes
    (h.sendFrame k { h.frameOf 0 n s r with retx := true }).bump WL_CNT_RESENT 1
  | [] =>
    let s? := h.gapFirst.orElse fun _ => (h.readyStream 1).orElse fun _ => (h.readyStream 2).orElse fun _ => h.readyStream 3
    match s? with
    | none => h
    | some (s, r) =>
      if 16384 ≤ h.outstanding then
        if h.wl.windowFull then h else
        { h.raise 181 0 [h.wl.acked] with wl := { h.wl with windowFull := true } }
      else
        let n := h.fld WL_LSN_NEXT
        let h := (h.sendFrame k (h.frameOf 0 n s r)).takeReady s r
        let h : Hub := { h with wl := { h.wl with
          unacked := h.wl.unacked ++ [(n, s)]
          used := SMap.set (fun _ => 0) h.wl.used s ((SMap.get (fun _ => 0) h.wl.used s + r.units) % 2 ^ 32) } }
        ((h.bumpMod WL_LSN_NEXT 1).bump WL_CNT_DATA 1).showCredit s

/-- Copies of an INTERLOCK packet leave a lane, inside the frame that runs there (R288). -/
def sendCopies (k : Nat) (fs : List SentFrame) (h : Hub) : Hub :=
  let h := h.wakeLane k
  { h with wl := { h.wl with inner := SMap.insert h.wl.inner k fs } }

/-- The INTERLOCK packet that closed first is sent as two copies, back to back where one lane is active, and released (R288, R297). -/
def interlockFrame (h : Hub) : Hub :=
  if !h.sendsFrames then h else
  match h.interlockReady, h.copyLanes with
  | some (s, r), l0 :: rest =>
    let f := h.frameOf 1 h.wl.ilsn s r
    let h := match rest with
      | l1 :: _ => (h.sendCopies (h.logOf l0) [f]).sendCopies (h.logOf l1) [{ f with copy := 1 }]
      | [] =>
        let g := { h with lt := h.lt + (f.span + 16) / 32 }.frameOf 1 h.wl.ilsn s r
        h.sendCopies (h.logOf l0) [f, { g with copy := 1 }]
    let h : Hub := { h.tally 121 1 with wl := { h.wl with ilsn := (h.wl.ilsn + 1) % 2 ^ 32 } }
    let h := (h.bump WL_CNT_INTERLOCK 1).takeReady s r
    if r.content.isSome then h.releasePackets s 1 else h
  | _, _ => h

/-- AM blocks go out on every lane not in electrical idle, with one counter (R277, R281); the blocks since the last are counted, the
IDLE blocks among them as a free value (R351). -/
def sendAm (h : Hub) : Hub :=
  if h.linkState = 0 then h else
  let h := (List.range 5).foldl (fun (h : Hub) k =>
    if h.flag (WL_LANE_STAT_IDLE k) then h else h.sendCtl k (amBlock k (h.logicalOf k) h.wl.am)) h
  let h : Hub := { h with wl := { h.wl with am := (h.wl.am + 1) % 2 ^ 32 } }
  let lanes := h.activeLanes.filter fun l => !h.flag (WL_LANE_STAT_IDLE (h.logOf l))
  let h := lanes.foldl (fun (h : Hub) l => h.tally (116 + l) 16384) h
  (h.tally 122 (Config.idleBlocks h.fresh)).tick

/-! ### Command words that need no register access (R291-R301) -/

/-- The result of a command word: reply words, with the code of a NAK and the detail it is logged under. -/
structure WordResult where
  replies : List (BitVec 64) := []
  nak : Option (Nat × Nat) := none
  deriving DecidableEq, Repr

/-- A CREDIT word (R292). -/
def creditWord (s g : Nat) (h : Hub) : WordResult × Hub :=
  if 128 ≤ s || h.ringSize s == 0 || h.fld (CIS_STREAM_CFG_CLASS s) == 0 then ({ nak := some (0x0A, s) }, h) else
  let old := SMap.get (fun _ => 0) h.wl.grant s
  let used := SMap.get (fun _ => 0) h.wl.used s
  if 2 ^ 31 ≤ (g + 2 ^ 32 - old) % 2 ^ 32 then ({ nak := some (0x06, g) }, h)
  else
    let beyond := decide (2 ^ 24 < (g + 2 ^ 32 - used) % 2 ^ 32)
    let g' := if beyond then (used + 2 ^ 24) % 2 ^ 32 else g
    let h : Hub := { h with wl := { h.wl with grant := SMap.set (fun _ => 0) h.wl.grant s g' } }
    ({ nak := if beyond then some (0x05, g) else none }, h.showCredit s)

/-- An ACK word (R293). -/
def ackWord (a : Nat) (h : Hub) : WordResult × Hub :=
  let d := (a + 1 + 2 ^ 32 - h.wl.acked) % 2 ^ 32
  if 2 ^ 31 ≤ d then ({ nak := some (0x07, a) }, h)
  else if h.outstanding < d then ({ nak := some (0x08, a) }, h)
  else if d = 0 then ({}, h)
  else
    let gone := h.wl.unacked.take d
    let left := h.wl.unacked.drop d
    let h : Hub := { h with wl := { h.wl with
      acked := (a + 1) % 2 ^ 32, unacked := left, windowFull := false
      resend := h.wl.resend.filter fun n => left.any fun p => p.1 == n } }
    let h := h.put WL_LSN_ACKED a
    ({}, (List.range 128).foldl (fun (h : Hub) s =>
      let n := gone.countP fun p => p.2 == s
      if n = 0 then h else h.releasePackets s n) h)

/-- A RETX word (R294); the event is raised at most once per turn, with the count (R304). -/
def retxWord (n : Nat) (h : Hub) : WordResult × Hub :=
  if !h.isOut n then ({ nak := some (0x09, n) }, h) else
  let h := h.resendFrom n
  let k := h.wl.retxMore + h.wl.resend.length
  if h.wl.retxDone then ({}, { h with wl := { h.wl with retxMore := k } })
  else ({}, { h.raise 177 0 [n, k] with wl := { h.wl with retxDone := true, retxMore := 0 } })

/-- A flush over the downlink or a register (R257): refused for stream 0 and for a stream without a ring. It takes effect at
once where no packet is open, else at the packet's end; one more while one waits is merged. -/
def requestFlush (s : Nat) (h : Hub) : Option Hub :=
  if s = 0 || 128 ≤ s || h.ringSize s == 0 then none
  else
    let r := h.ring s
    if r.flushDue then some h
    else if r.open?.isNone then some ((h.setRing s { r with flushDue := true }).flushNow s)
    else some ((h.setRing s { r with flushDue := true }).refreshRing s)

def flushWord (s : Nat) (h : Hub) : WordResult × Hub :=
  match h.requestFlush s with
  | some h' => ({}, h')
  | none => ({ nak := some (0x0A, s) }, h)

/-- A PRBS_REPORT word (R301): new errors are reported at most once per second (R304). -/
def prbsWord (k e : Nat) (h : Hub) : WordResult × Hub :=
  if 5 ≤ k then ({}, h) else
  let new := e - h.fld (WL_TX_PRBS_ERR_ERRORS k)
  let h := (h.setReg (WL_TX_PRBS_ERR k) (BitVec.ofNat 32 e)).judgeFailed k (h.flag (WL_LANE_STAT_LOCK k)) (new != 0)
  let total := SMap.get (fun _ => 0) h.wl.prbsNew k + new
  let due := match SMap.find? h.wl.prbsAt k with | some t => decide (t + 1000000000 ≤ h.lt) | none => true
  if total = 0 then ({}, h)
  else if due then
    ({}, { h.raise 180 0 [k, total] with wl := { h.wl with
      prbsAt := SMap.insert h.wl.prbsAt k h.lt, prbsNew := SMap.set (fun _ => 0) h.wl.prbsNew k 0 } })
  else ({}, { h with wl := { h.wl with prbsNew := SMap.set (fun _ => 0) h.wl.prbsNew k total } })

/-- A NAK is sent and logged (R302). -/
def nakWord (tag opcode : Nat) (r : WordResult × Hub) : List (BitVec 64) × Hub :=
  match r.1.nak with
  | none => (r.1.replies, r.2)
  | some (code, detail) =>
    (r.1.replies ++ [replyNak tag code r.2.wl.dlsn opcode], r.2.violation 0 code opcode r.2.wl.dlsn detail)

/-- A command word that arrives while the link carries commands; else it is refused with BAD_STATE, or not received at all
without block lock (R302, R413). -/
def downlinkWord (tag opcode detail : Nat) (f : Hub → WordResult × Hub) (h : Hub) : List (BitVec 64) × Hub :=
  if !h.flag WL_STAT_DOWNLINK_OK then ([], h)
  else if !h.linkUp then nakWord tag opcode ({ nak := some (0x0C, detail) }, h)
  else nakWord tag opcode (f h)

/-- One command word as a command of its own. -/
def wordCmd (opcode detail : Nat) (f : Hub → WordResult × Hub) (h : Hub) : Hub :=
  let (ws, h) := h.downlinkWord 0 opcode detail f
  h.answer ws

end Hub

def execBlockLock (lane : RxLane) (s : State) : Host.Outcome State Fault Refusal := s.onHub (Hub.blockLock lane.lane lane.inv)
def execLockLoss (lane : Nat) (s : State) : Host.Outcome State Fault Refusal := s.onHub (Hub.lockLoss lane)
def execTrainAck (lock inv : Nat) (rev align : Bool) (s : State) : Host.Outcome State Fault Refusal :=
  s.onHub (Hub.trainAck lock inv rev align)
def execTrain (s : State) : Host.Outcome State Fault Refusal := s.onHub Hub.trainBlocks
def execNop (s : State) : Host.Outcome State Fault Refusal := s.onHub (Hub.wordCmd 0 0 fun h => ({}, h))
def execCredit (stream grant : Nat) (s : State) : Host.Outcome State Fault Refusal :=
  s.onHub (Hub.wordCmd 1 stream (Hub.creditWord stream grant))
def execAck (lsn : Nat) (s : State) : Host.Outcome State Fault Refusal := s.onHub (Hub.wordCmd 2 lsn (Hub.ackWord lsn))
def execRetx (lsn : Nat) (s : State) : Host.Outcome State Fault Refusal := s.onHub (Hub.wordCmd 3 lsn (Hub.retxWord lsn))
def execLaneStatus (lock _inv : Nat) (_rev : Bool) (s : State) : Host.Outcome State Fault Refusal :=
  s.onHub (Hub.wordCmd 4 0 fun h => ({}, h.laneStatus lock))
def execLaneSwap (t10ns : Nat) (s : State) : Host.Outcome State Fault Refusal := s.onHub (Hub.laneSwap t10ns)
def execFlush (stream : Nat) (s : State) : Host.Outcome State Fault Refusal :=
  s.onHub (Hub.wordCmd 5 stream (Hub.flushWord stream))
def execPrbsReport (lane errors : Nat) (s : State) : Host.Outcome State Fault Refusal :=
  s.onHub (Hub.wordCmd 8 lane (Hub.prbsWord lane errors))
def execSpareReady (lane : Nat) (s : State) : Host.Outcome State Fault Refusal := s.onHub (Hub.laneReady lane)
def execDownlinkLost (s : State) : Host.Outcome State Fault Refusal := s.onHub Hub.downlinkLost
def execDownlinkOk (lane : Nat) (s : State) : Host.Outcome State Fault Refusal := s.onHub (Hub.downlinkOk lane)
def execElectricalIdle (lane : Nat) (s : State) : Host.Outcome State Fault Refusal := s.onHub (Hub.electricalIdle lane)
def execDataFrame (lane : Nat) (s : State) : Host.Outcome State Fault Refusal := s.onHub (Hub.dataFrame lane)
def execInterlockFrame (s : State) : Host.Outcome State Fault Refusal := s.onHub Hub.interlockFrame
def execLaneReport (s : State) : Host.Outcome State Fault Refusal :=
  s.onHub Hub.laneReport
def execAm (s : State) : Host.Outcome State Fault Refusal := s.onHub Hub.sendAm

end Sys2Proof.Machine
end

