-- ==== Sys2Proof/Machine/BootOps.lean ====
section
/-!
DEFINITION. What boot is made of: the reset (R398), the calibration area (R381), the choice of a bank (R394-R396), and arming
(R399). Becoming the active hub uses the same operations.
-/

namespace Sys2Proof.Machine

namespace Hub

/-! ### Reset (R398) -/

/-- The registers that show what the always-on domain measures: feeds, rails, temperature. They stand through a reset. -/
def alwaysOn : List Nat := [PWR_FEED_STAT, PWR_RAIL_STAT, PWR_TEMP]

/-- The hub is reset: registers, memories and units take their reset values, and DEV.STATE shows `step`. Fuses, flash, LT, the
count of sessions, the TAP and the feeds stay. -/
def resetHub (cause step : Nat) (h : Hub) : Hub :=
  let fresh : Hub :=
    { lt := h.lt, fresh := h.fresh
      boot := { fuses := h.boot.fuses, nvm := h.boot.nvm, tap := h.boot.tap, cause := cause, lcFrom := h.boot.lcFrom
                sessions := h.boot.sessions }
      pwr := { por := h.pwr.por, isolated := h.pwr.isolated } }
  (alwaysOn.foldl (fun (n : Hub) a => n.setReg a (h.reg a)) fresh).put DEV_STATE_STEP step

/-! ### The calibration area (R377-R381) -/

/-- An entry as it lies in the flash. -/
structure CalEntry where
  item : Nat
  index : Nat
  setting : Nat
  value : CalValue
  bytes : Nat
  deriving DecidableEq, Repr

/-- The entry at a flash offset; none where its layout or its CRC fails (R378). -/
def entryAt (h : Hub) (a : Nat) : Option CalEntry :=
  let w (i : Nat) : Nat := h.nvmWord (a + 4 * i)
  let n := bits (w 0) 15 8
  if bits (w 0) 31 24 != 0xCA || decide (56 < n) then none else
  if w (5 + n) != crc32c (h.nvmRead a (20 + 4 * n)) then none else
  some { item := bits (w 0) 23 16, index := w 2 / 65536, setting := bits (w 2) 15 8, bytes := 24 + 4 * n
         value := { payload := (List.range n).map fun i => BitVec.ofNat 32 (w (5 + i)), large := bit (w 0) 7
                    fallback := bit (w 0) 6, seq := w 1, ft := w 3 * 2 ^ 32 + w 4 } }

/-- The base slot is valid: its header's CRC and its commit word match (R379, R381). Answers GENERATION. -/
def baseValid (h : Hub) (slot : Nat) : Option Nat :=
  let a := baseAt slot
  let w (i : Nat) : Nat := h.nvmWord (a + 4 * i)
  let bytes := w 4
  if w 0 == 0x43414C42 && w 5 == crc32c (h.nvmRead a 20) && decide (bytes % 4 = 0) && decide (bytes + 28 ≤ 0x80000)
      && h.nvmWord (a + 24 + bytes) == (w 1 ^^^ 0x5A5A5A5A) then some (w 1) else none

/-- The entries of a base slot from offset `a` on, and the offsets of those that fail; the walk ends where a length cannot be
read. -/
def baseEntries (h : Hub) (fuel a stop : Nat) : List CalEntry × List Nat :=
  match fuel with
  | 0 => ([], [])
  | n + 1 =>
    if stop ≤ a then ([], []) else
    match h.entryAt a with
    | some e => let (es, bad) := baseEntries h n (a + e.bytes) stop; (e :: es, bad)
    | none =>
      let w0 := h.nvmWord a
      if bits w0 31 24 != 0xCA || decide (56 < bits w0 15 8) then ([], [a]) else
      let (es, bad) := baseEntries h n (a + 24 + 4 * bits w0 15 8) stop
      (es, a :: bad)

/-- The entries of the journal from page `p` on, the offsets of those that fail, and the page at which the scan ends. -/
def journalEntries (h : Hub) (fuel p : Nat) : List CalEntry × List Nat × Nat :=
  match fuel with
  | 0 => ([], [], p)
  | n + 1 =>
    let a := journalAt + 256 * p
    if h.nvmBlank a 256 then ([], [], p) else
    let (es, bad, last) := journalEntries h n (p + 1)
    match h.entryAt a with
    | some e => (e :: es, bad, last)
    | none => (es, a :: bad, last)

/-- What the calibration area holds (R381): the valid base with the highest GENERATION, its entries, the journal's entries past
SEQ_HIGH in SEQ order, the offsets that failed in each, and the journal's page and SEQ where appending resumes. -/
structure CalArea where
  base : Option (Nat × Nat) := none
  entries : List CalEntry := []
  badBase : List Nat := []
  badJournal : List Nat := []
  page : Nat := 0
  seq : Nat := 0
  deriving DecidableEq, Repr

def calArea (h : Hub) : CalArea :=
  let base := match h.baseValid 0, h.baseValid 1 with
    | some g, some k => if g < k then some (1, k) else some (0, g)
    | some g, none => some (0, g)
    | none, some k => some (1, k)
    | none, none => none
  let (es, bad) := match base with
    | none => ([], [])
    | some (slot, _) => let a := baseAt slot; h.baseEntries 22000 (a + 24) (a + 24 + h.nvmWord (a + 16))
  let (js, badJ, page) := h.journalEntries 12288 0
  let high := match base with | some (slot, _) => h.nvmWord (baseAt slot + 8) + 1 | none => 0
  let js := (js.filter fun e => decide (high ≤ e.value.seq)).mergeSort fun a b => decide (a.value.seq ≤ b.value.seq)
  { base := base, entries := es ++ js, badBase := bad, badJournal := badJ, page := page
    seq := (js.foldl (fun n e => max n (e.value.seq + 1)) high) % 2 ^ 32 }

/-- A row repair of the journal (R329): accesses go to the spare row. -/
def applyRowEntry (e : CalEntry) (h : Hub) : Hub :=
  let w := (e.value.payload.headD 0).toNat
  if e.item != itemRow then h else
  let m := w / 2 ^ 27
  let row := w % 2 ^ 14
  if h.mem.repaired.contains (m, row) then h
  else ({ h with mem := { h.mem with repaired := h.mem.repaired ++ [(m, row)] } } : Hub).showRepairs m

/-- A stored value comes into force (R381). -/
def applyEntry (h : Hub) (e : CalEntry) : Hub :=
  let w (i : Nat) : Word := e.value.payload.getD i 0
  let key := calKey e.item (if e.item = itemRow then h.cal.values.countP (fun p => decide (p.1 / 2 ^ 24 = itemRow)) + 1 else e.index) e.setting
  let known := (decide (1 ≤ e.item) && decide (e.item ≤ 10)) || e.item == itemFail || e.item == itemRow
  if !known then h else
  let h : Hub := { h with cal := { h.cal with
    values := SMap.set (fun _ => {}) h.cal.values key e.value
    stored := SMap.set (fun _ => {}) h.cal.stored key e.value } }
  if e.item = itemCoef then
    h.setCoef e.index (e.setting / 32) (e.setting % 32)
      { offset := signed 24 (w 0).toNat, gain := (w 1).toNat % 2 ^ 24, qr := (w 2).toNat % 2 ^ 24 }
  else if e.item = itemTrim then h.setReg (CAL_CMP_TRIM e.index) (w 0)
  else if e.item = itemRef then h.putTrim false e.index (signed 16 (w 0).toNat)
  else if e.item = itemExc then h.putTrim true e.index (signed 16 (w 0).toNat)
  else if e.item = itemSkew then h.setReg (FI_FADC_SKEW e.index) (w 0)
  else if e.item = itemIq then (h.setReg (FI_IQ_CORR_W0 e.index) (w 0)).setReg (FI_IQ_CORR_W1 e.index) (w 1)
  else if e.item = itemRange then h.setReg FI_RANGE_ZERO (w 0)
  else h

/-- Each entry of the calibration area that fails is reported (R381). -/
def reportBad (area : CalArea) (h : Hub) : Hub :=
  let h := area.badBase.foldl (fun (h : Hub) a => h.raise 214 0 [a, 0]) h
  area.badJournal.foldl (fun (h : Hub) a => h.raise 214 0 [a, 1]) h

/-- The calibration area is read: every value found is in force from arm, and each entry that fails is reported (R381). -/
def readCalibration (h : Hub) : Hub :=
  let area := h.calArea
  let h := h.reportBad area
  let h := area.entries.foldl applyEntry h
  let (slot, gen) := area.base.getD (0, 0)
  (((h.put CAL_JOURNAL_STAT_BASE_SLOT slot).put CAL_JOURNAL_STAT_GENERATION gen).put CAL_JOURNAL_STAT_PAGES area.page).put
    CAL_JOURNAL_STAT_SEQ area.seq

/-! ### Choosing a bank (R394-R396) -/

/-- What a bank's checks give: the refusals, and the applied image where there is none. -/
def judgeBank (h : Hub) (b gen tr : Nat) : List Reject × Load × Option Image :=
  match h.structural b gen tr with
  | .error r => ([r], { hub := h }, none)
  | .ok img =>
    let l := h.loadImage img
    (l.refusals, l, some img)

/-- Refusals are kept, the first eight in BOOT.REFUSAL, and each is reported: source 0 boot, 1 dry run (R396). -/
def noteRefusals (source b : Nat) (rs : List Reject) (h : Hub) : Hub :=
  let h := (List.range 8).foldl (fun (h : Hub) i =>
    match rs[i]? with
    | some r =>
      (h.setReg (BOOT_REFUSAL_W0 i)
        (BitVec.ofNat 32 (2 ^ 31 + source * 2 ^ 30 + b * 2 ^ 29 + r.code * 65536 + r.ordinal))).setReg
        (BOOT_REFUSAL_W1 i) (BitVec.ofNat 32 r.detail)
    | none => (h.setReg (BOOT_REFUSAL_W0 i) 0).setReg (BOOT_REFUSAL_W1 i) 0) h
  let h := h.put (BOOT_BANK_STAT_CODE b) (rs.headD {}).code
  rs.foldl (fun (h : Hub) r => h.raise 217 0 [source, b, r.code, r.ordinal, r.detail]) h

/-- The candidates in the order they are tried, as bank, generation and trailer (R394). -/
def candidates (h : Hub) : List (Nat × Nat × Nat) :=
  match h.commitOf 0, h.commitOf 1 with
  | some (g, t), some (k, u) => if g < k then [(1, k, u), (0, g, t)] else [(0, g, t), (1, k, u)]
  | some (g, t), none => [(0, g, t)]
  | none, some (k, u) => [(1, k, u)]
  | none, none => []

/-- The commit records are read: BOOT.BANK_STAT shows the candidates; a bank with none draws NO_COMMIT. -/
def showBanks (h : Hub) : Hub :=
  (List.range 2).foldl (fun (h : Hub) b =>
    match h.commitOf b with
    | some (g, _) => (h.put (BOOT_BANK_STAT_CANDIDATE b) 1).put (BOOT_BANK_STAT_GENERATION b) g
    | none => h.put (BOOT_BANK_STAT_CODE b) 1) h

/-- The key hash that a KEY_FUSE record of an image would burn (R412). -/
def keyOf (img : Image) : Option (BitVec 256) :=
  (img.recs.find? fun r => r.type == 9).map fun r => BitVec.ofNat 256 (beNat (r.value.take 32))

/-- The candidates tried in order: the hub with the refusals kept, the first image that passes with its bank, and the key hashes
met on the way. A bank that CHECKS refuses gives way to the other with BOOT_FALLBACK, nothing of it staying in force. -/
def tryBanks (h : Hub) : List (Nat × Nat × Nat) → Hub × Option (Nat × Image × Load) × List (BitVec 256)
  | [] => (h, none, [])
  | (b, gen, tr) :: rest =>
    match h.judgeBank b gen tr with
    | ([], l, some img) => (h, some (b, img, l), (keyOf img).toList)
    | (rs, l, img) =>
      -- an image that was applied had the calibration area read before its checks, and it is read again for the next one
      let reported := (match img with | some _ => l.hub.reportBad l.hub.calArea | none => l.hub).noteRefusals 0 b rs
      let h := (List.range 8).foldl (fun (h : Hub) i =>
        (h.setReg (BOOT_REFUSAL_W0 i) (reported.reg (BOOT_REFUSAL_W0 i))).setReg (BOOT_REFUSAL_W1 i) (reported.reg (BOOT_REFUSAL_W1 i))) h
      let h : Hub := { h.put (BOOT_BANK_STAT_CODE b) (rs.headD {}).code with evt := reported.evt, pmc := reported.pmc }
      let h := match img, rest with
        | some _, (c, _, _) :: _ => h.raise 218 0 [b, c]
        | _, _ => h
      let (h, found, keys) := tryBanks h rest
      (h, found, (match img with | some i => (keyOf i).toList | none => []) ++ keys)

/-! ### Arming (R399) -/

/-- The patterns of the image are in force (R207, R236). -/
def armPatterns (h : Hub) : Hub :=
  let vec (f : Nat → Nat) : Nat := (List.range 19).foldr (fun w n => n * 2 ^ 32 + (h.reg (f w)).toNat) 0
  let pats := (List.range 16).foldl (fun (m : SMap (Nat × Nat)) t =>
    SMap.set (fun _ => (0, 0)) m t (vec (TRG_MASK t), vec (TRG_VALUE t))) []
  { h with trg := { h.trg with pats := pats } }

/-- The recipes are loaded on their engines (R140, R159). -/
def armRecipes (h : Hub) : Hub :=
  h.loaded.foldl (fun (h : Hub) r =>
    let h := h.setRecipe r { h.recipe r with bank := h.fld (SE_BANK_SEL_BANK r) }
    ((h.put (SE_RECIPE_STAT_ACTIVE r) 1).put (SE_RECIPE_STAT_ENGINE r) (h.recipe r).recipe.engine).put (SE_RECIPE_STAT_BANK r)
      (h.fld (SE_BANK_SEL_BANK r))) (h.put (SE_ENG_STAT_SERVES 16) 31)

/-- Cells, coefficients and taps as the settings and the calibration area give them (R75, R107, R381, R384). -/
def showCells (h : Hub) : Hub :=
  let h := (List.range 512).foldl (fun (h : Hub) c => h.showRole c) h
  (List.range 544).foldl (fun (h : Hub) n => (h.showCoef n).setTap n) h

/-- At arm every ADC is in service besides. -/
def armCells (h : Hub) : Hub :=
  let h := h.showCells
  (List.range 16).foldl (fun (h : Hub) a => h.put (CNV_ADC_STAT_IN_SERVICE a) 1) h

/-- Comparators follow their inputs, and spares that are fixed join (R129). -/
def startInputs (h : Hub) : Hub :=
  let h := (List.range 512).foldl (fun (h : Hub) c => if h.acquires c then h.driveCmp c else h) h
  (List.range 32).foldl (fun (h : Hub) g =>
    let c := 16 * g + h.fld (CNV_SPARE_FIX_INPUT g)
    let h := if h.flag (CNV_SPARE_FIX_EN g) && h.acquires c then h.joinSpare c 2 else h
    h.refreshRotation g) h

/-- The data plane starts: CA inputs release at their first tick with zero charge (R70), every input settles at least one frame
(R132), comparators follow their inputs, spares that are fixed join (R129), outputs, triggers' Standpipe, fibre and calibration
start. The domains have been powered. `cause` is that of the restarts (0 arm). -/
def startPlane (cause : Nat) (h : Hub) : Hub :=
  let h := (List.range 512).foldl (fun (h : Hub) c =>
    if h.mode c = 2 ∧ h.acquires c then
      h.setCell c { h.cell c with release := true, zeroDue := true, settle := max 1 (h.cell c).settle }
    else h) h
  let h := h.startInputs
  let h : Hub := { h with sp := { h.sp with restartDue := some cause } }
  let h := (h.startTrips false 0).refreshLaser
  let h := if h.fiaOn then h.coldStart 0 else h
  (h.startPass 0).showStandpipe

/-- Step 6 (R399): MT waits for BCLK, the link starts, the hub is armed. With a twin configured it joins the pair and powers
nothing but what the standby role has (R424, R425); without one the data plane starts. -/
def arm (h : Hub) : Hub :=
  let h := h.armPatterns.armRecipes.armCells
  let h := (List.range 32).foldl (fun (h : Hub) n => if h.flag (DMA_CH_CFG_EN n) then h.rest n else h) h
  let twin := h.flag TWN_CFG_EN
  let h := if twin then h.put TWN_STAT_ROLE 1 else h.settleDomains .register
  let h := ((h.put DEV_STATE_STEP 6).put PWR_TEMP_PEAK (h.fld PWR_TEMP_TJ)).showGeometry
  let h := (List.range 16).foldl (fun (h : Hub) t => if h.flag (TRG_CFG_ARM_INIT t) then h.armTrigger 3 t else h) h
  let h := h.usedRings.foldl (fun (h : Hub) s => h.refreshRing s) h
  let h := h.setLink 1
  let h : Hub := { h with pmc := { h.pmc with refAt := h.lt }, trg := { h.trg with divider := 0 } }
  if twin then h.refreshLaser else h.startPlane 0

end Hub

end Sys2Proof.Machine
end

