-- ==== Sys2Proof/Machine/Boot.lean ====
section
/-!
DEFINITION. Reset, boot, the update window, the life-cycle, a restart of the management core, and the test access port
(12_image_boot.md).
-/

namespace Sys2Proof.Machine

/-- The life-cycle state that the fuses spell (R409). -/
def lcOf (f : Fuses) : Nat :=
  if f.retired then 4
  else if f.burned = 0 then 0
  else if f.burned = 1 then 1
  else if f.burned % 2 = 0 then 2 else 3

/-- The state table of R410: from one state to another. -/
def lcMayChange (old new : Nat) : Bool :=
  (old == 0 && (new == 1 || new == 4)) || (old == 1 && (new == 2 || new == 4)) || (old == 2 && (new == 3 || new == 4))
    || (old == 3 && (new == 2 || new == 4))

/-- The states of the update window, and its results (R406). -/
inductive Upd where
  | idle | erasing | opened | programming | checking | committed | failed
  deriving DecidableEq, Repr

def Upd.code : Upd → Nat
  | .idle => 0 | .erasing => 1 | .opened => 2 | .programming => 3 | .checking => 4 | .committed => 5 | .failed => 6

/-- The bytes of a commit record (R388, R393). -/
def commitBytes (gen tr : Nat) : List Byte :=
  let body := beBytes ([0x00FF0000, 16, 0x434F4D54, gen, tr, gen ^^^ 0xFFFFFFFF].map (BitVec.ofNat 32))
  body ++ beWord (BitVec.ofNat 32 (crc32c body))

namespace Hub

/-! ### Boot (R398-R402, R408-R412) -/

/-- Step 1: what the fuses hold, and the rails that are restored by the reset (R399, R417, R451). -/
def readFuses (unit : Bool) (h : Hub) : Hub :=
  let f := h.boot.fuses
  let left := if f.retired then 0 else min 31 ((64 - f.burned) / 2)
  let h := (h.put DEV_ID_VARIANT (ofBool f.variantH)).put TWN_STAT_UNIT (ofBool unit)
  let h := (h.setReg DEV_SERIAL_LO (BitVec.ofNat 32 f.serial.toNat)).setReg DEV_SERIAL_HI (BitVec.ofNat 32 (f.serial.toNat / 2 ^ 32))
  let h := (List.range 8).foldl (fun (h : Hub) i => h.setReg (DEV_KEY_HASH i) (BitVec.ofNat 32 (f.key.toNat / 2 ^ (32 * (7 - i))))) h
  let h := (((h.put DEV_LC_FUSE_RET (ofBool f.retired)).put DEV_LC_FUSE_K f.burned).put DEV_LC_FUSE_SERVICE_LEFT left).put
    DEV_STATE_LC (lcOf f)
  (h.put DEV_RESET_CAUSE_CAUSE h.boot.cause).put PWR_RAIL_STAT_GOOD 63

/-- A boot has ended: its times, and the change of state it reports (R400, R411). -/
def endBoot (us nvmUs : Nat) (h : Hub) : Hub :=
  let h := (h.put BOOT_TIME_TOTAL_US us).put BOOT_TIME_NVM_US nvmUs
  match h.boot.lcFrom with
  | none => h
  | some old => ({ h with boot := { h.boot with lcFrom := none } } : Hub).raise 221 0 [old, h.lc]

/-- The boot ends in HALTED for a cause: the Ethernet port runs with the address the serial gives, the link comes up (R402). -/
def halt (cause us nvmUs : Nat) (h : Hub) : Hub :=
  let serial := h.boot.fuses.serial.toNat
  let h := (h.put DEV_STATE_STEP 7).put DEV_STATE_HALT_CAUSE cause
  let h := (h.put FT_ETH_CFG_MAC_W0 (0x02 * 2 ^ 24 + bits serial 39 16)).put FT_ETH_CFG_MAC_W1 (bits serial 15 0)
  (h.setLink 1).endBoot us nvmUs

/-- A bank whose image passed is in force (R394, R417, R418). -/
def inForce (b : Nat) (img : Image) (first : Option (Nat × Nat × Nat)) (h : Hub) : Hub :=
  let h := ((((h.put DEV_STATE_BANK b).put DEV_STATE_BANK_VALID 1).put DEV_STATE_FALLBACK
    (ofBool (first.map Prod.fst != some b))).put DEV_STATE_SIGNED (ofBool img.signed)).put (BOOT_BANK_STAT_IN_FORCE b) 1
  let h := (List.range 8).foldl (fun (h : Hub) i => h.setReg (BOOT_DIGEST i) (img.trailer.getD (4 + i) 0)) h
  (h.put SE_UCODE_ROM_VER Config.romVersion).put SE_UCODE_PATCH (Config.patchLevel h.boot.patches)

/-- The key hash that an image brings is burned where the state is COMMISSION and none is fused (R412). -/
def burnKey (keys : List (BitVec 256)) (h : Hub) : Hub :=
  match keys with
  | k :: _ =>
    if h.lc = 1 ∧ h.boot.fuses.key = 0 then { h with boot := { h.boot with fuses := { h.boot.fuses with key := k } } } else h
  | [] => h

/-- Step 1 begins: the fuses are read, a session of FT and the ages of calibration start (R307, R373, R399). -/
def bootFuses (unit : Bool) (us : Nat) (h : Hub) : Hub :=
  let h : Hub := { h with lt := (h.lt + 1000 * us) % 2 ^ 64 }
  ((h.put DEV_STATE_STEP 1).readFuses unit).startSession.startAges

/-- The rest of step 1, and step 2: rows are repaired (R329), the memories wiped (R331). -/
def bootWipe (h : Hub) : Hub :=
  let h := h.calArea.entries.foldl (fun (h : Hub) e => applyRowEntry e h) h
  ((h.put DEV_STATE_STEP 2).raise 245 0 [ofBool h.boot.lcFrom.isSome, Config.wipeUs h.fresh % 1001]).tick

/-- The hub as step 3 finds it. -/
def atBanks (unit : Bool) (us : Nat) (h : Hub) : Hub := ((h.bootFuses unit us).bootWipe.put DEV_STATE_STEP 3).showBanks

/-- A boot from the release of a reset (R399): FUSES, WIPE, NVM_LOAD, CHECKS, CALIBRATION and ARM, or HALTED. -/
def bootUp (flashOk unit : Bool) (us nvmUs : Nat) (h : Hub) : Hub :=
  if h.dark || h.pwr.shutdown || (h.bootStep != 0 && h.bootStep != 9) then h else
  if !flashOk then (h.bootFuses unit us).halt 4 us nvmUs else
  if h.boot.fuses.burned = 0 ∧ ¬ h.boot.fuses.retired then (h.bootFuses unit us).bootWipe.halt 1 us nvmUs else
  if h.boot.fuses.retired then (h.bootFuses unit us).bootWipe.halt 2 us nvmUs else
  let h := h.atBanks unit us
  let tried := h.candidates
  let (h, found, keys) := h.tryBanks tried
  match found with
  | none => (h.burnKey keys).halt 3 us nvmUs
  | some (b, img, l) =>
    let h := (((l.hub.burnKey keys).inForce b img tried.head?).readCalibration.put DEV_STATE_STEP 4).writeCapacity
    let h := (((h.put DEV_STATE_STEP 5).measureTrims !h.flag TWN_CFG_EN).arm).endBoot us nvmUs
    h.raise 216 0 [b, h.fld (BOOT_BANK_STAT_GENERATION b), us, h.lc, h.boot.cause]

/-- RESET_N low for `edges` REFCLK edges: 100 reset the hub (R398). -/
def resetBall (edges : Nat) (h : Hub) : Hub :=
  if edges < 100 ∨ h.pwr.por ∨ h.pwr.cut ∨ h.pwr.shutdown then h else h.resetHub 1 0

/-! ### The update window (R405-R408) -/

/-- The target of the window (R405): the bank not in force, or the one a command names where none is. -/
def updTarget (h : Hub) (bank : Bool) : Nat :=
  if h.flag DEV_STATE_BANK_VALID then 1 - h.fld DEV_STATE_BANK else ofBool bank

def updState (h : Hub) : Upd :=
  match h.fld BOOT_UPD_STAT_STATE with
  | 0 => .idle | 1 => .erasing | 2 => .opened | 3 => .programming | 4 => .checking | 5 => .committed | _ => .failed

/-- The window moves to a state with a result, and reports it. -/
def setUpd (st : Upd) (result : Nat) (h : Hub) : Hub :=
  let old := h.updState
  ((h.put BOOT_UPD_STAT_STATE st.code).put BOOT_UPD_STAT_RESULT result).raise 219 0 [old.code, st.code, result]

/-- A command is refused with a result: the state stays. -/
def refuseUpd (result : Nat) (h : Hub) : Hub := h.setUpd h.updState result

/-- A command that needs one of the states given: refused with BUSY while another runs, with BAD_STATE elsewhere (R406); in
RETIRED the window takes none (R402). -/
def updIn (states : List Upd) (f : Hub → Hub) (h : Hub) : Hub :=
  if h.lc = 4 then h.refuseUpd 2
  else if states.contains h.updState then f h
  else if [Upd.erasing, .programming, .checking].contains h.updState then h.refuseUpd 1
  else h.refuseUpd 2

/-- The offset in the flash of a bank's last sector. -/
def lastSector (b : Nat) : Nat := bankAt b + 0xFF0000

/-- BEGIN: the target's last sector is erased first, so that its commit is gone; in a management stall the erase waits (R4). -/
def updBegin (bank : Bool) (h : Hub) : Hub :=
  h.updIn [.idle, .opened, .committed, .failed] fun h =>
    let b := h.updTarget bank
    let h := (if h.boot.stalled then h else h.nvmErase (lastSector b) 0x10000).put BOOT_UPD_STAT_BANK b
    (({ h with boot := { h.boot with pages := [], page := none } } : Hub).put BOOT_UPD_STAT_PAGES 0).setUpd .erasing 0

def eraseDone (h : Hub) : Hub :=
  if h.updState ≠ .erasing ∨ h.boot.stalled then h else
  (h.nvmErase (bankAt (h.fld BOOT_UPD_STAT_BANK)) 0x1000000).setUpd .opened 0

/-- PROGRAM: a page that is aligned, inside the bank's records and not yet programmed. -/
def updProgram (bank : Bool) (h : Hub) : Hub :=
  h.updIn [.opened] fun h =>
    let off := h.fld BOOT_UPD_OFFSET_OFFSET
    if off % 256 ≠ 0 ∨ 0x00FF0000 ≤ off then h.refuseUpd 3 else
    if h.boot.pages.contains off then h.refuseUpd 4 else
    let bytes := beBytes ((List.range 64).map fun k => h.reg (BOOT_UPD_PAGE k))
    let h := h.put BOOT_UPD_STAT_BANK (h.updTarget bank)
    ({ h with boot := { h.boot with page := some (off, bytes) } } : Hub).setUpd .programming 0

/-- The page is programmed and read back: the bytes given read otherwise than written. -/
def programDone (flips : List (Nat × Byte)) (h : Hub) : Hub :=
  match h.boot.page with
  | none => h
  | some (off, bytes) =>
    if h.updState ≠ .programming ∨ h.boot.stalled then h else
    let back := flips.foldl (fun (bs : List Byte) p => bs.set p.1 p.2) bytes
    let a := bankAt (h.fld BOOT_UPD_STAT_BANK) + off
    let h := h.nvmWrite a back
    let h : Hub := { h with boot := { h.boot with page := none, pages := off :: h.boot.pages } }
    let h := h.put BOOT_UPD_STAT_PAGES h.boot.pages.length
    if back = bytes then h.setUpd .opened 0 else (h.setUpd .failed 5).raise 222 0 [1, a]

/-- COMMIT: the dry run starts. -/
def updCommit (bank : Bool) (h : Hub) : Hub :=
  h.updIn [.opened] fun h => (h.put BOOT_UPD_STAT_BANK (h.updTarget bank)).setUpd .checking 0

/-- The bank offset of the trailer, found by walking the records from offset 0 (R407). -/
def findTrailer (h : Hub) (b fuel off : Nat) : Option (Nat × ImgRec) :=
  match fuel with
  | 0 => none
  | n + 1 =>
    match h.recordAt b off 0xFF0000 with
    | none => none
    | some r => if r.type == 0xF0 then some (off, r) else findTrailer h b n (off + r.bytes)

/-- The generation that a new one has to exceed: that of the bank in force, in HALTED that of the other candidate. -/
def rivalGeneration (h : Hub) (b : Nat) : Nat :=
  if h.flag DEV_STATE_BANK_VALID then h.fld (BOOT_BANK_STAT_GENERATION (h.fld DEV_STATE_BANK))
  else match h.commitOf (1 - b) with | some (g, _) => g | none => 0

/-- What the dry run of a bank finds: the generation and the offset of its trailer where there is one, and the refusals that a boot
would give it (R407). -/
def dryRun (h : Hub) (b : Nat) : Option (Nat × Nat) × List Reject :=
  match h.findTrailer b 0x160000 0 with
  | none => (none, [{ code := 2 }])
  | some (tr, t) =>
    let gen := t.word 2
    (some (gen, tr), (((h.resetHub 0 3).readFuses (h.flag TWN_STAT_UNIT)).judgeBank b gen tr).1)

/-- The dry run ends, applying nothing; where nothing is refused the commit record is written (R407). -/
def commitDone (h : Hub) : Hub :=
  if h.updState ≠ .checking ∨ h.boot.stalled then h else
  let b := h.fld BOOT_UPD_STAT_BANK
  match h.dryRun b with
  | (some (gen, tr), []) =>
    if gen ≤ h.rivalGeneration b then h.setUpd .opened 7
    else ((h.nvmWrite (bankAt b + 0xFFFF00) (commitBytes gen tr)).setUpd .committed 0).raise 220 0 [b, gen]
  | (_, rs) => (h.noteRefusals 1 b rs).setUpd .opened 6

/-- ABORT: the target's last sector is erased, and with it a commit; in a management stall the erase waits (R408). -/
def updAbort (bank : Bool) (h : Hub) : Hub :=
  if h.lc = 4 ∨ h.updState = .idle then h.refuseUpd 2 else
  let b := h.updTarget bank
  let h : Hub := if h.boot.stalled then { h with boot := { h.boot with eraseDue := some b } } else h.nvmErase (lastSector b) 0x10000
  ({ h with boot := { h.boot with page := none, pages := [] } } : Hub).setUpd .idle 0

/-- A write of BOOT.UPD_CTRL (R406). -/
def writeUpdCtrl (v : Word) (h : Hub) : Hub :=
  let bank := bit v.toNat 8
  match bits v.toNat 2 0 with
  | 1 => h.updBegin bank
  | 2 => h.updProgram bank
  | 3 => h.updCommit bank
  | 4 => h.updAbort bank
  | _ => h.refuseUpd 2

/-! ### The life-cycle (R411) -/

/-- A write of DEV.LC_REQ is a request the table allows. -/
def lcAllowed (h : Hub) (v : Word) : Bool :=
  let target := bits v.toNat 31 28
  bits v.toNat 27 24 == 15 - target && bits v.toNat 23 0 == (h.reg DEV_SERIAL_LO).toNat % 2 ^ 24 && lcMayChange h.lc target
    && !(target == 2 && h.bootStep == 7) && !(target == 3 && h.boot.fuses.burned == 64)

/-- An accepted request: the outputs reset, the fuse is burned where `burns`, and a boot follows. -/
def changeLc (v : Word) (burns : Bool) (h : Hub) : Hub :=
  let old := h.lc
  let f := h.boot.fuses
  if burns then
    let f := if bits v.toNat 31 28 = 4 then { f with retired := true } else { f with burned := f.burned + 1 }
    ({ h with boot := { h.boot with fuses := f, lcFrom := some old } } : Hub).resetHub 2 9
  else (h.resetHub 2 9).raise 222 0 [3, 0]

/-- A request over a path: refused with BAD_STATE where it is not allowed. -/
def requestLc (p : Path) (v : Word) (burns : Bool) (h : Hub) : Hub :=
  let (o, h) := h.writeTo p DEV_LC_REQ .LV some
  match o with
  | .done => if h.lcAllowed v then h.changeLc v burns else h.report p .badState DEV_LC_REQ true
  | o => h.report p o DEV_LC_REQ true

/-! ### The management plane (R4, R404) -/

/-- The management cores disagree: the MC restarts, and the plane stalls. -/
def mcRestart (h : Hub) : Hub :=
  if h.pwr.por || [0, 8, 9].contains h.bootStep then h else
  let h := h.bump DEV_MC_STAT_RESTARTS 1
  let h := h.raise 223 0 [h.fld DEV_MC_STAT_RESTARTS]
  let h := (List.range 32).foldl (fun (h : Hub) n =>
    if firmwareChan n && h.fld (DMA_CH_STAT_STATE n) == 2 then h.put (DMA_CH_STAT_STATE n) 4 else h) h
  { h with boot := { h.boot with stalled := true } }

/-- The plane resumes: firmware DMA goes on, journal writes, bank updates and a ramp of y that waited are taken up, pending shadow
reloads are done, and the open visits start again (R4, R366). -/
def mcResume (h : Hub) : Hub :=
  if !h.boot.stalled then h else
  let h : Hub := { h with boot := { h.boot with stalled := false }, se := { h.se with shadowDue := [] } }
  let h : Hub := match h.boot.eraseDue with
    | some b => { h.nvmErase (lastSector b) 0x10000 with boot := { (h.nvmErase (lastSector b) 0x10000).boot with eraseDue := none } }
    | none => h
  let h := if h.updState = .erasing then h.nvmErase (lastSector (h.fld BOOT_UPD_STAT_BANK)) 0x10000 else h
  let h := h.flushJournal.resumeRamp
  let h := (List.range 32).foldl (fun (h : Hub) n =>
    if firmwareChan n && h.fld (DMA_CH_STAT_STATE n) == 4 then h.put (DMA_CH_STAT_STATE n) 2 else h) h
  (List.range 32).foldl (fun (h : Hub) g => ((h.restartVisit g).startVisit g).refreshRotation g) h

/-! ### The test access port (R414, R475) -/

def putTap (t : Tap) (h : Hub) : Hub := { h with boot := { h.boot with tap := t } }

/-- An instruction is selected; a locked one selects the bypass register, which captures 0. -/
def selectTap (ir : Nat) (locks : Bool) (f : Tap → Tap) (h : Hub) : Hub :=
  let t := h.boot.tap
  if locks && (h.lc == 2 || h.lc == 4) then h.putTap { t with ir := 0xFF, captured := 0 } else h.putTap (f { t with ir := ir })

def tapIdcode (h : Hub) : Hub := h.selectTap 0x02 false fun t => { t with captured := 0x151204B5 }
def tapBypass (h : Hub) : Hub := h.selectTap 0xFF false fun t => { t with captured := 0 }
/-- EXTEST: while it is selected the balls follow the boundary register. -/
def tapExtest (h : Hub) : Hub := h.selectTap 0x00 true id
def tapSample (boundary : List Bool) (h : Hub) : Hub := h.selectTap 0x01 true fun t => { t with boundary := boundary }

end Hub

/-- RESET_N (R398). -/
def execResetN (edges : Nat) (s : State) : Host.Outcome State Fault Refusal := s.onAon (Hub.resetBall edges)

/-- BOOT (R399). -/
def execBoot (flashOk unit : Bool) (us nvmUs : Nat) (s : State) : Host.Outcome State Fault Refusal :=
  s.onHub (Hub.bootUp flashOk unit us nvmUs)

/-- BEGIN (R406). -/
def execBegin (path : Path) (bank : Bool) (s : State) : Host.Outcome State Fault Refusal :=
  s.onHub (Hub.writeCmd path BOOT_UPD_CTRL .LV fun h => some (h.updBegin bank))

/-- ERASE_COMPLETE (R406). -/
def execEraseComplete (s : State) : Host.Outcome State Fault Refusal := s.onHub Hub.eraseDone

/-- PROGRAM (R406). -/
def execProgram (path : Path) (bank : Bool) (s : State) : Host.Outcome State Fault Refusal :=
  s.onHub (Hub.writeCmd path BOOT_UPD_CTRL .LV fun h => some (h.updProgram bank))

/-- PROGRAM_COMPLETE (R406). -/
def execProgramComplete (flips : List (Nat × Byte)) (s : State) : Host.Outcome State Fault Refusal := s.onHub (Hub.programDone flips)

/-- COMMIT (R407). -/
def execCommit (path : Path) (bank : Bool) (s : State) : Host.Outcome State Fault Refusal :=
  s.onHub (Hub.writeCmd path BOOT_UPD_CTRL .LV fun h => some (h.updCommit bank))

/-- UPD_COMMITTED (R407). -/
def execUpdCommitted (s : State) : Host.Outcome State Fault Refusal := s.onHub Hub.commitDone

/-- UPD_ABORT (R406). -/
def execUpdAbort (path : Path) (bank : Bool) (s : State) : Host.Outcome State Fault Refusal :=
  s.onHub (Hub.writeCmd path BOOT_UPD_CTRL .LV fun h => some (h.updAbort bank))

/-- LC_REQ (R411). -/
def execLcReq (path : Path) (value : Word) (burns : Bool) (s : State) : Host.Outcome State Fault Refusal :=
  s.onHub (Hub.requestLc path value burns)

/-- MC_RESTART (R404). -/
def execMcRestart (s : State) : Host.Outcome State Fault Refusal := s.onHub Hub.mcRestart

/-- MANAGEMENT_PLANE_RESUME (R4). -/
def execManagementPlaneResume (s : State) : Host.Outcome State Fault Refusal := s.onHub Hub.mcResume

/-- IDCODE (R414). -/
def execIdcode (s : State) : Host.Outcome State Fault Refusal := s.onHub Hub.tapIdcode

/-- BYPASS (R414). -/
def execBypass (s : State) : Host.Outcome State Fault Refusal := s.onHub Hub.tapBypass

/-- EXTEST (R414). -/
def execExtest (s : State) : Host.Outcome State Fault Refusal := s.onHub Hub.tapExtest

/-- SAMPLE_PRELOAD (R414). -/
def execSamplePreload (boundary : List Bool) (s : State) : Host.Outcome State Fault Refusal := s.onHub (Hub.tapSample boundary)

end Sys2Proof.Machine
end

