-- ==== Sys2Proof/Machine/Cistern.lean ====
section
/-!
DEFINITION. The commands of the Cistern and the Siphon coder (R242, R256, R257, R269, R270, R272).
-/

namespace Sys2Proof.Machine

namespace Hub

/-- The packet a stream is filling runs out of its age: a RECORDS packet 2 µs after its first record, a sample packet once its first
set is older than AGE × 10 µs; with AGE 0 it has no limit (R242, R248). A packet whose stream has been stopped closes with
STOP when no set from before the stop comes any more (R256). -/
def ageClose (s : Nat) (h : Hub) : Hub :=
  match (h.ring s).spans, (h.ring s).open? with
  | _ :: _, _ => h.finishStop s
  | [], none => h
  | [], some p =>
    if p.fmt = fmtRecords then h.closePacket s false else
    let age := h.fld (CIS_STREAM_CFG_AGE s)
    if age = 0 then h else
    let h := h.advanceTo (p.slot + (age * h.bclk / 1000 + 1 : Nat))
    if (h.ring s).inSet && (h.ring s).open?.isSome then h.setRing s { h.ring s with closeDue := true } else h.closePacket s false

/-- A write of CIS.STREAM_CTL, held for the next slot boundary (R256): none for stream 0. -/
def streamCtl (s : Nat) (stop : Bool) (h : Hub) : Option Hub :=
  if s = 0 || 128 ≤ s then none else some { h with cis := { h.cis with ctlDue := h.cis.ctlDue ++ [(s, stop)] } }

/-- The packet boundary of a requested flush (R257). -/
def flushBoundary (s : Nat) (h : Hub) : Hub :=
  if !(h.ring s).flushDue then h
  else if (h.ring s).open?.isSome then h.closePacket s false else h.flushNow s

/-- The rings with corrected words are reported once per second (R272). -/
def eccSummary (h : Hub) : Hub :=
  let n := h.cis.rings.countP fun p => p.2.eccSec
  if n = 0 then h else
  ({ h with cis := { h.cis with rings := SMap.update (fun _ => {}) (fun _ r => { r with eccSec := false }) h.cis.rings } } : Hub).raise
    149 0 [n]

/-- A block is coded; one of fewer than 32 containers is the last of its packet, which closes with it (R242, R265). -/
def siphonBlock (s : Nat) (first second : Bool) (h : Hub) : Hub :=
  match (h.ring s).open? with
  | none => h
  | some p =>
    let left := p.conts.length - p.coded
    if p.ratio = 0 ∨ left = 0 then h else
    let h := h.codeBlock s first second
    if left < 32 then h.closePacket s false else h

end Hub

def execPacketClose (stream : Nat) (s : State) : Host.Outcome State Fault Refusal := s.onHub (Hub.ageClose stream)
def execStreamCtlStart (path : Path) (stream : Nat) (s : State) : Host.Outcome State Fault Refusal :=
  s.onHub (Hub.writeCmd path CIS_STREAM_CTL .LV (Hub.streamCtl stream false))
def execStreamCtlStop (path : Path) (stream : Nat) (s : State) : Host.Outcome State Fault Refusal :=
  s.onHub (Hub.writeCmd path CIS_STREAM_CTL .LV (Hub.streamCtl stream true))
def execCisFlush (path : Path) (stream : Nat) (s : State) : Host.Outcome State Fault Refusal :=
  s.onHub (Hub.writeCmd path CIS_FLUSH .LV (Hub.requestFlush stream))
def execFlushed (stream : Nat) (s : State) : Host.Outcome State Fault Refusal := s.onHub (Hub.flushBoundary stream)
def execEccSummary (s : State) : Host.Outcome State Fault Refusal := s.onHub Hub.eccSummary
def execSiphonBlock (stream : Nat) (first second : Bool) (s : State) : Host.Outcome State Fault Refusal :=
  s.onHub (Hub.siphonBlock stream first second)
def execHistCommit (path : Path) (stream : Nat) (s : State) : Host.Outcome State Fault Refusal :=
  s.onHub (Hub.writeCmd path SIP_HIST_COMMIT .LV fun h => some (h.histCommit stream))

end Sys2Proof.Machine
end

