-- ==== Sys2Proof/Machine/EngineCmds.lean ====
section
/-!
DEFINITION. The commands of the signal engines (R153-R164): failure, takeover, planned swap, bank selection, digital thresholds.
-/

namespace Sys2Proof.Machine

namespace Hub

/-- SE_SPARE is idle or loads for a planned swap, is powered and has not failed. -/
def spareFree (h : Hub) : Bool :=
  let st := h.fld (SE_ENG_STAT_STATE 16)
  !h.se.spareOut && (st == 2 || (st == 3 && h.se.swap.isSome)) && bit (h.fld PWR_DOM_STAT_ENG) 16

/-- A write of SE.SWAP with EN = 1 (R163): the spare loads the engine's records; refused for an engine that has failed, and while the spare is not available. -/
def requestSwap (e : Nat) (h : Hub) : Option Hub :=
  if e < 16 && h.spareFree && h.se.takeover.isNone && h.fld (SE_ENG_STAT_STATE e) != 4 then
    some (({ h with se := { h.se with swap := some (e, false, h.now + h.slots20us) } }.setReg SE_SWAP (BitVec.ofNat 32 (16 + e))).put
      (SE_ENG_STAT_STATE 16) 3)
  else none

/-- A write of SE.SWAP with EN = 0 (R163): the recipes go back; without a planned swap there is nothing to hand back. -/
def requestHandBack (e : Nat) (h : Hub) : Option Hub :=
  let h := h.setReg SE_SWAP (BitVec.ofNat 32 (e % 16))
  if h.se.planned then
    some { h with se := { h.se with swap := some (h.fld (SE_ENG_STAT_SERVES 16), true, h.now + h.slots20us) } }
  else
    let h := if h.fld (SE_ENG_STAT_STATE 16) == 3 && h.se.swap.isSome then h.put (SE_ENG_STAT_STATE 16) 2 else h
    some { h with se := { h.se with swap := none } }

/-- A write of SE.BANK_SEL[r] (R156): refused for a recipe without two banks, no effect where the bank stays. -/
def selectBank (r bank : Nat) (h : Hub) : Option Hub :=
  if !h.loaded.contains r || !h.twoBanks r then none
  else if h.fld (SE_BANK_SEL_BANK r) = bank % 2 then some h
  else some ((h.setRecipe r { h.recipe r with bankDue := some (bank % 2, h.now + h.slots20us) }).put (SE_BANK_SEL_BANK r) bank)

/-- The recipe that a threshold names holds DIG_THRESHOLD and takes the input (R153, R155). -/
def dtRecipeOk (h : Hub) (c r : Nat) : Bool :=
  h.loaded.contains r && (h.recipe r).recipe.inputs.contains c && (h.recipe r).recipe.stages.any fun s => s.kernel == 9

/-- A write of a threshold register (R157): held for the next frame tick; refused where TH_LO would not lie below TH_HI, where
PERSIST is 0, and where the engine form names a recipe that cannot evaluate the input. -/
def writeDt (which : DtReg) (c : Nat) (v : Word) (h : Hub) : Option Hub :=
  let hi := h.written (SE_DT_TH_HI c)
  let lo := h.written (SE_DT_TH_LO c)
  let below (lo hi : Word) : Bool := decide (signed 24 lo.toNat < signed 24 hi.toNat)
  match which with
  | .hi => if below lo v then some (h.stage (SE_DT_TH_HI c) (v &&& 0xFFFFFF)) else none
  | .lo => if below v hi then some (h.stage (SE_DT_TH_LO c) (v &&& 0xFFFFFF)) else none
  | .cfg =>
    if (SE_DT_CFG_PERSIST c).get v = 0 then none
    else if (SE_DT_CFG_SRC c).get v = 1 && !h.dtRecipeOk c ((SE_DT_CFG_RECIPE c).get v) then none
    else some (h.stage (SE_DT_CFG c) (v &&& BitVec.ofNat 32 0xFFE0FF))

/-- The address of a threshold register. -/
def dtAddr (which : DtReg) (c : Nat) : Nat :=
  match which with
  | .cfg => SE_DT_CFG c
  | .hi => SE_DT_TH_HI c
  | .lo => SE_DT_TH_LO c

end Hub

def execEngineFail (engine cause : Nat) (s : State) : Host.Outcome State Fault Refusal := s.onHub (Hub.failEngine engine cause)
def execSeTakeover (s : State) : Host.Outcome State Fault Refusal := s.onHub Hub.takeOver
def execSeSwap (path : Path) (engine : Nat) (s : State) : Host.Outcome State Fault Refusal :=
  s.onHub (Hub.writeCmd path SE_SWAP .LV (Hub.requestSwap engine))
def execSeHandBack (path : Path) (engine : Nat) (s : State) : Host.Outcome State Fault Refusal :=
  s.onHub (Hub.writeCmd path SE_SWAP .LV (Hub.requestHandBack engine))
def execSwapDone (s : State) : Host.Outcome State Fault Refusal := s.onHub Hub.swapDone
def execBankSel (path : Path) (recipe bank : Nat) (s : State) : Host.Outcome State Fault Refusal :=
  s.onHub (Hub.writeCmd path (SE_BANK_SEL recipe) .LV (Hub.selectBank recipe bank))
def execBankSwitch (recipe : Nat) (s : State) : Host.Outcome State Fault Refusal := s.onHub (Hub.bankSwitch recipe)
def execDtCfg (path : Path) (which : DtReg) (input : Nat) (value : Word) (s : State) : Host.Outcome State Fault Refusal :=
  s.onHub (Hub.writeCmd path (Hub.dtAddr which input) .LV (Hub.writeDt which input value))

end Sys2Proof.Machine
end

