-- ==== Sys2Proof/Machine/TwinOps.lean ====
section
/-!
DEFINITION. Shared operations of the pair (13_twin_pair.md): roles (R424), what a checkpoint holds and how it is applied (R428,
R433, R436), the spans a takeover reports (R435), and the streams of the hub that becomes active.
-/

/-- The core of a checkpoint as bytes: the spec gives the sizes of its items, not the layout inside them
(DESIGN CHOICE, log entry 91). -/
opaque Sys2Proof.Config.readCore : List Sys2Proof.Byte → Option Sys2Proof.Machine.Ckpt

/-- The bytes that the live settings take in a checkpoint, by their number (R428) (DESIGN CHOICE, log entry 91). -/
opaque Sys2Proof.Config.settingBytes : Nat → Nat

/-- MT_NEXT of a stream with no open packet, packed: by stream and free-value count (R428) (DESIGN CHOICE, log entry 91). -/
opaque Sys2Proof.Config.nextSet : Nat → Nat → Nat

/-- Byte `k` of the core of a checkpoint as the sender lays it out (R428, R429) (DESIGN CHOICE, log entry 91). -/
opaque Sys2Proof.Config.coreByte : Sys2Proof.Machine.Ckpt → Nat → Sys2Proof.Byte

/-- For a stream whose source has no even cadence in slots: the packed MT of its last set before a resume point, and the units of
the sets up to it. By stream and free-value count (R435) (DESIGN CHOICE, log entry 91). -/
opaque Sys2Proof.Config.lostSpan : Nat → Nat → Nat × Nat

namespace Sys2Proof.Machine

/-! ### Frames of the twin link (R421, R422) -/

/-- The data blocks of each frame kind, in the order of R422. -/
def heartbeatBlocks (role mirror : Nat) (unit : Bool) (epoch ckpt mt lt : Nat) : List Nat :=
  [role * 2 ^ 61 + mirror * 2 ^ 59 + ofBool unit * 2 ^ 58 + epoch % 2 ^ 32 * 2 ^ 16, ckpt % 2 ^ 32 * 2 ^ 32, mt % 2 ^ 64, lt % 2 ^ 64]

def helloBlocks (serial : Nat) (digest : List Word) : List Nat :=
  let d (i : Nat) : Nat := (digest.getD (2 * i) 0).toNat * 2 ^ 32 + (digest.getD (2 * i + 1) 0).toNat
  (serial % 2 ^ 64) :: (List.range 4).map d

/-- A CKPT_SEG; content that does not fill its last block is followed by bytes of 0. -/
def segBlocks (slice : Bool) (n off : Nat) (content : List Byte) : List Nat :=
  let block (k : Nat) : Nat := beNat ((List.range 8).map fun b => content.getD (8 * k + b) 0)
  (ofBool slice * 2 ^ 63 + n % 2 ^ 31 * 2 ^ 32 + off % 2 ^ 32) :: (List.range (ceilDiv content.length 8)).map block

def endBlocks (n size crc mt slice : Nat) : List Nat :=
  [n % 2 ^ 31 * 2 ^ 32, size % 2 ^ 32 * 2 ^ 32 + crc % 2 ^ 32, mt % 2 ^ 64, slice % 2 ^ 16 * 2 ^ 48]

def ackBlocks (n result : Nat) : List Nat := [n % 2 ^ 31 * 2 ^ 32 + result % 16]

def swapBlocks (phase cause mt : Nat) : List Nat := [phase % 16 * 2 ^ 60 + cause % 16 * 2 ^ 56, mt % 2 ^ 64]

def handoverBlocks (latches mt : Nat) : List Nat := [latches % 2 ^ 16 * 2 ^ 48, mt % 2 ^ 64]

/-- The SOF of a frame of kind `kind` (R421). -/
def twinSof (kind : Nat) (blocks : List Nat) : Nat := kind % 16 * 2 ^ 52 + blocks.length % 2 ^ 13

/-- The CRC-32C that the EOF carries, over the data blocks (R421). -/
def twinCrc (blocks : List Nat) : Nat := crc32c (beBytes (blocks.flatMap fun b => (wide b).map (BitVec.ofNat 32)))

/-- The roles of R424. -/
inductive Role where
  | solo | joining | standby | takingOver | active | preparing | releasing
  deriving DecidableEq, Repr

def Role.code : Role → Nat
  | .solo => 0 | .joining => 1 | .standby => 2 | .takingOver => 3 | .active => 4 | .preparing => 5 | .releasing => 6

/-- Why a role changes (R443). -/
inductive RoleCause where
  | arbitration | takeover | swap | conflict
  deriving DecidableEq, Repr

def RoleCause.code : RoleCause → Nat
  | .arbitration => 0 | .takeover => 1 | .swap => 2 | .conflict => 3

/-- The states of TWN.SWAP_STAT (R444). -/
inductive SwapState where
  | idle | prepare | ready | handover | done | refused | aborted
  deriving DecidableEq, Repr

def SwapState.code : SwapState → Nat
  | .idle => 0 | .prepare => 1 | .ready => 2 | .handover => 3 | .done => 4 | .refused => 5 | .aborted => 6

namespace Hub

/-! ### Roles and signals -/

def role (h : Hub) : Role :=
  match h.fld TWN_STAT_ROLE with
  | 0 => .solo | 1 => .joining | 2 => .standby | 3 => .takingOver | 4 => .active | 5 => .preparing | _ => .releasing

/-- The role changes and is reported (R443). -/
def setRole (r : Role) (cause : RoleCause) (h : Hub) : Hub :=
  let old := h.role
  if old = r then h else (h.put TWN_STAT_ROLE r.code).raise 224 0 [old.code, r.code, cause.code]

/-- The hub belongs to a pair and its TWIN domain works: armed with TWN.CFG.EN (R419, R420). -/
def paired (h : Hub) : Bool := h.flag TWN_CFG_EN && h.bootStep == 6

/-- ALIVE_OUT: static low (none), or toggling with the active (true) or the standby duty (R401, R420). -/
def aliveOut (h : Hub) : Option Bool :=
  if h.bootStep ≠ 6 || h.pwr.por || h.pwr.cut || h.pwr.shutdown then none else
  match h.role with
  | .joining => some false
  | .standby => some false
  | .preparing => some false
  | _ => some true

/-- A frame of the twin link arrives: acted on, or discarded and counted where its CRC is bad (R421). -/
def twinFrame (blocks : List Nat) (eof : Nat) (f : Hub → Hub) (h : Hub) : Hub :=
  if !h.paired then h
  else if twinCrc blocks ≠ eof then h.bump TWN_LINK_STAT_BAD_CRC 1
  else f h

/-- Heartbeats arrive: one has come within 100 µs (R423). -/
def heartbeats (h : Hub) : Bool := decide (0 < h.twn.beats)

def unitSel (h : Hub) : Nat := h.fld TWN_STAT_UNIT

/-- The mirror changes state, or the cause of a mismatch, and is reported (R431, R443). -/
def setMirror (st cause : Nat) (h : Hub) : Hub :=
  let old := h.fld TWN_STAT_MIRROR
  if old = st ∧ h.fld TWN_STAT_MM_CAUSE = cause then h else
  ((h.put TWN_STAT_MIRROR st).put TWN_STAT_MM_CAUSE cause).raise 228 0 [old, st, cause]

/-- The last digits of the partner's serial are known (R443). -/
def pairConflict (cause : Nat) (h : Hub) : Hub := h.raise 231 0 [cause, h.fld TWN_PARTNER_SERIAL_W0]

/-- Slots that cover `ms` milliseconds at the present BCLK. -/
def slotsOfMs (h : Hub) (ms : Nat) : Nat := ceilDiv (ms * h.bclk) 10

/-- The first turn boundary at or after an absolute slot. -/
def boundaryAt (h : Hub) (t : Int) : Int := (t + h.spt - 1) / (h.spt : Int) * h.spt

/-! ### What a checkpoint holds (R428) -/

/-- A live register that holds state: not a command register. -/
def liveReg (a : Nat) : Bool :=
  match cardOf a with
  | some c => c.fields.any (fun f => f.2.2 == .LV) && !orderReg a
  | none => false

/-- The registers of the shared calibration, by address. -/
def sharedRegs : List Nat :=
  (List.range 512).map AFE_LEAD_MEAS ++ (List.range 512).map AFE_DIP_BASE ++
    [FI_RANGE_ZERO, FI_IQ_CORR_W0 0, FI_IQ_CORR_W1 0, FI_IQ_CORR_W0 1, FI_IQ_CORR_W1 1]

/-- The streams that have a ring, but for stream 0. -/
def pairStreams (h : Hub) : List Nat := (List.range 128).filter fun s => s != 0 && h.ringSize s != 0

/-- Bytes of the core: what R428 states, and the live settings. -/
def coreBytes (c : Ckpt) : Nat := 24576 + Config.settingBytes c.settings.length % 40961

/-- Slots between two sets of a stream and units in a set, where a recipe brings its sets at an even distance (R146). -/
def cadence (h : Hub) (s : Nat) : Option (Nat × Nat) :=
  let taps := h.loaded.flatMap fun r => ((h.recipe r).recipe.taps.filter fun t => t.2.2 == s).map fun t => (r, t.1)
  match taps with
  | [] => none
  | (r, k) :: _ =>
    let x := (h.recipe r).recipe
    let first : Option Nat :=
      if x.source = 0 then some (h.fld CNV_FRAME_PERIOD_SLOTS)
      else if x.source = 1 ∧ h.ngroups = 1 then h.launchSeries.head?.map fun e => (h.entry e).period
      else none
    let step (d : Option Nat) (st : Stage) : Option Nat :=
      let w0 := st.word 0 0
      match st.kernel with
      | 2 => d.map (· * bits w0 31 16)
      | 3 => d.map (· * bits w0 15 0)
      | 7 => some (h.spt * (bits w0 31 16 + 1))
      | 8 => some (h.spt * (bits w0 31 16 + 1))
      | 10 => none
      | 5 => d.map (· * (bits w0 31 16 + 1))
      | 6 => d.map (· * (bits w0 31 16 + 1))
      | 12 => d.map (· * (bits w0 31 16 + 1))
      | _ => d
    match (x.stages.take k).foldl step first with
    | some (d + 1) => some (d + 1, if k = 0 && x.source == 0 then x.inputs.countP h.acquires else (h.flowAt x k).width)
    | _ => none

/-- MT of the next set of a stream that has no packet open: where its sets come at an even distance, that after the last one
written; else a free value (R428). -/
def nextSet (h : Hub) (s : Nat) : MT :=
  match (h.ring s).lastSet, h.cadence s with
  | some t, some (d, _) => h.mtAt (t + (d : Int))
  | _, _ => MT.unpack (Config.nextSet s h.fresh % 2 ^ 62)

/-- The core at this instant, as checkpoint `n` (R427, R428). -/
def capture (n : Nat) (h : Hub) : Ckpt :=
  let stream (s : Nat) : CkptStream :=
    match (h.ring s).open? with
    | some p => { next := h.fld (CIS_SEQ_NEXT s), mtNext := p.mt, running := (h.ring s).running, hold := p.holdover, re := p.reanchor }
    | none => { next := h.fld (CIS_SEQ_NEXT s), mtNext := h.nextSet s, running := (h.ring s).running
                hold := h.flag MT_STATE_HOLDOVER, re := h.mt.span != .closed }
  { epoch := h.fld TWN_EPOCH_EPOCH, number := n, mt := h.mtNow, lt := h.lt, digest := (List.range 8).map fun i => h.reg (BOOT_DIGEST i)
    streams := h.pairStreams.map fun s => (s, stream s)
    hists := h.pairStreams.map fun s => (s, (h.ring s).hist)
    entries := h.tt.entries.map fun p => (p.1, (p.2.enable, p.2.done, p.2.base))
    live := h.tt.entries.filter fun p => decide (768 ≤ p.1)
    armed := BitVec.ofNat 16 (h.fld TRG_STAT_ARMED), matched := h.trg.prevMatch
    holdoff := h.trg.holdoff, auto := h.trg.autoCount
    fires := (List.range 16).map fun t => (t, h.fld (TRG_FIRE_CNT_FIRES t))
    nextBurst := h.sp.nextId
    latches := (List.range 16).foldl (fun n k => n + h.fld (TRG_TRIP_STAT_LATCHED k) * 2 ^ k) 0
    trips := (List.range 16).map fun k => (k, h.fld (TRG_TRIP_STAT_TRIPS k))
    charge := h.afe.cells.map fun p => (p.1, (p.2.qacc, p.2.inexact))
    shared := sharedRegs.map fun a => (a, h.reg a)
    baselines := h.afe.groups.filterMap fun p => p.2.baseline.map fun b => (p.1, b)
    ftState := h.fld FT_STAT_STATE, y := h.ft.y, freq := h.ft.freq, dref := h.ft.dref, session := h.fld FT_STAT_SESSION
    ft := h.ftAt h.lt
    settings := h.regs.filter fun p => liveReg p.1 }

/-! ### Applying a checkpoint -/

/-- The live settings come into force in place of the hub's own. -/
def applySettings (settings : SMap Word) (h : Hub) : Hub :=
  let own := h.regs.filter fun p => !liveReg p.1
  let h : Hub := { h with staged := [], regs := settings.foldl (fun (m : SMap Word) p => SMap.set regReset m p.1 p.2) own }
  let h := h.armPatterns.showCells
  let h := h.loaded.foldl (fun (h : Hub) r =>
    (h.setRecipe r { h.recipe r with bank := h.fld (SE_BANK_SEL_BANK r) }).put (SE_RECIPE_STAT_BANK r) (h.fld (SE_BANK_SEL_BANK r))) h
  h.showGeometry

/-- Series skip their instances before slot `cut`, against COUNT; a one-shot before it is dropped, or executes in slot `cut`
marked LATE (R434). -/
def cutEntry (i : Nat) (cut : Int) (h : Hub) : Hub :=
  let e : TtEntry := h.entry i
  if !e.enable || e.type == 0 || decide (11 ≤ e.type) || e.spent || decide (cut ≤ e.next) then h
  else if e.period ≠ 0 then
    let n := ((cut - 1 - e.next) / (e.period : Int)).toNat + 1
    let n := if e.count = 0 then n else min n (e.count - e.done)
    let e' := { e with done := e.done + n }
    (h.setEntry i (if e'.spent then e'.withEnable false else e')).raise 200 0 [i, n]
  else if e.lateNow then
    { h with tt := { h.tt with lateNow := h.tt.lateNow.filter (fun p => p.1 ≠ i) ++ [(i, e.next, cut)] } }
  else (h.setEntry i ({ e with done := 1 }.withEnable false)).raise 200 0 [i, 1]

/-- FRAME_SERIES go on from `frames`, every other entry from `rest` (R433, R434); the period of the series that will run is
known. -/
def cutEntries (frames rest : Int) (h : Hub) : Hub :=
  let h := h.tt.entries.foldl (fun (h : Hub) (p : Nat × TtEntry) => h.cutEntry p.1 (if p.2.type = 1 then frames else rest)) h
  match (h.tt.entries.filter fun p => p.2.type == 1 && p.2.enable).head? with
  | some (_, e) => h.put CNV_FRAME_PERIOD_SLOTS e.period
  | none => h

/-- The position of the Timetable: entries 768-1023 with their contents, and of every entry ENABLE, the instances executed and with
them the next instance due. -/
def applyTimetable (c : Ckpt) (h : Hub) : Hub :=
  let own := h.tt.entries.filter fun p => decide (p.1 < 768)
  let all := c.live.foldl (fun (m : SMap TtEntry) p => SMap.insert m p.1 { h.placedEntry p.2.raw with ran := p.2.ran }) own
  let placed := SMap.update (fun _ => {}) (fun i e =>
    match SMap.find? c.entries i with
    | some (en, done, base) => { e.withEnable en with done := done, base := base, ran := decide (0 < done) }
    | none => e) all
  { h with tt := { h.tt with entries := placed, commit := none, actions := [], carried := [], lateNow := [] } }

/-- Triggers, trips, charge and shared calibration of a checkpoint. -/
def applyState (c : Ckpt) (h : Hub) : Hub :=
  let h := h.put TRG_STAT_ARMED c.armed.toNat
  let h : Hub := { h with
    trg := { h.trg with prevMatch := c.matched, holdoff := c.holdoff, autoCount := c.auto, autoSeen := h.trg.autoRef }
    sp := { h.sp with nextId := c.nextBurst } }
  let h := c.fires.foldl (fun (h : Hub) p => h.put (TRG_FIRE_CNT_FIRES p.1) p.2) h
  let h := (List.range 16).foldl (fun (h : Hub) n => h.put (TRG_TRIP_STAT_LATCHED n) (ofBool (bit c.latches n))) h
  let h := c.trips.foldl (fun (h : Hub) p => h.put (TRG_TRIP_STAT_TRIPS p.1) p.2) h
  let h := (List.range 512).foldl (fun (h : Hub) i =>
    match SMap.find? c.charge i with
    | some (q, _) => if h.mode i = 2 then h.setCell i { h.cell i with qacc := q, inexact := true } else h
    | none => h) h
  let h := c.shared.foldl (fun (h : Hub) p => h.setReg p.1 p.2) h
  c.baselines.foldl (fun (h : Hub) p => h.setGroup p.1 { h.group p.1 with baseline := some p.2 }) h

/-- A checkpoint is applied: settings, Timetable with `frames` and `rest` as the cut-offs, state (R433 step 2, R440 step 2). -/
def applyCkpt (c : Ckpt) (frames rest : Int) (h : Hub) : Hub :=
  ((((h.applySettings c.settings).applyTimetable c).applyState c).cutEntries frames rest)

/-- The hub's own image: its live registers and its Timetable, as a takeover with a STALE mirror applies them (R436). -/
def ownImage (h : Hub) : Option Hub :=
  let b := h.fld DEV_STATE_BANK
  match h.commitOf b with
  | none => none
  | some (gen, tr) =>
    let base : Hub := ((h.resetHub 0 3).setReg DEV_ID (h.reg DEV_ID)).setReg TWN_STAT (h.reg TWN_STAT)
    match base.structural b gen tr with
    | .ok img => some (base.loadImage img).hub
    | .error _ => none

def applyImage (frames rest : Int) (h : Hub) : Hub :=
  match h.ownImage with
  | none => h
  | some img =>
    let h := h.applySettings (img.regs.filter fun p => liveReg p.1)
    let h : Hub := { h with tt := { h.tt with
      entries := SMap.update (fun _ => {}) (fun _ e => h.placedEntry e.raw) img.tt.entries
      commit := none, actions := [], carried := [], lateNow := [] } }
    let h := h.tt.entries.foldl (fun (h : Hub) (p : Nat × TtEntry) =>
      if p.2.type = 1 then h.cutEntry p.1 frames else h.judgeLate p.1 rest) h
    h.cutEntries frames rest

/-! ### Spans and streams (R435, R441) -/

/-- The sets of a stream from an MT up to a resume point: the MT of the last one and the units of them all. -/
def lostSets (h : Hub) (s : Nat) (m : MT) (r : Int) : MT × Nat :=
  let a := h.slotOf m
  match h.cadence s with
  | some (d, width) =>
    if r ≤ a then (m, 0) else
    let n := ((r - 1 - a) / (d : Int)).toNat + 1
    (h.mtAt (a + ((n - 1) * d : Nat)), n * width)
  | none => let (l, u) := Config.lostSpan s h.fresh; (MT.unpack (l % 2 ^ 62), u)

/-- The ring of a stream with nothing in it. -/
def clearRing (s : Nat) (h : Hub) : Hub := h.setRing s { maxPkt := (h.ring s).maxPkt, kept := (h.ring s).kept }

/-- A stream goes on at the resume point from what a checkpoint holds of it (R435): a running one with a TAKEOVER GAP of 2^24
numbers. -/
def resumeStream (c : Ckpt) (r : Int) (s : Nat) (h : Hub) : Hub :=
  let st := (SMap.find? c.streams s).getD {}
  let hist := (SMap.find? c.hists s).getD 0
  let h := h.clearRing s
  let h := h.setRing s { h.ring s with hist := hist, hreset := !hist.getLsbD 48, loaded := hist.getLsbD 48 }
  if st.running then
    let (last, units) := h.lostSets s st.mtNext r
    let h := h.setRing s { h.ring s with running := true, startAt := r }
    let h := h.put (CIS_SEQ_NEXT s) (st.next + 2 ^ 24 - 1)
    (h.writeGap s { cause := 4, pkts := 65535, seqFirst := st.next % 2 ^ 32, seqLast := (st.next + 2 ^ 24 - 2) % 2 ^ 32, units := units
                    mtFirst := st.mtNext, mtLast := last }).refreshRing s
  else (h.put (CIS_SEQ_NEXT s) st.next).refreshRing s

/-- A stream starts in a new epoch: SEQ 0, the EPOCH flag, no Siphon history; started at slot `t` where RUN_INIT has it so
(R250, R425, R436). -/
def freshStream (t : Int) (s : Nat) (h : Hub) : Hub :=
  let h := h.clearRing s
  let h := ((h.setRing s { h.ring s with epochDue := true, hreset := true }).put (CIS_SEQ_NEXT s) 0).refreshRing s
  if h.mt.anchored && h.flag (CIS_STREAM_CFG_RUN_INIT s) then h.startStream s t else h

/-- The hub goes over to epoch `n`: its service stream closes its packet and goes on with the EPOCH flag from SEQ 0; what it holds stays
(R249, R250, R260). -/
def enterEpoch (n : Nat) (h : Hub) : Hub :=
  if h.fld TWN_EPOCH_EPOCH = n then h else
  let h := (h.closePacket 0 false).put TWN_EPOCH_EPOCH n
  (h.setRing 0 { h.ring 0 with epochDue := true, hreset := true }).put (CIS_SEQ_NEXT 0) 0

/-- The sets held during a planned swap enter their streams (R441). -/
def releaseKept (s : Nat) (h : Hub) : Hub :=
  let ks := (h.ring s).kept
  let h := h.setRing s { h.ring s with kept := [] }
  ks.foldl (fun (h : Hub) k =>
    let words := k.conts.filterMap fun c => match c with | .word w => some w | _ => none
    match k.kind with
    | 0 => h.produceSet s k
    | 1 => h.produceRecord s k.mt words
    | _ => h.produceRaw s k) h

/-! ### Becoming active -/

/-- DAS re-seeds every group at its next launch, and the open DTS cycle is discarded (R190, R433, R441). -/
def restartFibre (h : Hub) : Hub :=
  let h : Hub := { h with fi := { h.fi with
    known := []
    bins := SMap.update (fun _ => {}) (fun _ b => { b with s := 0, a := 0, sBg := 0, aBg := 0, clipped := false }) h.fi.bins } }
  h.put FI_DTS_STAT_LAUNCHES 0

/-- Engines and the Standpipe start at slot `r` (R150, R220). -/
def restartPlane (r : Int) (h : Hub) : Hub :=
  let h := h.restartChains r
  { h with sp := { h.sp with restartDue := some 2, burst := none, queue := [] } }

/-- A hub in JOINING starts the pair in epoch 1 (R425). -/
def becomeActive (h : Hub) : Hub :=
  let h := (h.enterEpoch 1).setRole .active .arbitration
  let h : Hub := { h with sp := { h.sp with nextId := 0 } }
  let h := h.pairStreams.foldl (fun (h : Hub) s => h.freshStream h.now s) h
  (h.settleDomains .role).startPlane 0

/-! ### Frames the hub sends (R422) -/

/-- HEARTBEAT, every 10 µs. -/
def heartbeatOut (h : Hub) : List Nat :=
  heartbeatBlocks h.role.code (h.fld TWN_STAT_MIRROR) (h.flag TWN_STAT_UNIT) (h.fld TWN_EPOCH_EPOCH) (h.fld TWN_CKPT_STAT_NUMBER)
    h.mtNow.pack h.lt

/-- HELLO, every 1 ms. -/
def helloOut (h : Hub) : List Nat :=
  helloBlocks ((h.fld DEV_SERIAL_HI_SERIAL) * 2 ^ 32 + h.fld DEV_SERIAL_LO_SERIAL) ((List.range 8).map fun i => h.reg (BOOT_DIGEST i))

/-- The frames of the checkpoint that is being sent: its core in segments of 1 KiB, its slice of the gate-state region, and the
CKPT_END (R429, R430). `gateByte` is a byte of the gate-state region. -/
def ckptOut (h : Hub) (gateByte : Nat → Byte) : List (List Nat) :=
  match h.twn.sending with
  | none => []
  | some c =>
    let size := coreBytes c
    let core := (List.range (ceilDiv size 1024)).map fun k =>
      segBlocks false c.number (1024 * k) ((List.range (min 1024 (size - 1024 * k))).map fun b => Config.coreByte c (1024 * k + b))
    let gates := match h.twn.sentSlice with
      | none => []
      | some i => (List.range 128).map fun k =>
        segBlocks true c.number (1024 * k) ((List.range 1024).map fun b => gateByte (131072 * i + 1024 * k + b))
    core ++ gates ++ [endBlocks c.number size (crc32c ((List.range size).map (Config.coreByte c))) c.mt.pack (h.twn.sentSlice.getD 0xFFFF)]

/-- The FT servo state of a checkpoint, where this hub's own session has none (R314): the one step is taken from it, the
partner's LT mapped by the offset of the twin link. -/
def takeServo (c : Ckpt) (h : Hub) : Hub :=
  if 2 ≤ h.fld FT_STAT_STATE ∨ c.ftState < 2 then h else
  let here := (c.lt : Int) - h.sfld FT_TWIN_LT_OFS_NS
  let ft := c.ft + ((h.lt : Int) - here) * (1000000000000 + c.y)
  let step := ft - h.ftAt h.lt
  let h : Hub := { h with ft := { h.ft with ft := ft, at_ := h.lt, y := c.y, freq := c.freq, dref := c.dref, gathered := []
                                            stepDue := true } }
  let h := (h.sput FT_RATE_PPT c.y).put FT_STAT_FT_VALID 1
  let h := h.raise 185 0 (wide (unsigned 64 (ratioOr step 1000000000000)) ++ [h.fld FT_STAT_SESSION])
  h.setFtState (match c.ftState with | 2 => .track | 3 => .frozen | _ => .hold)

end Hub

end Sys2Proof.Machine
end

