-- ==== Sys2Proof/Machine/Twin.lean ====
section
/-!
DEFINITION. The commands of the pair: heartbeats and arbitration (R421-R425), checkpoints (R427-R431), takeover (R432-R437), and
the planned role swap (R440-R442).
-/

namespace Sys2Proof.Machine

/-- The gate record that 64 bytes of the gate-state region spell (R198). -/
def gateOfBytes (bs : List Byte) : Gate :=
  let le (k n : Nat) : Nat := ((bs.drop k).take n).foldr (fun b a => a * 256 + b.toNat) 0
  let line (n : Nat) : GateLine :=
    let v := le (3 * n) 3
    { psi := v / 256, m := v / 4 % 64, havePrev := bit v 1, weak := bit v 0 }
  { lines := (List.range 4).map line, phi := (List.range 4).map fun k => le (12 + 4 * k) 4
    off := (List.range 4).map fun k => le (28 + 4 * k) 4, y1 := le 44 4, y2 := le 48 4, reseed := le 52 1 % 16 }

/-- Byte ranges, as offset and length, cover every byte below `n`. -/
def covers (rs : List (Nat × Nat)) (n : Nat) : Bool :=
  decide (n ≤ (rs.mergeSort fun a b => decide (a.1 ≤ b.1)).foldl (fun reach p => if p.1 ≤ reach then max reach (p.1 + p.2) else reach) 0)

namespace Hub

/-! ### Leaving the data plane -/

/-- The hub runs no frames: what the series, its conversions and its windows held is gone. -/
def quietPlane (h : Hub) : Hub :=
  let h : Hub := { h with
    cnv := { h.cnv with series := none, gridNext := none, restart := false, spill := [], fills := [], convs := [], adcs := [] }
    trg := { h.trg with window := none, closedWin := [] }
    afe := { h.afe with dipFrames := none } }
  h.put CNV_FRAME_PERIOD_SLOTS 0

/-- The hub goes to STANDBY: every shared ball is released, and ENG, AFE and FIA are off (R426, R437). -/
def toStandby (cause : RoleCause) (h : Hub) : Hub :=
  let h := ((h.setRole .standby cause).releaseTrips.refreshLaser).quietPlane
  let h := h.settleDomains .role
  h.put TWN_GATE_COVER_NEEDED (ceilDiv h.ngates 2048)

/-! ### Arbitration (R425) -/

/-- STANDBY beside an active partner: no checkpoint has come yet. -/
def joinActive (h : Hub) : Hub := (h.toStandby .arbitration).setMirror 0 1

/-- What a heartbeat settles in JOINING, the partner being in role `r` with `unit`. -/
def arbitrate (r unit : Nat) (h : Hub) : Hub :=
  if h.role ≠ .joining then h
  else if r = 4 ∨ r = 3 ∨ h.twn.duty = some true then h.joinActive
  else if r = 1 ∧ unit = h.unitSel then
    if h.fld TWN_STAT_MM_CAUSE = 3 then h else (h.setMirror 0 3).pairConflict 0
  else if r = 1 ∨ r = 2 then (if h.unitSel = 0 then h.becomeActive else h.toStandby .arbitration)
  else h

/-! ### The planned swap (R440-R442) -/

def swapState (h : Hub) : Nat := h.fld TWN_SWAP_STAT_STATE

/-- The swap reaches a state with a cause, and is reported. -/
def setSwap (st : SwapState) (cause : Nat) (h : Hub) : Hub :=
  ((h.put TWN_SWAP_STAT_STATE st.code).put TWN_SWAP_STAT_CAUSE cause).raise 230 0 [st.code, cause]

/-- A SWAP frame leaves: phase, cause, MT of H. -/
def sendSwap (phase cause : Nat) (m : MT) (h : Hub) : Hub := { h with twn := { h.twn with sent := some (phase, cause, m) } }

/-- The swap ends before H: each hub returns to the role it had. -/
def endSwap (st : SwapState) (cause : Nat) (h : Hub) : Hub :=
  if h.twn.swap.past then h else
  match h.role with
  | .releasing => (({ h with twn := { h.twn with swap := {} } } : Hub).setRole .active .swap).setSwap st cause
  | .preparing => (({ h with twn := { h.twn with swap := {} } } : Hub).toStandby .swap).setSwap st cause
  | _ => h

/-- GO (R440). -/
def twinSwap (h : Hub) : Hub :=
  if h.role = .releasing ∨ h.role = .preparing ∨ h.twn.swap.held then
    (h.put TWN_SWAP_STAT_CAUSE 6).raise 230 0 [SwapState.refused.code, 6]
  else if h.role ≠ .active then h.setSwap .refused 1
  else if h.twn.partnerMirror ≠ 2 then h.setSwap .refused 2
  else if ¬ h.flag TWN_STAT_DIGEST_MATCH then h.setSwap .refused 3
  else if ¬ h.flag TWN_STAT_LINK_UP then h.setSwap .refused 4
  else
    let h : Hub := { h with twn := { h.twn with swap := { began := h.lt } } }
    ((h.setRole .releasing .swap).sendSwap 0 0 {}).setSwap .prepare 0

/-- ABORT (R442). -/
def abortSwap (h : Hub) : Hub :=
  if h.twn.swap.past || !(h.role == .releasing || h.role == .preparing) then h
  else (h.sendSwap 4 7 {}).endSwap .aborted 7

/-- SWAP REQUEST arrives at the standby: it prepares with the current mirror. -/
def swapRequest (h : Hub) : Hub :=
  match h.twn.mirror with
  | none => h
  | some c =>
    if h.role ≠ .standby ∨ h.fld TWN_STAT_MIRROR ≠ 2 then h else
    let h : Hub := { h with twn := { h.twn with swap := { began := h.lt } } }
    let h := (h.setRole .preparing .swap).setSwap .prepare 0
    let h := (h.applyCkpt c h.now h.now).settleDomains .role
    let h := (List.range 512).foldl (fun (h : Hub) n => if h.acquires n then h.driveCmp n else h) h
    h.pairStreams.foldl (fun (h : Hub) s =>
      let st := (SMap.find? c.streams s).getD {}
      (h.clearRing s).setRing s { (h.clearRing s).ring s with running := st.running }) h

/-- No ADC, FADC or RADC is declared failed, and no engine is lost that the spare does not stand in for (R440). -/
def unitsSound (h : Hub) : Bool :=
  (List.range 16).all (fun a => h.flag (CNV_ADC_STAT_IN_SERVICE a)) && h.fi.failed == 0
    && (List.range 16).all fun e => h.fld (SE_ENG_STAT_STATE e) != 4
      || (h.fld (SE_ENG_STAT_STATE 16) == 5 && h.fld (SE_ENG_STAT_SERVES 16) == e)

/-- PREPARE ends: the ADC stage trims are converged and REF and EXC measured (log entry 132). READY, or FAIL where it found a unit
failed. -/
def prepareEnd (ok : Bool) (h : Hub) : Hub :=
  if h.role ≠ .preparing ∨ h.swapState ≠ SwapState.prepare.code then h else
  let h := h.measureTrims true
  if ok && h.unitsSound then ({ h with twn := { h.twn with swap := { h.twn.swap with prepared := true } } } : Hub).sendSwap 1 0 {} |>.setSwap .ready 0
  else (h.sendSwap 2 5 {}).endSwap .refused 5

/-- READY arrives at the active hub: H is the first turn boundary at least 2 ms later. -/
def swapReady (h : Hub) : Hub :=
  if h.role ≠ .releasing ∨ h.swapState ≠ SwapState.prepare.code then h else
  let t := h.boundaryAt (h.now + h.slotsOfMs 2)
  let h : Hub := { h with twn := { h.twn with swap := { h.twn.swap with h := some t } } }
  ((h.setSwap .ready 0).sendSwap 3 0 (h.mtAt t)).setSwap .handover 0

/-- SCHEDULE arrives at the standby. -/
def swapSchedule (m : Nat) (h : Hub) : Hub :=
  if h.role ≠ .preparing ∨ ¬ h.twn.swap.prepared then h else
  let t := h.slotOf (MT.unpack m)
  ({ h with twn := { h.twn with swap := { h.twn.swap with h := some t } } } : Hub).setSwap .handover 0

/-- The latches of the trip outputs. -/
def latchMap (h : Hub) : Nat := (List.range 16).foldl (fun n k => n + h.fld (TRG_TRIP_STAT_LATCHED k) * 2 ^ k) 0

/-- H at the old hub: it releases every shared ball, opens its switches and sends HANDOVER. -/
def releaseAt (t : Int) (h : Hub) : Hub :=
  let latches := h.latchMap
  let h := if h.cnv.series.isSome then h.stopFrames t else h
  let h : Hub := { h with twn := { h.twn with handed := some (latches, h.mtAt t), swap := { h.twn.swap with past := true } } }
  h.releaseTrips.refreshLaser

/-- H at the new hub: it samples frame H, its producers write and their sets are held; CA switches close after the conversion of
frame H, BR and RES inputs settle (R441). -/
def takeAt (t : Int) (h : Hub) : Hub :=
  let c := h.twn.mirror.getD {}
  let h := h.setRole .active .swap
  let h : Hub := { h with twn := { h.twn with swap := { h.twn.swap with past := true, held := true } } }
  let h := (List.range 512).foldl (fun (h : Hub) n =>
    if h.mode n = 2 then
      match SMap.find? c.charge n with
      | some (q, _) => h.setCell n { h.cell n with qacc := q, inexact := true, closing := true }
      | none => h.setCell n { h.cell n with closing := true }
    else if h.mode n = 3 ∨ h.mode n = 4 then h.openSpan n 0 500000 else h) h
  let h := h.pairStreams.foldl (fun (h : Hub) s =>
    let run := (h.ring s).running
    (h.clearRing s).setRing s { (h.clearRing s).ring s with running := run, startAt := t }) h
  ((h.restartPlane t).restartFibre.restoreFibre.startPass 0).showStandpipe

def handoverPoint (h : Hub) : Hub :=
  match h.twn.swap.h with
  | none => h
  | some t =>
    if h.twn.swap.past then h else
    match h.role with
    | .releasing => (h.advanceTo t).releaseAt t
    | .preparing => (h.advanceTo t).takeAt t
    | _ => h

/-- HANDOVER arrives: 2 µs after H the new hub drives TRIP with its own latches and those handed over, and LASER_DIS_N. -/
def takeLatches (latches : Nat) (h : Hub) : Hub :=
  if h.role ≠ .active ∨ ¬ h.twn.swap.past ∨ ¬ h.twn.swap.held then h else
  let h := h.advanceTo (h.twn.swap.h.getD h.now + ceilDiv (2 * h.bclk) 10000)
  let h : Hub := { h with
    twn := { h.twn with swap := { h.twn.swap with latches := latches % 65536 } }
    trg := { h.trg with carried := 0, byTakeover := true, permitDue := 0 } }
  let h := (List.range 16).foldl (fun (h : Hub) n =>
    let on := h.flag (TRG_TRIP_CFG_EN n)
    let latched := on && (h.flag (TRG_TRIP_STAT_LATCHED n) || bit latches n)
    let h := (h.put (TRG_TRIP_STAT_DRIVEN n) 1).put (TRG_TRIP_STAT_LATCHED n) (ofBool latched)
    if on && !latched then h.startCarrier n else h) h
  h.refreshLaser

/-- The swap is done at the hub that took over: what it held is released. -/
def swapOver (cause : Nat) (h : Hub) : Hub :=
  let us := (h.lt - h.twn.swap.began) / 1000
  let h : Hub := { h with twn := { h.twn with swap := {} } }
  let h := h.pairStreams.foldl (fun (h : Hub) s => h.releaseKept s) h
  ((h.put TWN_SWAP_STAT_LAST_US (min (2 ^ 24 - 1) us)).bump TWN_CNT_SWAPS 1).setSwap .done cause

/-- The final checkpoint is applied (R440 step 8, R441): stream state, Siphon histories and the charge of the old hub. Sets it had
not written by F are reported. -/
def applyFinal (before c : Ckpt) (t : Int) (h : Hub) : Hub :=
  let h := h.pairStreams.foldl (fun (h : Hub) s =>
    match SMap.find? c.streams s with
    | none => h
    | some st =>
      let hist := (SMap.find? c.hists s).getD 0
      let h := h.setRing s { h.ring s with hist := hist, hreset := !hist.getLsbD 48, loaded := false }
      let h := h.put (CIS_SEQ_NEXT s) st.next
      if st.running ∧ h.slotOf st.mtNext < t then
        let (last, units) := h.lostSets s st.mtNext t
        let n := st.next % 2 ^ 32
        h.writeGap s { cause := 4, pkts := 0, seqFirst := n, seqLast := n, units := units, mtFirst := st.mtNext, mtLast := last }
      else h) h
  let h := (List.range 512).foldl (fun (h : Hub) n =>
    match SMap.find? c.charge n with
    | some (q, _) =>
      let old := ((SMap.find? before.charge n).map Prod.fst).getD 0
      if h.mode n = 2 then h.setCell n { h.cell n with qacc := (q + ((h.cell n).qacc - old)) % (2 ^ 70 : Nat), inexact := true } else h
    | none => h) h
  h.swapOver 0

/-- The twin link fails between H and the final checkpoint (R442). -/
def swapCut (t : Int) (h : Hub) : Hub :=
  let c := h.twn.mirror.getD {}
  (h.pairStreams.foldl (fun (h : Hub) s => h.resumeStream c t s) h).swapOver 4

/-! ### Checkpoints (R427-R430) -/

/-- A capture: the core as it stands, and the slice of the gate-state region that goes with it. -/
def takeCkpt (h : Hub) : Hub :=
  let n := (h.twn.number + 1) % 2 ^ 31
  let c := h.capture n
  let passes := ceilDiv h.ngates 2048
  let gates := h.flag TWN_CFG_GATES && h.flag FI_CTRL_DAS_EN && decide (0 < passes)
  let h : Hub := { h.tick with twn := { h.twn with
    ckptDue := false, sending := some c, number := n, sentSlice := if gates then some (h.twn.slice % passes) else none, slice := if gates then (h.twn.slice + 1) % passes else h.twn.slice } }
  h.put TWN_CKPT_STAT_CORE_BYTES (min 65535 (coreBytes c))

/-- The last checkpoint is still being sent: not acknowledged, and its bytes take longer than has passed at 387.9 MB/s (R427,
R430). -/
def stillSending (h : Hub) : Bool :=
  match h.twn.sending with
  | none => false
  | some c => decide (h.lt * 3879 < c.lt * 3879 + 10000 * (coreBytes c + (if h.flag TWN_CFG_GATES && h.flag FI_CTRL_DAS_EN then 131072 else 0)))

def checkpointCapture (h : Hub) : Hub :=
  if !h.paired || h.boot.stalled || h.twn.swap.past || !(h.role == .active || h.role == .releasing) then h
  else if h.stillSending then
    ({ h with twn := { h.twn with ckptDue := false, skipped := h.twn.skipped + 1 } } : Hub).bump TWN_CKPT_STAT_SKIPPED 1
  else h.takeCkpt

/-- A complete checkpoint is shown: number, size, capture MT, and LT of the capture on this hub's counter. -/
def showCkpt (n bytes : Nat) (m : MT) (lt : Nat) (h : Hub) : Hub :=
  let h := (h.put TWN_CKPT_STAT_NUMBER n).put TWN_CKPT_STAT_CORE_BYTES (min 65535 bytes)
  let h := (h.put TWN_CKPT_MT_LO_MT m.pack).put TWN_CKPT_MT_HI_MT (m.pack / 2 ^ 32)
  { h with twn := { h.twn with doneAt := lt } }

/-- CKPT_ACK arrives at the sender. -/
def ckptAck (n result : Nat) (h : Hub) : Hub :=
  match h.twn.sending with
  | none => h
  | some c =>
    if c.number ≠ n then h else
    let h : Hub := { h with twn := { h.twn with sending := none } }
    if result = 0 then h.showCkpt n (coreBytes c) c.mt c.lt else h

/-- The hub takes in checkpoints: in STANDBY, while it prepares, and until the final one is applied. -/
def receives (h : Hub) : Bool := h.paired && (h.role == .standby || h.role == .preparing || h.twn.swap.held)

/-- Mirror Memory (R325, R429): the core buffers and the staging of a slice. -/
def mirrorAt (off : Nat) : Nat := 0x44000000 + off

/-- CKPT_SEG: content goes into the core buffer that does not hold the last complete checkpoint, or into the slice. -/
def ckptSeg (slice : Bool) (n off : Nat) (content : List Byte) (h : Hub) : Hub :=
  if !h.receives then h else
  let store (base : Nat) (h : Hub) : Hub :=
    (content.zip (List.range content.length)).foldl (fun (h : Hub) p => h.setByte (base + off + p.2) p.1) h
  if slice then
    if 0x20000 < off + content.length then h else
    let bytes := (content.zip (List.range content.length)).foldl (fun (m : SMap Byte) p => SMap.insert m (off + p.2) p.1) h.twn.sliceBytes
    store (mirrorAt 0x20000) { h with twn := { h.twn with sliceBytes := bytes } }
  else if 0x10000 < off + content.length then h else
  let got := if h.twn.arriving = some n then h.twn.got else []
  let h : Hub := { h with twn := { h.twn with arriving := some n, got := got ++ [(off, content.length)] } }
  store (mirrorAt (0x10000 * (1 - h.twn.buffer))) h

/-- A slice of 2,048 gates that has arrived whole goes into the gate-state region (R430). -/
def applySlice (i : Nat) (h : Hub) : Hub :=
  let passes := ceilDiv h.ngates 2048
  let n := min 2048 (h.ngates - 2048 * i)
  let bytes := h.twn.sliceBytes
  let h : Hub := { h with twn := { h.twn with sliceBytes := [] } }
  if passes ≤ i ∨ ¬ (List.range (64 * n)).all (fun k => (SMap.find? bytes k).isSome) then h else
  let h := (List.range n).foldl (fun (h : Hub) k =>
    let bs := (List.range 64).map fun b => (SMap.find? bytes (64 * k + b)).getD 0
    { h with fi := { h.fi with gates := SMap.set (fun _ => {}) h.fi.gates (2048 * i + k) (gateOfBytes bs) } }) h
  let h : Hub := { h with twn := { h.twn with slices := if h.twn.slices.contains i then h.twn.slices else h.twn.slices ++ [i] } }
  (h.put TWN_GATE_COVER_NEEDED passes).put TWN_GATE_COVER_HELD (min passes h.twn.slices.length)

/-- The hub answers a checkpoint with CKPT_ACK; one that is not applied is discarded and counted. -/
def ackCkpt (n result : Nat) (h : Hub) : Hub :=
  let h : Hub := { h with twn := { h.twn with acked := some (n, result), arriving := none, got := [] } }
  if result = 0 then h
  else ({ h with twn := { h.twn with bad := h.twn.bad + 1 } } : Hub).bump TWN_CKPT_STAT_BAD 1

/-- CKPT_END (R429, R431). -/
def ckptEnd (n size crc m slice : Nat) (h : Hub) : Hub :=
  if !h.receives then h else
  let h := if slice = 0xFFFF then h else h.applySlice slice
  if h.twn.arriving ≠ some n ∨ ¬ covers h.twn.got size then h.ackCkpt n 2 else
  let other := 1 - h.twn.buffer
  let bytes := (List.range size).map fun i => h.plainByte (mirrorAt (0x10000 * other + i))
  if crc32c bytes ≠ crc then h.ackCkpt n 1 else
  let c := { (Config.readCore bytes).getD {} with number := n, mt := MT.unpack m }
  let before := h.twn.mirror.getD {}
  let h := h.ackCkpt n 0
  let h : Hub := { h with twn := { h.twn with buffer := other, mirror := some c } }
  let h := h.showCkpt n size c.mt ((c.lt : Int) - h.sfld FT_TWIN_LT_OFS_NS).toNat
  match h.twn.swap.held, h.twn.swap.h with
  | true, some t => h.applyFinal before c t
  | _, _ =>
    if c.epoch = h.fld TWN_EPOCH_EPOCH && h.flag TWN_STAT_DIGEST_MATCH && h.fld TWN_STAT_MM_CAUSE != 2 && h.fld TWN_STAT_MM_CAUSE != 3 then
      h.setMirror 2 0 else h

/-- 4 × CKPT_MS + 10 ms without a complete checkpoint (R431). -/
def mirrorStale (h : Hub) : Hub :=
  if h.paired && (h.role == .standby || h.role == .preparing) && h.fld TWN_STAT_MIRROR == 2 then h.setMirror 1 0 else h

/-- A second ends (R443). -/
def ckptSummary (h : Hub) : Hub :=
  if h.twn.skipped + h.twn.bad = 0 then h else
  let h := h.raise 229 0 [h.twn.skipped, h.twn.bad]
  { h with twn := { h.twn with skipped := 0, bad := 0 } }

/-! ### Takeover (R432-R436) -/

/-- Both signals of the partner are lost: an eligible standby takes over (R432, R433, R436). -/
def pairTakeOver (h : Hub) : Hub :=
  if h.role ≠ .standby ∨ h.flag TWN_STAT_ALIVE_OK ∨ h.heartbeats then h else
  let m := h.fld TWN_STAT_MIRROR
  if m = 0 then h.raise 228 0 [0, 0, 5] else
  let c := h.twn.mirror.getD {}
  let current := m == 2
  let d := h.now
  let r := h.boundaryAt (d + h.slotsOfMs 6)
  let frames := d + h.slotsOfMs 1
  let h := ((h.setRole .takingOver .takeover).bump TWN_CNT_TAKEOVERS 1).raise 225 0
    (ofBool (!current) :: (wide h.mtNow.pack ++ wide c.mt.pack))
  let h := if current then (h.enterEpoch c.epoch).applyCkpt c frames r
    else (h.enterEpoch (c.epoch + 1)).applyImage frames r
  let h := ((h.settleDomains .role).startAges).startInputs
  { h with twn := { h.twn with takeover := some (d, h.lt, r, current), slices := if current then h.twn.slices else [] } }

/-- The resume point R: the hub is ACTIVE, and everything it drives and streams starts (R433, R435, R436). -/
def takeoverDone (h : Hub) : Hub :=
  match h.twn.takeover with
  | none => h
  | some (d, _, r, current) =>
    if h.role ≠ .takingOver then h else
    let c := h.twn.mirror.getD {}
    let h := h.advanceTo r
    let h := h.setRole .active .takeover
    let h := h.pairStreams.foldl (fun (h : Hub) s => if current then h.resumeStream c r s else h.freshStream r s) h
    let h := (h.restartPlane r).restartFibre
    let h := if current then h.restoreFibre else
      let h : Hub := { h.put TRG_STAT_ARMED 0 with sp := { h.sp with nextId := 0 } }
      let h := if h.fiaOn then h.coldStart 2 else h
      (List.range 16).foldl (fun (h : Hub) t => if h.flag (TRG_CFG_ARM_INIT t) then h.armTrigger 3 t else h) h
    let h := ((h.startTrips true (if current then c.latches else 0)).refreshLaser).startPass 0
    let h := if current then h.takeServo c else h
    let h := h.put TWN_TAKE_TIME_US ((r - d).toNat * 10000 / max 1 h.bclk)
    let h := h.raise 225 0 (2 :: wide (h.mtAt r).pack)
    { h with twn := { h.twn with takeover := none } }

/-! ### Signals (R420-R425, R437) -/

/-- A valid HEARTBEAT. Once the role is settled, a partner that reports this hub's UNIT leaves no mirror to use (R431). -/
def heartbeat (role state : Nat) (unit : Bool) (epoch ckpt back : Nat) (h : Hub) : Hub :=
  if !h.paired then h else
  let h : Hub := { h with twn := { h.twn with
    beats := h.twn.beats + 1, heard := true, unit := ofBool unit, epoch := epoch, ckpt := ckpt, partnerMirror := state % 4 } }
  let h := (h.put TWN_STAT_PARTNER_ROLE role).put TWN_LINK_STAT_LOCK 1
  let ofs := ratioOr (signed 64 back * 1000 + h.sfld (FT_ASYM_PS 2)) 1000
  let h := h.sput FT_TWIN_LT_OFS_NS (clamp (-2147483648) 2147483647 ofs)
  let h := if 10 ≤ h.twn.beats ∧ ¬ h.flag TWN_STAT_LINK_UP then (h.put TWN_STAT_LINK_UP 1).raise 226 0 [1] else h
  let follows := h.role == .standby && (role == 3 || role == 4 || role == 6) && epoch != h.fld TWN_EPOCH_EPOCH
  let h := if follows then
      let h := h.enterEpoch epoch
      ({ h with twn := { h.twn with slices := [] } } : Hub).put TWN_GATE_COVER_HELD 0
    else h
  if (h.role == .standby || h.role == .preparing) && ofBool unit == h.unitSel then h.setMirror 0 3
  else h.arbitrate role (ofBool unit)

/-- A HELLO: the digests are compared (R422, R431). -/
def hello (serial : Nat) (digest : List Word) (h : Hub) : Hub :=
  if !h.paired then h else
  let h := (h.setReg TWN_PARTNER_W0 (BitVec.ofNat 32 serial)).setReg TWN_PARTNER_W1 (BitVec.ofNat 32 (serial / 2 ^ 32))
  let same := digest == (List.range 8).map fun i => h.reg (BOOT_DIGEST i)
  let h := h.put TWN_STAT_DIGEST_MATCH (ofBool same)
  if h.role == .active || h.role == .releasing || h.role == .takingOver then h
  else if same then (if h.fld TWN_STAT_MM_CAUSE = 2 then h.setMirror 0 1 else h)
  else h.setMirror 0 2

/-- 100 µs without a valid heartbeat: the twin link is down (R423, R432, R437, R442). -/
def twinLink (h : Hub) : Hub :=
  if !h.paired then h else
  let h : Hub := { h with twn := { h.twn with beats := 0, sending := none } }
  let h := if h.flag TWN_STAT_LINK_UP then
      (((h.put TWN_STAT_LINK_UP 0).put TWN_LINK_STAT_LOCK 0).bump TWN_CNT_LINK_DOWNS 1).raise 226 0 [0]
    else h
  if h.role = .standby ∧ ¬ h.flag TWN_STAT_ALIVE_OK then h.pairTakeOver else
  let h := match h.twn.swap.held, h.twn.swap.h with
    | true, some t => h.swapCut t
    | _, _ => h.endSwap .aborted 4
  h.mirrorStale

/-- ALIVE_IN is lost (R420, R432). -/
def aliveLost (h : Hub) : Hub :=
  if !h.paired || !h.flag TWN_STAT_ALIVE_OK then h else
  let h := ((h.put TWN_STAT_ALIVE_OK 0).bump TWN_CNT_ALIVE_LOSSES 1).raise 227 0 [0]
  ({ h with twn := { h.twn with duty := none } } : Hub).pairTakeOver

/-- ALIVE_IN shows the active duty while this hub is ACTIVE: UNIT 1 gives way (R437). While a planned swap runs both hubs show it. -/
def conflict (h : Hub) : Hub :=
  if !h.paired || h.role != .active || h.twn.swap.held || h.unitSel != 1 then h else
  ((h.toStandby .conflict).setMirror 0 4).pairConflict 1

/-- ALIVE_IN has shown four periods of one duty (R420, R425, R437). -/
def aliveRestored (active : Bool) (h : Hub) : Hub :=
  if !h.paired then h else
  let h := if h.flag TWN_STAT_ALIVE_OK then h else (h.put TWN_STAT_ALIVE_OK 1).raise 227 0 [1]
  let h : Hub := { h with twn := { h.twn with duty := some active } }
  if !active then h
  else if h.role = .joining then h.joinActive else h.conflict

/-- START_WAIT_MS without a heartbeat (R425). -/
def startWait (h : Hub) : Hub :=
  if !h.paired || h.role != .joining || h.heartbeats then h
  else if !h.flag TWN_STAT_ALIVE_OK then h.becomeActive
  else if h.twn.duty = some false ∧ h.unitSel = 0 then h.becomeActive
  else h

/-- The old hub has written every set before H: the final checkpoint is captured and it becomes STANDBY (R440 step 7). -/
def finalCheckpoint (h : Hub) : Hub :=
  if h.role ≠ .releasing ∨ ¬ h.twn.swap.past then h else
  let h := h.pairStreams.foldl (fun (h : Hub) s => h.closePacket s false) h
  let us := (h.lt - h.twn.swap.began) / 1000
  let h := h.takeCkpt
  let h : Hub := { h with twn := { h.twn with swap := {} } }
  let h := (h.toStandby .swap).setMirror 0 1
  ((h.put TWN_SWAP_STAT_LAST_US (min (2 ^ 24 - 1) us)).bump TWN_CNT_SWAPS 1).setSwap .done 0

end Hub

/-- HEARTBEAT (R422, R423, R425). The MT and LT it carries have gone into `back`. -/
def execHeartbeat (role state : Nat) (unit : Bool) (epoch ckpt mt lt : Nat) (back : Checked Nat) (s : State) : Host.Outcome State Fault Refusal :=
  s.onHub (Hub.twinFrame (heartbeatBlocks role state unit epoch ckpt mt lt) back.eof (Hub.heartbeat role state unit epoch ckpt back.val))

/-- HELLO (R422). -/
def execHello (serial : Nat) (digest : Checked (List Word)) (s : State) : Host.Outcome State Fault Refusal :=
  s.onHub (Hub.twinFrame (helloBlocks serial digest.val) digest.eof (Hub.hello serial digest.val))

/-- CKPT_SEG (R429). -/
def execCkptSeg (slice : Bool) (number offset : Nat) (content : Checked (List Byte)) (s : State) : Host.Outcome State Fault Refusal :=
  s.onHub (Hub.twinFrame (segBlocks slice number offset content.val) content.eof (Hub.ckptSeg slice number offset content.val))

/-- CKPT_END (R429). -/
def execCkptEnd (number size crc mt : Nat) (slice : Checked Nat) (s : State) : Host.Outcome State Fault Refusal :=
  s.onHub (Hub.twinFrame (endBlocks number size crc mt slice.val) slice.eof (Hub.ckptEnd number size crc mt slice.val))

/-- CKPT_ACK (R422). -/
def execCkptAck (number : Nat) (result : Checked Nat) (s : State) : Host.Outcome State Fault Refusal :=
  s.onHub (Hub.twinFrame (ackBlocks number result.val) result.eof (Hub.ckptAck number result.val))

/-- CHECKPOINT_CAPTURE (R427). -/
def execCheckpointCapture (s : State) : Host.Outcome State Fault Refusal := s.onHub Hub.checkpointCapture

/-- CKPT_SUMMARY (R443). -/
def execCkptSummary (s : State) : Host.Outcome State Fault Refusal := s.onHub Hub.ckptSummary

/-- TWIN_LINK (R423). -/
def execTwinLink (s : State) : Host.Outcome State Fault Refusal := s.onHub Hub.twinLink

/-- ALIVE (R420). -/
def execAlive (s : State) : Host.Outcome State Fault Refusal := s.onHub Hub.aliveLost

/-- ALIVE_RESTORED (R437). -/
def execAliveRestored (active : Bool) (s : State) : Host.Outcome State Fault Refusal := s.onHub (Hub.aliveRestored active)

/-- TAKEOVER_DONE (R433). -/
def execTakeoverDone (s : State) : Host.Outcome State Fault Refusal := s.onHub Hub.takeoverDone

/-- START_WAIT_MS (R425). -/
def execStartWaitMs (s : State) : Host.Outcome State Fault Refusal := s.onHub Hub.startWait

/-- MIRROR (R431). -/
def execMirror (s : State) : Host.Outcome State Fault Refusal := s.onHub Hub.mirrorStale

/-- PAIR_CONFLICT (R437). -/
def execPairConflict (s : State) : Host.Outcome State Fault Refusal := s.onHub Hub.conflict

/-- TWN_SWAP_GO (R440). -/
def execTwnSwapGo (path : Path) (s : State) : Host.Outcome State Fault Refusal :=
  s.onHub (Hub.writeCmd path TWN_SWAP .LV fun h => some h.twinSwap)

/-- TWN_SWAP_ABORT (R442). -/
def execTwnSwapAbort (path : Path) (s : State) : Host.Outcome State Fault Refusal :=
  s.onHub (Hub.writeCmd path TWN_SWAP .LV fun h => some h.abortSwap)

/-- SWAP_REQUEST (R440). -/
def execSwapRequest (s : State) : Host.Outcome State Fault Refusal :=
  s.onHub (Hub.twinFrame (swapBlocks 0 0 0) (twinCrc (swapBlocks 0 0 0)) Hub.swapRequest)

/-- PREPARE (R440). -/
def execPrepare (ok : Bool) (s : State) : Host.Outcome State Fault Refusal := s.onHub (Hub.prepareEnd ok)

/-- SWAP_READY (R440). -/
def execSwapReady (s : State) : Host.Outcome State Fault Refusal :=
  s.onHub (Hub.twinFrame (swapBlocks 1 0 0) (twinCrc (swapBlocks 1 0 0)) Hub.swapReady)

/-- SWAP_FAIL (R442). -/
def execSwapFail (cause : Checked Nat) (s : State) : Host.Outcome State Fault Refusal :=
  s.onHub (Hub.twinFrame (swapBlocks 2 cause.val 0) cause.eof (Hub.endSwap .refused cause.val))

/-- SWAP_SCHEDULE (R440). -/
def execSwapSchedule (mt : Checked Nat) (s : State) : Host.Outcome State Fault Refusal :=
  s.onHub (Hub.twinFrame (swapBlocks 3 0 mt.val) mt.eof (Hub.swapSchedule mt.val))

/-- SWAP_ABORT (R442). -/
def execSwapAbort (cause : Checked Nat) (s : State) : Host.Outcome State Fault Refusal :=
  s.onHub (Hub.twinFrame (swapBlocks 4 cause.val 0) cause.eof (Hub.endSwap .aborted cause.val))

/-- HANDOVER_POINT (R440). -/
def execHandoverPoint (s : State) : Host.Outcome State Fault Refusal := s.onHub Hub.handoverPoint

/-- HANDOVER (R440). -/
def execHandover (latches : Nat) (mt : Checked Nat) (s : State) : Host.Outcome State Fault Refusal :=
  s.onHub (Hub.twinFrame (handoverBlocks latches mt.val) mt.eof (Hub.takeLatches latches))

/-- FINAL_CHECKPOINT (R440). -/
def execFinalCheckpoint (s : State) : Host.Outcome State Fault Refusal := s.onHub Hub.finalCheckpoint

end Sys2Proof.Machine
end

