-- ==== Sys2Proof/Machine/Power.lean ====
section
/-!
DEFINITION. The commands of the power controller: feeds (R445-R450), rails and domains (R451-R453), the Quiescent state
(R454-R456), thermal limits (R457, R458), and the three commands of the MT counter at which a first anchor can fall.
-/

namespace Sys2Proof.Machine

/-- A feed is good within 2.95-3.70 V (R446), in range within 3.0-3.6 V (R445). -/
def feedGood (mv : Nat) : Bool := decide (2950 ≤ mv) && decide (mv ≤ 3700)
def feedInRange (mv : Nat) : Bool := decide (3000 ≤ mv) && decide (mv ≤ 3600)

/-- A feed has failed: below 2.90 V or above 3.80 V (R446). -/
def feedFailed (mv : Nat) : Bool := decide (mv < 2900) || decide (3800 < mv)

namespace Hub

/-! ### Feeds (R445-R450) -/

/-- The measured voltage of a feed, 0 FEED_A and 1 FEED_B; a feed that is isolated is not good. -/
def showFeed (f mv : Nat) (h : Hub) : Hub :=
  let ok := ofBool (feedGood mv && !bit h.pwr.isolated f)
  if f = 0 then (h.put PWR_FEED_STAT_VA mv).put PWR_FEED_STAT_A_OK ok else (h.put PWR_FEED_STAT_VB mv).put PWR_FEED_STAT_B_OK ok

def feedOk (h : Hub) (f : Nat) : Bool := if f = 0 then h.flag PWR_FEED_STAT_A_OK else h.flag PWR_FEED_STAT_B_OK

/-- A feed above 3.80 V is isolated; one that is measured in range again is not. -/
def isolate (f : Nat) (b : Bool) (h : Hub) : Hub :=
  { h with pwr := { h.pwr with isolated := putBit h.pwr.isolated f b } }

/-- FEED_B is measured at `mv`; it enters or leaves its window (R449). -/
def measureB (mv : Nat) (h : Hub) : Hub :=
  let was := feedInRange (h.fld PWR_FEED_STAT_VB)
  let now := feedInRange mv
  let h := h.showFeed 1 mv
  if was = now then h else h.raise 233 0 [ofBool (!now), mv]

/-- A feed is measured (R449). -/
def measureFeed (f mv : Nat) (h : Hub) : Hub := if f = 0 then h.showFeed 0 mv else h.measureB mv

/-- Brown-out: the hub is held in power-on reset (R448). -/
def brownOut (h : Hub) : Hub :=
  let h := h.resetHub 0 0
  { h with pwr := { h.pwr with por := true } }

/-- Power-on reset ends with the feeds at these voltages: FEED_A carries the load where it is in range, else FEED_B (R445, R448).
LT and the count of sessions start anew (R306, R307). -/
def powerOn (va vb : Nat) (h : Hub) : Hub :=
  if !h.pwr.por && h.bootStep != 0 then h else
  let pick := if feedInRange va then some 0 else if feedInRange vb then some 1
    else if feedGood va then some 0 else if feedGood vb then some 1 else none
  match pick with
  | none => (h.showFeed 0 va).showFeed 1 vb
  | some f =>
    let h := h.resetHub 0 0
    let h : Hub := { h with lt := 0, pwr := {}, boot := { h.boot with sessions := 0, lcFrom := none } }
    ((h.showFeed 0 va).showFeed 1 vb).put PWR_FEED_STAT_SEL f

/-- The selected feed has failed at `mv`: the load moves to the other feed where that is good, and a feed test on FEED_B has
failed; else the hub browns out (R446, R450). -/
def moveLoad (mv : Nat) (h : Hub) : Hub :=
  let old := h.fld PWR_FEED_STAT_SEL
  if !h.feedOk (1 - old) then h.brownOut else
  let h := (h.put PWR_FEED_STAT_SEL (1 - old)).raise 232 0 [old, 1 - old, mv]
  if !h.flag PWR_FEED_STAT_TEST then h else
  let h := (h.put PWR_FEED_STAT_TEST 0).put PWR_FEED_TEST_STAT_RESULT 2
  (h.put PWR_FEED_TEST_STAT_VB_MIN mv).raise 234 0 [1, mv]

/-- The selected feed has measured `mv` for 1 µs, the other one `other`. -/
def feedSwitch (mv other : Nat) (h : Hub) : Hub :=
  let sel := h.fld PWR_FEED_STAT_SEL
  if h.pwr.por || !feedFailed mv then h else
  let h := if 3800 < mv then h.isolate sel true else h
  ((h.measureFeed sel mv).measureFeed (1 - sel) other).moveLoad mv

/-- A feed has risen above 3.80 V: it is isolated at once (R446). -/
def feedOver (feed mv other : Nat) (h : Hub) : Hub :=
  if h.pwr.por || mv ≤ 3800 || 2 ≤ feed then h else
  let h := ((h.isolate feed true).measureFeed feed mv).measureFeed (1 - feed) other
  if h.fld PWR_FEED_STAT_SEL = feed then h.moveLoad mv else h

/-- FEED_A has been in range for REVERT_MS: the load returns to it. -/
def feedRevert (mv : Nat) (h : Hub) : Hub :=
  if h.pwr.por || h.fld PWR_FEED_STAT_SEL != 1 || h.flag PWR_FEED_STAT_TEST || !feedInRange mv then h else
  (((h.isolate 0 false).showFeed 0 mv).put PWR_FEED_STAT_SEL 0).raise 232 0 [1, 0, mv]

/-- The feeds are measured (R449). -/
def feedBState (va vb : Nat) (h : Hub) : Hub :=
  if h.pwr.por then h else
  let h := if feedInRange va then h.isolate 0 false else h
  let h := if feedInRange vb then h.isolate 1 false else h
  (h.showFeed 0 va).measureB vb

/-- A write of GO to PWR.FEED_TEST (R450). -/
def startFeedTest (h : Hub) : Hub :=
  if h.fld PWR_FEED_STAT_SEL != 0 || !h.feedOk 0 || !h.feedOk 1 || h.flag PWR_FEED_STAT_TEST || h.bootStep != 6 then
    (h.put PWR_FEED_TEST_STAT_RESULT 3).raise 234 0 [2, h.fld PWR_FEED_TEST_STAT_VB_MIN]
  else (h.put PWR_FEED_STAT_TEST 1).put PWR_FEED_STAT_SEL 1

/-- A write of PWR.FEED_TEST. -/
def writeFeedTest (v : Word) (h : Hub) : Hub :=
  let h := h.put PWR_FEED_TEST_TEST_MS (bits v.toNat 15 0)
  if bit v.toNat 31 then h.startFeedTest else h

/-- The test ends: FEED_B carried the load, whose lowest voltage is kept; the load returns to FEED_A. -/
def feedTestEnd (vbMin : Nat) (h : Hub) : Hub :=
  if !h.flag PWR_FEED_STAT_TEST then h else
  let h := if h.feedOk 0 then h.put PWR_FEED_STAT_SEL 0 else h
  let h := ((h.put PWR_FEED_STAT_TEST 0).put PWR_FEED_TEST_STAT_RESULT 1).put PWR_FEED_TEST_STAT_VB_MIN vbMin
  h.raise 234 0 [0, vbMin]

/-! ### Rails and domains (R451-R453) -/

/-- The domains that a rail feeds, as codes. -/
def fedBy (rail : Nat) : List Nat :=
  if rail = 3 ∨ rail = 4 then (List.range 32).map codeAfe else if rail = 5 then [codeFia] else []

/-- A rail has left its tolerance for 1 µs (R451). -/
def railFault (rail : Nat) (h : Hub) : Hub :=
  if h.pwr.por || 6 ≤ rail then h
  else if rail < 2 then h.brownOut
  else if bit h.pwr.faulted rail then h
  else
    let n := (fedBy rail).countP h.domainOn
    let h : Hub := { h with pwr := { h.pwr with faulted := putBit h.pwr.faulted rail true } }
    let h := h.put PWR_RAIL_STAT_GOOD (putBit (h.fld PWR_RAIL_STAT_GOOD) rail false)
    (fedBy rail).foldl (fun (h : Hub) c => h.setDomain c .rail false) (h.raise 235 0 [rail - 2, n])

/-- A write of word `word` of PWR.DOM_CTL: refused, or in force at the next frame tick, without a series at the next slot
boundary (R453). -/
def writeDomCtl (word : Nat) (v : Word) (h : Hub) : Option Hub :=
  if 2 ≤ word || h.gateRefused word v then none else
  let v := if word = 1 then v &&& 0x3FFFF else v
  let a := PWR_DOM_CTL_W0 + 4 * word
  if h.cnv.series.isSome then some (h.stage a v)
  else if !h.mt.anchored then some { h with pwr := { h.pwr with domDue := h.pwr.domDue ++ [(word, v)] } }
  else some (((h.advanceTo (h.now + 1)).setReg a v).settleDomains .register)

/-- Writes to PWR.DOM_CTL that were held act at the slot of the first anchor (R453, R481). -/
def applyDomCtl (h : Hub) : Hub :=
  if !h.mt.anchored || h.pwr.domDue.isEmpty then h else
  (h.pwr.domDue.foldl (fun (h : Hub) (p : Nat × Word) => h.setReg (PWR_DOM_CTL_W0 + 4 * p.1) p.2)
    { h with pwr := { h.pwr with domDue := [] } }).settleDomains .register

/-! ### The Quiescent state (R454-R456) -/

/-- A write of PWR.QUIESCE: refused with another key or without GO's conditions (R454). -/
def writeQuiesce (v : Word) (h : Hub) : Option Hub :=
  let active := h.role == .active || h.role == .releasing
  if bits v.toNat 31 24 ≠ 0x51 ∨ ¬ bit v.toNat 0 ∨ h.bootStep ≠ 6 ∨ (active ∧ h.fld TWN_STAT_PARTNER_ROLE = 2) then none
  else some { h with pwr := { h.pwr with quiesceDue := true } }

/-- Frames, launches and Timetable actions stop: an open frame closes, and nothing that waits acts any more. -/
def stopPlane (h : Hub) : Hub :=
  let h := match h.cnv.series, h.cnv.gridNext with
    | some _, some g => h.stopFrames g
    | _, _ => h
  { h with tt := { h.tt with actions := [], carried := [], lateNow := [] } }

/-- Turn boundary B: acquisition stops, TRIP and LASER_DIS_N go low and are released, and the drain begins (R454). -/
def quiescentEntry (h : Hub) : Hub :=
  if !h.pwr.quiesceDue || h.bootStep != 6 || h.pwr.draining then h else
  let h := h.advanceTo ((h.mt.turn + 1) * h.spt)
  let h : Hub := { h with pwr := { h.pwr with quiesceDue := false, draining := true, entryTurn := h.mt.turn, entryLt := h.lt } }
  (h.stopPlane.lowTrips.refreshLaser).raise 239 0 [0, 0]

/-- Each packet not acknowledged is discarded, the open ones closed before, with one GAP record of cause SHUTDOWN for each stream
that had any. Answers the number of those streams. -/
def shutStreams (h : Hub) : Nat × Hub :=
  let h := (List.range 128).foldl (fun (h : Hub) s => h.closePacket s false) h
  let n := (List.range 128).countP fun s => !(h.ring s).packets.isEmpty
  (n, (List.range 128).foldl (fun (h : Hub) s => h.gapUnacked s 5) h.discardFrames)

/-- The drain ends: packets still unacknowledged are reported, DMA settles, and everything but AON is off (R342, R454). -/
def drainEnd (h : Hub) : Hub :=
  if !h.pwr.draining then h else
  let h := h.shutStreams.2
  let h := (List.range 22).foldl (fun (h : Hub) m => h.gateMemory m) h
  let h := (h.gateDomains .quiescent).setLink 0
  let h := h.tally 185 ((h.lt - h.pmc.refAt) / 10)
  let h : Hub := { h.releaseTrips with pwr := { h.pwr with draining := false }, fi := { h.fi with drive := 0 } }
  h.put DEV_STATE_STEP 8

/-- The link starts anew from CLOCK, with LSN 0 (R278, R455). -/
def restartLink (h : Hub) : Hub :=
  let h : Hub := { h with wl := { dlsn := h.wl.dlsn, violAt := h.wl.violAt, violNew := h.wl.violNew } }
  let h := [WL_STAT, WL_LANE_MAP, WL_LSN_W0, WL_LSN_W1].foldl (fun (h : Hub) a => h.setReg a (regReset a)) h
  let h := (List.range 5).foldl (fun (h : Hub) k => h.setReg (WL_LANE_STAT k) (regReset (WL_LANE_STAT k))) h
  let h := (List.range 2).foldl (fun (h : Hub) j => h.setReg (WL_RX_STAT j) (regReset (WL_RX_STAT j))) h
  ((List.range 128).foldl (fun (h : Hub) s => (h.setRing s { h.ring s with
    sent := 0, open? := (h.ring s).open?.map fun p => { p with cut := false } }).showCredit s) h).setLink 1

/-- MT waits for BCLK again (R30); the turn held stays, to place the next one. What events scheduled meanwhile acts on nothing. The
fields that count since arm (R60) are kept, as the model's choice (DESIGN CHOICE, log entry 118). -/
def restartMt (h : Hub) : Hub :=
  let h : Hub := { h with
    mt := { turn := h.mt.turn, placed := h.mt.placed, clock := h.mt.clock, breaks := h.mt.breaks }
    cnv := { h.cnv with series := none, gridNext := none, restart := false, spill := [], fills := [], convs := [], adcs := [] }
    trg := { h.trg with window := none, closedWin := [], divider := 0 }
    tt := { h.tt with actions := [], carried := [], lateNow := [] } }
  ((((h.setCounter .waitBclk).put MT_STATE_HOLDOVER 0).put MT_STATE_REV_OK 0).put MT_STATE_MMSG_SEEN 0).put MT_BCLK_MEAS_FREQ 0

/-- An input whose cell's age exceeds CAL_AGE_LIMIT is SETTLING until it is measured (R373). -/
def settleOld (h : Hub) : Hub :=
  (List.range 512).foldl (fun (h : Hub) c =>
    if h.acquires c && decide (h.fld CAL_AGE_LIMIT_S < h.ageS itemCoef (h.servingCell c)) then
      h.setCell c { h.cell c with settleWake := true }
    else h) h

/-- The hub leaves the Quiescent state: rails and domains are restored, the ADCs and REF and EXC measured, and it arms (R455); in
a pair it joins (R438). -/
def wakeUp (timer : Bool) (h : Hub) : Hub :=
  let s := h.fld PWR_WAKE_S_S
  if h.bootStep != 8 || h.pwr.por || h.pwr.cut || h.pwr.shutdown || (timer && s == 0) then h else
  let t0 := if timer then max h.lt (h.pwr.entryLt + 1000000000 * s) else h.lt
  let h : Hub := { h with lt := t0, pmc := { h.pmc with refAt := t0 }, pwr := { h.pwr with woke := true } }
  let h := if h.flag TWN_CFG_EN then ({ h with twn := {} } : Hub).put TWN_STAT_ROLE 1 else h
  let h := ((h.put DEV_STATE_STEP 6).put PWR_TEMP_PEAK (h.fld PWR_TEMP_TJ)).settleDomains .quiescent
  let h := ((h.restartMt.restartLink.settleOld.refreshLaser).measureTrims !h.flag TWN_CFG_EN).startPass 1
  h.raise 239 0 [1, (h.lt - h.pwr.entryLt) / 1000000]

/-- The first anchor after the Quiescent state (R455, R456): the frames of its turn carry REANCHOR where LT gave the turn, R43
holds for the next 16 turns, FT runs a new session, trip outputs start, DAS re-seeds, and the open DTS cycle is discarded. -/
def finishWake (h : Hub) : Hub :=
  if !(h.pwr.woke && h.mt.anchored) then h else
  let h : Hub := { h with pwr := { h.pwr with woke := false } }
  let h := if h.flag MT_CTRL_TURN_FROM_MMSG then h else { h with mt := { h.mt with turnFlag := some h.mt.turn } }.openAdopt
  let h := h.breakCadence.startSession.restartFibre
  if h.holdsActive then h.startTrips false 0 else h

/-! ### Thermal limits (R457, R458) -/

/-- The temperature measured, and the highest since arm. -/
def showTemp (tj : Int) (h : Hub) : Hub :=
  (h.sput PWR_TEMP_TJ tj).sput PWR_TEMP_PEAK (if h.sfld PWR_TEMP_PEAK < tj then tj else h.sfld PWR_TEMP_PEAK)

/-- Tj passes the warning threshold, or falls 5 °C below it (R457). -/
def thermalWarn (tj : Int) (h : Hub) : Hub :=
  let h := h.showTemp tj
  let warn : Int := h.fld PWR_THERM_CFG_WARN
  if !h.pwr.warned && decide (warn < tj) then
    ({ h with pwr := { h.pwr with warned := true } } : Hub).raise 237 0 [0, sword tj]
  else if h.pwr.warned && decide (tj < warn - 50) then
    ({ h with pwr := { h.pwr with warned := false } } : Hub).raise 237 0 [1, sword tj]
  else h

/-- Tj reaches 115 °C: the orderly shutdown (R458). The domains are off from 2 ms on, when the hub is dark. -/
def thermalShutdown (tj : Int) (h : Hub) : Hub :=
  let h := h.showTemp tj
  if tj < 1150 ∨ h.pwr.shutdown ∨ h.pwr.cut ∨ h.pwr.por then h else
  let h : Hub := { h with pwr := { h.pwr with shutdown := true, shutAt := h.lt } }
  let (n, h) := (h.stopPlane.lowTrips.refreshLaser).shutStreams
  h.raise 238 0 [sword tj, n]

/-- Tj reaches 125 °C, or a sensor cannot be read: everything but AON is cut, with no record (R457). -/
def hardwareCut (h : Hub) : Hub :=
  if h.pwr.por then h else
  let h := h.resetHub 3 0
  { h with pwr := { h.pwr with cut := true } }

/-- Tj has been below 90 °C for 1 s: the hub goes through a boot (R458). -/
def thermalRecovery (h : Hub) : Hub := if h.pwr.shutdown ∨ h.pwr.cut then h.resetHub 3 0 else h

end Hub

/-- REV_MARKER (R28). -/
def execRevMarker (slot : Nat) (s : State) : Host.Outcome State Fault Refusal := s.onHub fun h => (h.revMarker slot).applyDomCtl.finishWake

/-- FLYWHEEL_WRAP (R26). -/
def execFlywheelWrap (s : State) : Host.Outcome State Fault Refusal := s.onHub fun h => h.flywheelWrap.applyDomCtl.finishWake

/-- PASS_TO_UNANCHORED (R30). -/
def execPassToUnanchored (s : State) : Host.Outcome State Fault Refusal := s.onHub fun h => h.passToUnanchored.applyDomCtl.finishWake

/-- POWER_ON_RESET (R448). -/
def execPowerOnReset (va vb : Nat) (s : State) : Host.Outcome State Fault Refusal := s.onAon (Hub.powerOn va vb)

/-- FEED_SWITCH (R446). -/
def execFeedSwitch (mv other : Nat) (s : State) : Host.Outcome State Fault Refusal := s.onAon (Hub.feedSwitch mv other)

/-- FEED_REVERT (R446). -/
def execFeedRevert (mv : Nat) (s : State) : Host.Outcome State Fault Refusal := s.onAon (Hub.feedRevert mv)

/-- FEED_B_STATE (R449). -/
def execFeedBState (mv : Feeds) (s : State) : Host.Outcome State Fault Refusal := s.onAon (Hub.feedBState mv.a mv.b)

/-- FEED_OVERVOLTAGE (R446). -/
def execFeedOvervoltage (feed mv other : Nat) (s : State) : Host.Outcome State Fault Refusal := s.onAon (Hub.feedOver feed mv other)

/-- FEED_TEST (R450). -/
def execFeedTest (path : Path) (ms : Nat) (s : State) : Host.Outcome State Fault Refusal :=
  s.onHub (Hub.writeCmd path PWR_FEED_TEST .LV fun h => some (h.writeFeedTest (BitVec.ofNat 32 (2 ^ 31 + ms % 65536))))

/-- FEED_TEST_END (R450). -/
def execFeedTestEnd (vbMin : Nat) (s : State) : Host.Outcome State Fault Refusal := s.onAon (Hub.feedTestEnd vbMin)

/-- RAIL_FAULT (R451). -/
def execRailFault (rail : Nat) (s : State) : Host.Outcome State Fault Refusal := s.onAon (Hub.railFault rail)

/-- DOM_CTL (R453). -/
def execDomCtl (path : Path) (word : Nat) (value : Word) (s : State) : Host.Outcome State Fault Refusal :=
  s.onHub (Hub.writeCmd path (PWR_DOM_CTL_W0 + 4 * word) .LV (Hub.writeDomCtl word value))

/-- QUIESCE (R454). -/
def execQuiesce (path : Path) (key : Nat) (go : Bool) (s : State) : Host.Outcome State Fault Refusal :=
  s.onHub (Hub.writeCmd path PWR_QUIESCE .LV (Hub.writeQuiesce (BitVec.ofNat 32 (key % 256 * 2 ^ 24 + ofBool go))))

/-- QUIESCENT_ENTRY (R454). -/
def execQuiescentEntry (s : State) : Host.Outcome State Fault Refusal := s.onHub Hub.quiescentEntry

/-- DRAIN_END (R454). -/
def execDrainEnd (s : State) : Host.Outcome State Fault Refusal := s.onHub Hub.drainEnd

/-- WAKE (R455). -/
def execWake (timer : Bool) (s : State) : Host.Outcome State Fault Refusal := s.onAon (Hub.wakeUp timer)

/-- THERMAL_WARN (R457). -/
def execThermalWarn (tj : Int) (s : State) : Host.Outcome State Fault Refusal := s.onAon (Hub.thermalWarn tj)

/-- THERMAL_SHUTDOWN (R458). -/
def execThermalShutdown (tj : Int) (s : State) : Host.Outcome State Fault Refusal := s.onAon (Hub.thermalShutdown tj)

/-- HARDWARE_CUT (R457). -/
def execHardwareCut (s : State) : Host.Outcome State Fault Refusal := s.onAon Hub.hardwareCut

/-- THERMAL_RECOVERY (R458). -/
def execThermalRecovery (s : State) : Host.Outcome State Fault Refusal := s.onAon Hub.thermalRecovery

end Sys2Proof.Machine
end

