-- ==== Sys2Proof/Machine/Scrub.lean ====
section
/-!
DEFINITION. The patrol scrubber (R327-R330): what becomes of the words that a pass finds in error.
-/

namespace Sys2Proof.Machine

namespace Hub

/-- The stream whose ring holds an address of the Cistern (R247). -/
def ringOf (h : Hub) (a : Nat) : Option Nat :=
  (List.range 128).find? fun s =>
    let b := 0x42000000 + 4096 * h.fld (CIS_RING_BASE_BASE s)
    decide (b ≤ a) && decide (a < b + h.ringSize s)

/-- A word of a ring was corrected (R255, R272). -/
def ringCorrected (a : Nat) (h : Hub) : Hub :=
  match h.ringOf a with
  | none => h
  | some s => (h.bump (CIS_ECC_CNT_CORRECTED s) 1).setRing s { h.ring s with eccSec := true }

/-- A corrected word (R327): it is counted, and its row is repaired where an earlier pass found one in it (R329). -/
def wordCorrected (f : EccFind) (h : Hub) : Hub :=
  let h := (h.bump (DMA_MEM_STAT_CORRECTED f.mem) 1).tally (eccCounter f.mem) 1
  let h : Hub := if h.mem.eccSec.contains f.mem then h else { h with mem := { h.mem with eccSec := h.mem.eccSec ++ [f.mem] } }
  let h := if f.mem = 18 then h.ringCorrected f.addr else h
  if h.mem.seenRows.contains (f.mem, f.row) then h.startRepair f.mem f.row 0 else h

/-- A packet of a ring is unsendable (R255): it is dropped, sent or not, and a GAP record names it; one being filled, when it
closes. Which packet the word lies in, if any, is free. -/
def spoilPacket (a : Nat) (h : Hub) : Hub :=
  match h.ringOf a with
  | none => h
  | some s =>
    let r := h.ring s
    let k := Config.wordPlace a h.fresh % (r.packets.length + 2)
    let h := h.tick
    match r.packets[k]? with
    | none =>
      match r.open? with
      | some p =>
        if k != r.packets.length || p.dropped || p.spoilt then h else
        (h.setRing s { r with open? := some { p with spoilt := true } }).raise 146 0 [s, h.fld (CIS_SEQ_NEXT s)]
      | none => h
    | some p =>
      let h := if k < r.sent then h.loseFrame s k else h
      let h := h.setRing s { r with packets := r.packets.eraseIdx k, sent := if k < r.sent then r.sent - 1 else r.sent }
      let h := match gapOf 3 [p] with | some g => h.writeGap s g | none => h
      (h.raise 146 0 [s, p.seq]).refreshRing s

/-- The two containers of a Standpipe word are lost: they are emitted as FILL with value 0 (R330). Which they are is free. -/
def spoilStandpipe (a : Nat) (h : Hub) : Hub :=
  let ins := (List.range 512).filter h.spSelects
  let k := Config.wordPlace a h.fresh
  let h := h.tick
  match h.sp.frames[k / 256 % (h.sp.frames.length + 1)]? with
  | none => h
  | some (n, f) =>
    let at_ := k % 256 * 2 % (ins.length + 1)
    let gone := (ins.drop at_).take 2
    let f' : SpFrame := { f with conts := gone.foldl (fun m c => SMap.erase m c) f.conts }
    { h with sp := { h.sp with frames := SMap.insert h.sp.frames n f' } }

/-- A word of Mirror Memory is uncorrectable: the checkpoint that holds it is incomplete (R429-R431). -/
def spoilMirror (off : Nat) (h : Hub) : Hub :=
  if 0x20000 ≤ off then h
  else if h.role == .standby || h.role == .preparing then
    if off / 0x10000 = h.twn.buffer then (if h.fld TWN_STAT_MIRROR = 2 then h.setMirror 1 0 else h)
    else { h with twn := { h.twn with got := [] } }
  else if off < 0x10000 && h.twn.sending.isSome then
    { h.bump TWN_CKPT_STAT_BAD 1 with twn := { h.twn with sending := none, bad := h.twn.bad + 1 } }
  else h

/-- The outcome of an uncorrectable word of the Trace Store, at offset `o` (R330): a gate record is written to zero, a calibration capture
is taken again, the recipe shadow is copied again from NVM. -/
def spoilTrace (o : Nat) (h : Hub) : Hub :=
  let clear (lo hi : Nat) (h : Hub) : Hub :=
    { h with mem := { h.mem with
      poison := h.mem.poison.filter fun x => !(decide (0x41000000 + lo ≤ x) && decide (x < 0x41000000 + hi)) } }
  if 0x780000 ≤ o ∧ o < 0x7C0000 then clear o (o + 8) h
  else if o < 0x400000 then
    let g := o / 64
    clear (64 * g) (64 * g + 64) { h with fi := { h.fi with gates := SMap.erase h.fi.gates g } }
  else if 0xB00000 ≤ o then
    let e := (o - 0xB00000) / 65536
    if h.boot.stalled then
      (if h.se.shadowDue.contains e then h else { h with se := { h.se with shadowDue := h.se.shadowDue ++ [e] } })
    else clear o (o + 8) h
  else h

/-- An uncorrectable word (R327-R330): it is poisoned, reported, its row repaired, and it has the outcome of its place. -/
def wordSpoilt (f : EccFind) (h : Hub) : Hub :=
  let a := f.addr / 8 * 8
  let h : Hub := if h.mem.poison.contains a then h else { h with mem := { h.mem with poison := h.mem.poison ++ [a] } }
  let h := (h.raiseUncorr f.mem a 7).startRepair f.mem f.row 1
  if f.mem < 17 then h.failEngine f.mem 2
  else match f.mem with
    | 17 => h.spoilTrace (a - 0x41000000)
    | 18 => h.spoilPacket a
    | 19 => h.spoilStandpipe a
    | 20 => h.spoilMirror (a - 0x44000000)
    | _ => h

/-- The scrubber completes a pass over the powered memories (R328): what it found in powered memories takes effect, and the rows
with corrected words are remembered for the next pass. -/
def scrubPass (found : List EccFind) (h : Hub) : Hub :=
  let found := found.filter fun f => h.memOn f.mem && memOf f.addr == some f.mem
  let h := found.foldl (fun (h : Hub) f => if f.fatal then h.wordSpoilt f else h.wordCorrected f) h
  let rows := (found.filter fun f => !f.fatal).map fun f => (f.mem, f.row)
  let h : Hub := { h with mem := { h.mem with
    seenRows := rows.foldl (fun rs r => if rs.contains r then rs else rs ++ [r]) h.mem.seenRows } }
  let bytes := ((List.range 22).map fun m => if h.memOn m then (memWindow m).2 else 0).sum
  let h := h.tally 183 (bytes / 8)
  let h := h.bump DMA_SCRUB_PASSES 1
  h.raise 244 0 [h.fld DMA_SCRUB_PASSES]

end Hub

/-- SCRUB_PASS (R328). -/
def execScrubPass (found : List EccFind) (s : State) : Host.Outcome State Fault Refusal := s.onHub (Hub.scrubPass found)

end Sys2Proof.Machine
end

