-- ==== Sys2Proof/Machine/Triggers.lean ====
section
/-!
DEFINITION. Triggers (R203-R217), look-back bursts (R218-R227) and trip outputs (R228-R233): the evaluation of a frame, the
emission of bursts, trips and permits, and the register commands of the chapter.
-/

namespace Sys2Proof.Machine

/-- A fire of a frame: the trigger, whether auto mode forced it, the offset from the tick in 1/1024 slot where a TDC timed it,
whether a later edge completed it, and BIT (R211, R214). -/
structure Fire where
  trg : Nat
  forced : Bool := false
  fine : Option Nat := none
  later : Bool := false
  bit : Nat := 0x3FF
  deriving DecidableEq, Repr

namespace Hub

/-! ### The state vector (R203-R205) -/

/-- The channel bit of an input in a window. -/
def windowChan (h : Hub) (w : Window) (c : Nat) : Bool :=
  if w.dtFast.getLsbD c then w.dt.getLsbD c else if w.dtEngine.getLsbD c then h.se.dt.getLsbD c else w.high.getLsbD c

/-- The vector of a frame. -/
def stateVector (h : Hub) (w : Window) : BitVec 608 :=
  let chans := (List.range 512).foldl (fun (n : Nat) c => if h.windowChan w c then n + 2 ^ c else n) 0
  BitVec.ofNat 608 (chans + h.trg.zones.toNat * 2 ^ 512 + w.trigIn.toNat * 2 ^ 576 + w.mmsg.toNat * 2 ^ 592)

/-- The pattern of a trigger that holds for a frame. -/
def windowPattern (w : Window) (t : Nat) : Nat × Nat := SMap.get (fun _ => (0, 0)) w.pats t

/-- TRG[t] matches the vector (R207). -/
def patternMatches (v : BitVec 608) (p : Nat × Nat) : Bool :=
  p.1 != 0 && (v.toNat ^^^ p.2) &&& p.1 == 0

/-! ### Timing (R214) -/

/-- Bit `b` is known to frame resolution only. -/
def frameBit (w : Window) (b : Nat) : Bool := decide (512 ≤ b) || w.dtFast.getLsbD b || w.dtEngine.getLsbD b

/-- Bit `b` rose in the window. -/
def bitRose (h : Hub) (w : Window) (v : BitVec 608) (b : Nat) : Bool :=
  if !frameBit w b then w.rose.getLsbD b
  else if 576 ≤ b && decide (b < 592) then w.trigRose.getLsbD (b - 576)
  else v.getLsbD b && !h.trg.prevVec.getLsbD b

/-- The completing bit of a match and how it is timed. -/
def timeFire (h : Hub) (w : Window) (v : BitVec 608) (t : Nat) : Fire :=
  let p := windowPattern w t
  let cared := (List.range 608).filter fun b => bit (p.1 &&& p.2) b && h.bitRose w v b
  match cared.find? (frameBit w) with
  | some b => { trg := t, bit := b }
  | none =>
    let at_ (b : Nat) : Nat := SMap.get (fun _ => 0) w.riseAt b
    match cared with
    | [] => { trg := t }
    | b0 :: rest =>
      let b := rest.foldl (fun best x => if at_ best < at_ x then x else best) b0
      if SMap.find? w.first (b / 16) = some (b, at_ b) then { trg := t, fine := some (at_ b), bit := b }
      else { trg := t, later := true, bit := b }

/-! ### Which triggers fire (R207-R211) -/

/-- The turn boundaries that auto mode has counted for a trigger, with that of the window taken in: an arming, or a new AUTO_TURNS, that
governs the window begins the count anew (R211, R236). -/
def boundaries (h : Hub) (w : Window) (t : Nat) : Nat :=
  let ref := SMap.get (fun _ => 0) w.refs t
  (if SMap.get (fun _ => 0) h.trg.autoSeen t = ref then SMap.get (fun _ => 0) h.trg.autoCount t else 0)
    + ofBool (w.boundary && decide (ref < w.tick))

/-- Whether a trigger fires in a window: a fresh match outside holdoff, or auto mode, which a holdoff defers to its end. -/
def firesIn (h : Hub) (w : Window) (v : BitVec 608) (t : Nat) : Option Fire :=
  if !w.armed.getLsbD t then none else
  let m := patternMatches v (windowPattern w t)
  let fresh := m && (w.renewed.getLsbD t || !h.trg.prevMatch.getLsbD t)
  let held := SMap.get (fun _ => 0) h.trg.holdoff t != 0
  let auto := (w.cfg.getD t (0, 0)).2
  if held then none
  else if fresh then some (h.timeFire w v t)
  else if auto != 0 && decide (auto ≤ h.boundaries w t) then some { trg := t, forced := true }
  else none

/-- The fires of a window, in ascending trigger index. -/
def firesOf (h : Hub) (w : Window) : List Fire := (List.range 16).filterMap (h.firesIn w (h.stateVector w))

/-- The count of auto mode and the holdoff of a trigger after a frame (R210, R211). -/
def countAuto (w : Window) (fired : Bool) (t : Nat) (h : Hub) : Hub :=
  let left := SMap.get (fun _ => 0) h.trg.holdoff t
  let hold := if fired then (w.cfg.getD t (0, 0)).1 else left - 1
  let h : Hub := { h with trg := { h.trg with holdoff := SMap.set (fun _ => 0) h.trg.holdoff t hold } }
  if !w.armed.getLsbD t then h else
  { h with trg := { h.trg with
    autoCount := SMap.set (fun _ => 0) h.trg.autoCount t (if fired then 0 else h.boundaries w t)
    autoSeen := SMap.set (fun _ => 0) h.trg.autoSeen t (SMap.get (fun _ => 0) w.refs t) } }

/-! ### Bursts (R221-R224) -/

/-- A fire that gets no burst is counted, and reported at most once per turn (R237). -/
def noBurst (t : Nat) (h : Hub) : Hub :=
  let h := h.bump TRG_SP_CNT_NO_BURST 1
  let n := SMap.get (fun _ => 0) h.trg.noBurst t + 1
  if h.trg.noBurstDone.getLsbD t then
    { h with trg := { h.trg with noBurst := SMap.set (fun _ => 0) h.trg.noBurst t n } }
  else
    let h : Hub := { h with trg := { h.trg with
      noBurst := SMap.set (fun _ => 0) h.trg.noBurst t 0
      noBurstDone := h.trg.noBurstDone ||| BitVec.ofNat 16 (2 ^ t) } }
    (h.showStandpipe).raise (80 + t) 3 [n, h.showStandpipe.fld TRG_SP_STAT_STATE]

/-- What a fire means for the bursts: the flags of its mark and its BURST_ID. -/
structure BurstOutcome where
  flags : MarkFlags := {}
  id : Nat := 0xFFFF
  deriving DecidableEq, Repr

/-- A frame belongs to the series before the one that the Standpipe records. -/
def ofOldSeries (h : Hub) (frame : Nat) : Bool := match h.sp.f0 with | some f => decide (frame < f) | none => false

/-- The burst of a fire in a frame of a series that has ended since covers no frame beyond it (R220). -/
def limitSeries (frame : Nat) (h : Hub) : Hub :=
  if h.ofOldSeries frame then h.limitBurst ((h.sp.f0.getD 1) - 1)
  else if h.cnv.series.isNone then h.limitBurst (h.cnv.taken - 1)
  else h

/-- A fire joins the open burst (R222). -/
def joinBurst (b : Burst) (t frame : Nat) (h : Hub) : BurstOutcome × Hub :=
  let need := frame + h.fld TRG_SP_DEPTH_POST - 1
  if !b.fixed && b.last < need && b.last == b.cap then ({ flags := { noBurst := true } }, h.noBurst t)
  else
    let last := if b.fixed then b.last else max b.last (min need b.cap)
    let capped := !b.fixed && decide (b.cap < need)
    let h : Hub := { h with sp := { h.sp with burst := some { b with last := last, ntrig := satAdd 65535 b.ntrig 1 } } }
    ({ flags := { extend := true, capped := capped, short := b.short }, id := b.id }, h.limitSeries frame)

/-- A burst opens at frame T (R221). -/
def openBurst (t frame : Nat) (m : MT) (h : Hub) : Hub :=
  let pre := h.fld TRG_SP_DEPTH_PRE
  let old := h.ofOldSeries frame
  let f0 := (if old then h.sp.f0Old else h.sp.f0).getD frame
  let s := max (max (frame - pre) f0) (match h.sp.lastEnd with | some e => e + 1 | none => 0)
  let e := frame + h.fld TRG_SP_DEPTH_POST - 1
  let short := decide (frame - s < pre)
  let b : Burst := { id := h.sp.nextId, trg := t, first := s, opener := frame, last := e, cap := e + 4 * pre, mt := m
                     ntrig := 1, short := short }
  let h : Hub := { h with sp := { h.sp with burst := some b, nextId := (h.sp.nextId + 1) % 65535 } }
  let h := (h.bump TRG_SP_CNT_BURSTS 1).put TRG_SP_STAT_BURST_ID b.id
  (if short then h.bump TRG_SP_CNT_SHORT 1 else h).limitSeries frame

/-- The burst a fire gets. `shared` is what an earlier fire of the same frame got: they share one burst (R215). -/
def burstOf (t frame : Nat) (m : MT) (shared : Option BurstOutcome) (h : Hub) : BurstOutcome × Hub :=
  if !h.flag (TRG_CFG_BURST_EN t) then ({}, h)
  else if !h.flag TRG_SP_CFG_EN || !h.runs (h.fld TRG_SP_CFG_STREAM) then ({ flags := { noBurst := true } }, h.noBurst t)
  else
    match h.sp.burst, shared with
    | some b, some o =>
      if o.flags.noBurst then (o, h.noBurst t)
      else (o, { h with sp := { h.sp with burst := some { b with ntrig := satAdd 65535 b.ntrig 1 } } })
    | some b, none => h.joinBurst b t frame
    | none, _ =>
      let e := h.sp.lastEnd
      let gone := match e with | some e => decide (frame ≤ e) || (h.sp.capped && decide (frame ≤ e + h.fld TRG_SP_DEPTH_PRE))
                               | none => false
      if gone then ({ flags := { noBurst := true } }, h.noBurst t)
      else
        let h := h.openBurst t frame m
        ({ flags := { short := (h.sp.burst.map Burst.short).getD false }, id := h.fld TRG_SP_STAT_BURST_ID }, h)

/-! ### Emission (R225-R227) -/

/-- A container of the Standpipe; one that was never written is FILL with value 0 (R218). -/
def spCont (f : SpFrame) (c : Nat) : Cont :=
  match SMap.find? f.conts c with
  | some w => .sample (signed 24 (w.toNat / 256)) (w.toNat / 32 % 8)
  | none => .sample 0 qFill

/-- BURST_OPEN (R226). -/
def burstOpenRecord (h : Hub) (b : Burst) : List Word :=
  markWord 4 b.trg { short := b.short } b.id ::
    (wide b.mt.pack ++ [b.first % 65536 * 65536 + b.opener % 65536,
      (b.opener - b.first) % 65536 * 65536 + h.fld TRG_SP_DEPTH_PRE,
      h.fld TRG_SP_DEPTH_POST * 65536 + h.fld TRG_SP_STAT_NCH]).map (BitVec.ofNat 32)

/-- BURST_CLOSE (R227). -/
def burstCloseRecord (b : Burst) : List Word :=
  [markWord 5 b.trg { short := b.short, capped := b.last == b.cap && b.closed != some 3 } b.id,
   BitVec.ofNat 32 (b.last % 65536 * 65536 + b.ntrig), BitVec.ofNat 32 (b.last + 1 - b.first),
   BitVec.ofNat 32 (b.closed.getD 0 * 65536)]

/-- The next frame of a burst goes to the burst stream, after its BURST_OPEN where it is the first. Answers the burst as it
goes on. -/
def emitFrame (b : Burst) (h : Hub) : Burst × Hub :=
  let s := h.fld TRG_SP_CFG_STREAM
  let h := if b.emit.isNone then h.produceRecord s b.mt (h.burstOpenRecord b) else h
  let f := b.emit.getD b.first
  let b' : Burst := { b with emit := some (f + 1) }
  match SMap.find? h.sp.frames f with
  | none => (b', h)
  | some x =>
    let cs := ((List.range 512).filter h.spSelects).map (spCont x)
    (b', h.produceSet s { fmt := fmtS32, mt := h.mtAt x.tick, slot := x.tick, setw := cs.length, cad := x.cad
                          follows := b.emit.isSome, hold := x.holdover, re := x.reanchor, conts := cs })

/-- The burst at the head of the queue has been emitted to its end: its BURST_CLOSE follows, and with nothing left to emit a stop of
the stream has had its last set (R225, R256). -/
def emitClose (b : Burst) (rest : List Burst) (h : Hub) : Hub :=
  let s := h.fld TRG_SP_CFG_STREAM
  (({ h with sp := { h.sp with queue := rest } } : Hub).produceRecord s b.mt (burstCloseRecord b)).settleStop s

/-- Emission for one frame period: one frame of the oldest burst, and its BURST_CLOSE after its last (R225). -/
def emitBurst (h : Hub) : Hub :=
  match h.sp.queue with
  | b :: rest =>
    let (b', h) := h.emitFrame b
    if b.last < b'.emit.getD 0 then h.emitClose b rest
    else { h with sp := { h.sp with queue := b' :: rest } }
  | [] =>
    match h.sp.burst with
    | some b =>
      if b.last < (b.emit.getD b.first) then h else
      let (b', h) := h.emitFrame b
      { h with sp := { h.sp with burst := some b' } }
    | none => h

/-- A burst whose frames have all been emitted while it was open gets its BURST_CLOSE once it has closed. -/
def finishEmission (h : Hub) : Hub :=
  match h.sp.queue with
  | b :: rest =>
    if b.last < b.emit.getD 0 then h.emitClose b rest else h
  | [] => h

/-! ### The evaluation of a frame -/

/-- The mark of a fire goes to the service stream and to the trigger's mark stream (R216). -/
def sendMark (t : Nat) (m : MT) (ws : List Word) (h : Hub) : Hub :=
  let h := h.produceRecord 0 m ws
  let s := h.fld (TRG_CFG_MARK_STREAM t)
  if s = 0 then h else h.produceRecord s m ws

/-- One fire of a frame with the shared MT: its burst, its mark, its counts (R215-R217, R221, R222). -/
def takeFire (w : Window) (m : MT) (coarse : Bool) (f : Fire) (shared : Option BurstOutcome) (h : Hub) : Option BurstOutcome × Hub :=
  let (o, h) := h.burstOf f.trg w.frame m shared
  let shared := if h.flag (TRG_CFG_BURST_EN f.trg) then some o else shared
  let flags : MarkFlags := { o.flags with
    forced := f.forced, frameRes := (f.fine.isNone && !f.forced) || coarse, laterEdge := f.later }
  let h := h.sendMark f.trg m (markRecord 1 f.trg flags o.id m (w.frame % 65536 * 65536 + f.bit))
  let h := h.bump (TRG_FIRE_CNT_FIRES f.trg) 1
  if h.flag (TRG_CFG_ONESHOT f.trg) then
    let off (x : Window) : Window := { x with armed := x.armed &&& ~~~BitVec.ofNat 16 (2 ^ f.trg) }
    let h := h.disarmTrigger 3 f.trg
    (shared, { h with trg := { h.trg with window := h.trg.window.map off, closedWin := h.trg.closedWin.map off } })
  else (shared, h)

/-- The shared MT of the fires of a frame: the earliest time, where a frame-resolution or forced one counts as the tick
(R215). -/
def sharedTime (h : Hub) (w : Window) (fs : List Fire) : MT :=
  let offs := fs.map fun f => f.fine.getD 0
  let o := offs.foldl min (offs.headD 0)
  { h.mtAt (w.tick + (o / 1024 : Nat)) with fine := o % 1024 }

/-- The frame period in slots, that of the last series where none runs. -/
def framePeriod (h : Hub) : Nat := if h.cnv.series.isSome then h.fld CNV_FRAME_PERIOD_SLOTS else h.cnv.lastPeriod

/-- The oldest frame that has not been evaluated is evaluated, no earlier than 800 ns after its tick (R206). -/
def evaluate (h : Hub) : Hub :=
  match h.trg.closedWin with
  | [] => h
  | w :: _ =>
    let h := h.advanceTo (w.tick + h.slots800ns)
    let v := h.stateVector w
    let fs := h.firesOf w
    let mask := fs.foldl (fun n f => n + 2 ^ f.trg) 0
    let matched := (List.range 16).foldl (fun (n : Nat) t =>
      if w.armed.getLsbD t && patternMatches v (windowPattern w t) then n + 2 ^ t else n) 0
    let h : Hub := { h with trg := { h.trg with
      closedWin := h.trg.closedWin.drop 1, lastEval := some w.frame, prevVec := v
      prevMatch := BitVec.ofNat 16 matched
      fireEnds := fs.foldl (fun (m : SMap Nat) f => SMap.insert m f.trg (h.mt.clock + h.framePeriod)) h.trg.fireEnds } }
    let h := h.put TRG_STAT_FIRED mask
    let h := (List.range 16).foldl (fun (h : Hub) t => h.countAuto w (bit mask t) t) h
    let m := h.sharedTime w fs
    let coarse := decide (2 ≤ fs.length) && fs.any fun f => f.fine.isNone
    let h := (fs.foldl (fun (p : Option BurstOutcome × Hub) f => p.2.takeFire w m coarse f p.1) (none, h)).2
    let h := match h.sp.burst with
      | some b => if b.last ≤ w.frame then h.closeBurst else h
      | none => h
    (h.finishEmission.emitBurst).showStandpipe

/-- Auto mode fires a trigger in the oldest frame not evaluated. -/
def forcedNext (h : Hub) (t : Nat) : Bool :=
  match h.trg.closedWin with
  | [] => false
  | w :: _ => match h.firesIn w (h.stateVector w) t with | some f => f.forced | none => false

/-- The oldest frame not evaluated is the last of the open burst. -/
def closesNext (h : Hub) : Bool :=
  match h.trg.closedWin, h.sp.burst with
  | w :: _, some b => b.last == w.frame
  | _, _ => false

/-- Re-arming is complete once frame E + PRE is recorded (R223). -/
def rearm (h : Hub) : Hub :=
  match h.sp.rearmTo with
  | none => h
  | some r =>
    match SMap.find? h.sp.frames r with
    | none => h
    | some f =>
      let h := h.advanceTo (f.tick + h.slots800ns)
      ({ h with sp := { h.sp with rearmTo := none } } : Hub).showStandpipe

/-- The grid instance at which the next tick of the ended series would have fallen: first its last window closes (R123, R206);
the later ones pace the emission of bursts (R225). -/
def gridInstance (h : Hub) : Hub :=
  match h.cnv.series, h.cnv.gridNext with
  | none, some g =>
    let h := h.advanceTo g
    if h.cnv.series.isSome then h else
    let h : Hub := { h with cnv := { h.cnv with gridNext := some (g + h.cnv.lastPeriod) } }
    if h.framesCount then h.finishEmission.emitBurst else h
  | _, _ => h.endSeries

/-! ### Inputs and trips -/

/-- A TRIG_IN ball is sampled (R205). -/
def trigIn (i : Nat) (high : Bool) (h : Hub) : Hub :=
  let was := bit (h.fld TRG_TRIG_IN_LEVEL) i
  let h := h.put TRG_TRIG_IN_LEVEL (putBit (h.fld TRG_TRIG_IN_LEVEL) i high)
  match h.trg.window with
  | none => h
  | some w =>
    let b := BitVec.ofNat 16 (2 ^ i)
    -- the level at the tick, which the window began with, is this sample
    if !high then
      if w.tick = h.now then
        { h with trg := { h.trg with window := some { w with trigIn := w.trigIn &&& ~~~b, trigRose := w.trigRose &&& ~~~b } } }
      else h
    else
    { h with trg := { h.trg with window := some { w with
      trigIn := w.trigIn ||| b, trigRose := if was then w.trigRose else w.trigRose ||| b } } }

/-- The vote of TRIP[n] reaches K (R231): the latch sets and the carrier stops. Within the slot the instant is a free value,
which the record names to 5 ns (R237). -/
def trip (n flag : Nat) (h : Hub) : Hub :=
  if !h.tripCond n || !h.evaluatesTrips || h.flag (TRG_TRIP_STAT_LATCHED n) then h else
  let h := ((h.put (TRG_TRIP_STAT_LATCHED n) 1).put (TRG_TRIP_STAT_PERMIT n) 0).bump (TRG_TRIP_STAT_TRIPS n) 1
  let h : Hub := { h with trg := { h.trg with starting := h.trg.starting &&& ~~~BitVec.ofNat 16 (2 ^ n) } }
  let h := (h.put (TRG_TRIP_FIRST_FLAG n) flag).put (TRG_TRIP_FIRST_VALID n) 1
  let m : MT := if h.mt.anchored then { h.mtNow with fine := Config.fineNow h.fresh % 1024 } else {}
  (h.raiseAt m (96 + n) 1 [flag, h.tripVotes n]).tick

/-- 1 µs of evaluation has found the condition of TRIP[n] false: its carrier starts (R233). -/
def permit (n : Nat) (h : Hub) : Hub :=
  if !h.trg.permitDue.getLsbD n || h.tripCond n || h.flag (TRG_TRIP_STAT_LATCHED n) then h else
  let h : Hub := { h with trg := { h.trg with permitDue := h.trg.permitDue &&& ~~~BitVec.ofNat 16 (2 ^ n) } }
  h.startCarrier n

/-! ### Register commands -/

/-- A write of TRG.ARM: held for the slot boundary, or the first anchor (R209, R481). -/
def writeArm (arm disarm : Nat) (h : Hub) : Hub :=
  { h with trg := { h.trg with armDue := h.trg.armDue ++ [(arm % 65536, disarm % 65536)] } }

/-- The words of a staged register array of trigger `t`. -/
def stagedVector (h : Hub) (f : Nat → Nat → Nat) (t : Nat) : Nat :=
  (List.range 19).foldl (fun n w => n + (h.reg (f t w)).toNat * 2 ^ (32 * w)) 0

/-- A write of TRG.PAT_COMMIT (R236): the staged pattern waits for the next tick; refused with BUSY while one waits. -/
def commitPattern (t : Nat) (h : Hub) : Hub :=
  let h := (h.put TRG_PAT_STATUS_TRG t).put TRG_PAT_COMMIT_TRG t
  if h.trg.patDue.isSome then h.put TRG_PAT_STATUS_RESULT 1
  else
    let p := (t, h.stagedVector TRG_MASK t, h.stagedVector TRG_VALUE t)
    { (h.put TRG_PAT_STATUS_RESULT 0).put TRG_PAT_STATUS_PENDING 1 with trg := { h.trg with patDue := some p } }

end Hub

def execTrigIn (input : Nat) (high : Bool) (s : State) : Host.Outcome State Fault Refusal := s.onHub (Hub.trigIn input high)
def execTriggerEvaluation (s : State) : Host.Outcome State Fault Refusal := s.onHub Hub.evaluate
def execForcedFire (trg : Nat) (s : State) : Host.Outcome State Fault Refusal :=
  s.onHub fun h => if h.forcedNext trg then h.evaluate else h
def execBurstClose (s : State) : Host.Outcome State Fault Refusal :=
  s.onHub fun h => if h.closesNext then h.evaluate else h
def execStandpipeRearm (s : State) : Host.Outcome State Fault Refusal := s.onHub Hub.rearm
def execTrgArm (path : Path) (mask : Nat) (s : State) : Host.Outcome State Fault Refusal :=
  s.onHub (Hub.writeCmd path TRG_ARM .LV fun h => some (h.writeArm mask 0))
def execTrgDisarm (path : Path) (mask : Nat) (s : State) : Host.Outcome State Fault Refusal :=
  s.onHub (Hub.writeCmd path TRG_ARM .LV fun h => some (h.writeArm 0 mask))
def execPatCommit (path : Path) (trg : Nat) (s : State) : Host.Outcome State Fault Refusal :=
  s.onHub (Hub.writeCmd path TRG_PAT_COMMIT .LV fun h => some (h.commitPattern trg))
def execTripped (trip flag : Nat) (s : State) : Host.Outcome State Fault Refusal := s.onHub (Hub.trip trip flag)
def execTripClr (path : Path) (mask : Nat) (s : State) : Host.Outcome State Fault Refusal :=
  s.onHub (Hub.writeCmd path TRG_TRIP_CLR .LV fun h => some (h.clearTrips 0 mask))
def execPermit (trip : Nat) (s : State) : Host.Outcome State Fault Refusal := s.onHub (Hub.permit trip)
def execSeriesEndGridInstance (s : State) : Host.Outcome State Fault Refusal := s.onHub Hub.gridInstance

end Sys2Proof.Machine
end

