-- ==== Sys2Proof/Machine/RegAccess.lean ====
section
/-!
DEFINITION. Register access over the four paths (R11, R12, R332, R413-R415): what a write of any register does, and what a read
of any register answers.
-/

namespace Sys2Proof.Machine

/-- The paths as numbers, for the latches of R332. -/
def pathCode : Path → Nat
  | .mc => 0 | .downlink => 1 | .ethernet => 2 | .jtag => 3

/-- The index of an address in an array of `n` registers from `base` with a stride. -/
def indexIn (base stride n a : Nat) : Option Nat :=
  if base ≤ a ∧ (a - base) % stride = 0 ∧ (a - base) / stride < n then some ((a - base) / stride) else none

/-- What became of a write that is refused under R12, or not. -/
def taken (h : Hub) (o : Option Hub) : Bool × Hub :=
  match o with
  | some h' => (true, h')
  | none => (false, h)

namespace Hub

/-! ### Writes -/

/-- The value a register takes from a write, over what was written last (R12). -/
def mergedAt (h : Hub) (a : Nat) (v : Word) : Word :=
  match cardOf a with
  | some c => h.merged c (h.written a) v
  | none => v

/-- A live write that waits for the next frame tick (R3). -/
def stageWrite (a : Nat) (v : Word) (h : Hub) : Bool × Hub := (true, h.stage a (h.mergedAt a v))

/-- A live write that takes effect at once: staging areas, and operands of a command. -/
def storeWrite (a : Nat) (v : Word) (h : Hub) : Bool × Hub := (true, h.setReg a (h.mergedAt a v))

/-- Writes to the AFE block (R75, R83, R98, R102). -/
def writeAfe (a : Nat) (v : Word) (h : Hub) : Bool × Hub :=
  let o := a - 0x20000
  let n := v.toNat
  if o < 0x0800 then h.writeCellCfg (o / 4) v
  else if o < 0x1000 then
    let c := (o - 0x0800) / 4
    if signed 8 ((AFE_CMP_TH_TH_HI c).get v) ≤ signed 8 ((AFE_CMP_TH_TH_LO c).get v) then
      (false, h.groupEvent (c / 16) 0x0A (c % 16) [o, n])
    else h.stageWrite a v
  else if o < 0x2800 then
    let c := (o - 0x2000) / 4
    if h.toneRuns c then (true, h.setCell c { h.cell c with baseDue := some (h.mergedAt a v) })
    else h.stageWrite a v
  else if o < 0x6080 then h.stageWrite a v
  else if o < 0x6200 then (true, h.requestClear ((o - 0x6180) / 4) (bits n 15 0))
  else if o < 0x6280 then (true, h.requestZero ((o - 0x6200) / 4) (bits n 15 0))
  else (true, h.requestCapture ((o - 0x6280) / 4) (bits n 15 0))

/-- Writes to the CNV block (R115, R116, R129). -/
def writeCnv (a : Nat) (v : Word) (h : Hub) : Bool × Hub :=
  let n := v.toNat
  match indexIn (CNV_SPARE_FIX 0) 4 32 a, indexIn (CNV_CH_CFG 0) 4 512 a with
  | some g, _ => taken h (h.fixSpare g (bit n 4) (bits n 3 0))
  | _, some c => if bits n 1 0 ≠ 0 ∧ ¬ h.flag (CNV_CH_CFG_ILK c) then (false, h) else h.stageWrite a v
  | none, none =>
    if a = CNV_MAP_COMMIT then (true, h.commitMap (bits n 3 0))
    else if CNV_MAP_STAGE 0 ≤ a ∧ a ≤ CNV_MAP_STAGE 7 then h.storeWrite a v
    else h.stageWrite a v

/-- Writes to the SE block (R156, R157, R163). -/
def writeSe (a : Nat) (v : Word) (h : Hub) : Bool × Hub :=
  let n := v.toNat
  if a = SE_SWAP then taken h (if bit n 4 then h.requestSwap (bits n 3 0) else h.requestHandBack (bits n 3 0))
  else match indexIn (SE_BANK_SEL 0) 4 256 a with
    | some r => taken h (h.selectBank r (bits n 0 0))
    | none =>
      if a < SE_DT_CFG 0 then h.stageWrite a v
      else if a < SE_DT_TH_HI 0 then taken h (h.writeDt .cfg ((a - SE_DT_CFG 0) / 4) v)
      else if a < SE_DT_TH_LO 0 then taken h (h.writeDt .hi ((a - SE_DT_TH_HI 0) / 4) v)
      else taken h (h.writeDt .lo ((a - SE_DT_TH_LO 0) / 4) v)

/-- Writes to the FI block (R170, R200). -/
def writeFi (a : Nat) (v : Word) (h : Hub) : Bool × Hub :=
  if a = FI_LASER then taken h (h.writeLaser (bit v.toNat 0)) else taken h (h.writeGauge (a == FI_TRACK) v)

/-- Writes to the TRG block (R209, R232, R236). -/
def writeTrg (a : Nat) (v : Word) (h : Hub) : Bool × Hub :=
  let n := v.toNat
  if a = TRG_ARM then (true, h.writeArm (bits n 15 0) (bits n 31 16))
  else if a = TRG_PAT_COMMIT then (true, h.commitPattern (bits n 3 0))
  else if a = TRG_TRIP_CLR then (true, h.clearTrips 0 (bits n 15 0))
  else if 0x61000 ≤ a ∧ a < 0x63000 then h.storeWrite a v
  else h.stageWrite a v

/-- The roles of the uplink lanes as the lane map gives them; in TEST each shows TEST (R301). -/
def showLaneRoles (h : Hub) : Hub :=
  let logs := (List.range 4).map h.logOf
  (List.range 5).foldl (fun (h : Hub) k =>
    h.put (WL_LANE_STAT_ROLE k)
      (if h.linkState = 8 then 4 else if logs.contains k then 1 else if h.fld WL_LANE_MAP_SPARE = k then 2 else 3)) h

/-- A write of WL.TEST (R278, R301): the link enters TEST, or returns to the state it left; the errors counted while RX_PRBS was
set stand. -/
def writeTest (v : Word) (h : Hub) : Hub :=
  let n := v.toNat
  let h := if h.flag WL_TEST_RX_PRBS && !bit n 1 then
      ((List.range 2).foldl (fun (h : Hub) j =>
        h.put (WL_RX_PRBS_ERR_ERRORS j) (min 0xFFFFFFFF (Config.prbsErrors j h.fresh))) h).tick
    else h
  let h := (h.put WL_TEST_RX_PRBS (bits n 1 1)).put WL_TEST_TX_PRBS (bits n 0 0)
  if bit n 0 && h.linkState != 8 && h.linkState != 0 then
    (({ h with wl := { h.wl with before := h.linkState } } : Hub).setLink 8).showLaneRoles
  else if !bit n 0 && h.linkState == 8 then (h.setLink h.wl.before).showLaneRoles
  else h

/-- Writes to the DMA block (R339, R341, R343, R356). -/
def writeDma (p : Path) (a : Nat) (v : Word) (h : Hub) : Bool × Hub :=
  let n := v.toNat
  match indexIn (DMA_CH_CMD 0) 4 32 a with
  | some c =>
    if (p != .mc && !(decide (24 ≤ c) && decide (c ≤ 27))) || bits n 29 28 == 3 then (false, h) else
    let h := match bits n 29 28 with
      | 1 => h.setIgnore c true
      | 2 => h.setIgnore c false
      | _ => h
    let h := if bit n 30 then h.abortChan c else h
    (true, if bit n 31 then h.startChan c (if bit n 12 then some (bits n 10 0) else none) else h)
  | none =>
    if a = DMA_DUMP_W1 ∧ bit n 31 then taken h (h.startDump (h.reg DMA_DUMP_W0).toNat (bits n 15 0 + 1))
    else if a = DMA_DUMP_W1 then (true, h.put DMA_DUMP_WORDS_M1 (bits n 15 0))
    else h.storeWrite a v

/-- A value that the card of a register of the PMC block refuses: a code or a number it does not have (R353-R355). -/
def pmcRefused (a : Nat) (v : Word) : Bool :=
  if a = PMC_WINDOW then PMC_WINDOW_US.get v == 0
  else if a = PMC_SAMPLE_CFG then
    let k := PMC_SAMPLE_CFG_LOG2_PERIOD.get v
    k < 8 || 40 < k || 16 < PMC_SAMPLE_CFG_ENGINE.get v || 191 < PMC_SAMPLE_CFG_COUNTER.get v
  else (List.range 8).any fun f => a == PMC_FILT_W0 f && (PMC_FILT_PRIV f).get v == 3

/-- Writes to the PWR block (R450, R453, R454). -/
def writePwr (a : Nat) (v : Word) (h : Hub) : Bool × Hub :=
  if a = PWR_FEED_TEST then (true, h.writeFeedTest v)
  else if a = PWR_DOM_CTL_W0 then taken h (h.writeDomCtl 0 v)
  else if a = PWR_DOM_CTL_W1 then taken h (h.writeDomCtl 1 v)
  else if a = PWR_QUIESCE then taken h (h.writeQuiesce v)
  else h.storeWrite a v

/-- A write of TWN.SWAP (R440, R442). -/
def writeSwap (v : Word) (h : Hub) : Hub :=
  let h := if bit v.toNat 31 then h.twinSwap else h
  if bit v.toNat 30 then h.abortSwap else h

/-- A write that its access codes permit, to the register at `a`: whether it is taken, and its effect. -/
def liveWrite (p : Path) (a : Nat) (v : Word) (h : Hub) : Bool × Hub :=
  let n := v.toNat
  match a / 0x10000 with
  | 1 => if a = MT_TT_COMMIT then h.ttCommit (bits n 9 0) else h.storeWrite a v
  | 2 => h.writeAfe a v
  | 3 => h.writeCnv a v
  | 4 => h.writeSe a v
  | 5 => h.writeFi a v
  | 6 => h.writeTrg a v
  | 7 => if a = CIS_FLUSH then taken h (h.requestFlush (bits n 6 0)) else taken h (h.streamCtl (bits n 6 0) (bit n 8))
  | 8 => if a = SIP_HIST_COMMIT then (true, h.histCommit (bits n 6 0)) else h.storeWrite a v
  | 9 => (true, h.writeTest v)
  | 10 =>
    let h := if bit n 0 then h.ackAsym else h
    (true, if bit n 1 then h.askRebase else h)
  | 11 => h.writeDma p a v
  | 12 => if p = .mc then (true, h.clearPend ((a - EVT_PEND 0) / 4) v) else (false, h)
  | 13 => if pmcRefused a v then (false, h) else h.stageWrite a v
  | 14 => if a = CAL_VISIT then taken h (h.writeVisit (bits n 8 0)) else h.stageWrite a v
  | 15 => if a = BOOT_UPD_CTRL then (true, h.writeUpdCtrl v) else h.storeWrite a v
  | 16 => (true, h.writeSwap v)
  | _ => h.writePwr a v

/-- A write of the management cores to a memory window (R326); descriptors 1920-2047 belong to the image. -/
def writeMem (a : Nat) (v : Word) (h : Hub) : Outcome × Hub :=
  match regionOf a with
  | some r =>
    if mcWrites r && a % 4 == 0 && h.memOn ((memOf a).getD 22) && decide (a < descAt 1920) then (.done, h.setMemWords a [v])
    else (.badAddr, h)
  | none => (.badAddr, h)

/-- A write over a path to any address (R11, R12, R326, R413, R415). -/
def writeAny (p : Path) (a : Nat) (v : Word) (h : Hub) : Outcome × Hub :=
  match h.pathWrites p with
  | .done =>
    if p = .mc ∧ 0x40000000 ≤ a then h.writeMem a v else
    match cardOf a with
    | none => (.badAddr, h)
    | some c =>
      if h.writeMask c = 0 then (.locked, h)
      else if a = DEV_LC_REQ then
        if h.lcAllowed v then (.done, (h.changeLc v (Config.fuseBurns h.fresh)).tick) else (.badState, h)
      else
        let (ok, h) := h.liveWrite p a v
        (if ok then .done else .locked, h)
  | o => (o, h)

/-! ### Reads -/

/-- The value behind a two-half register, by the address of its low half. -/
def halfValue (h : Hub) (a : Nat) : Option Nat :=
  if a = MT_NOW_LO then some h.mtNow.pack
  else if a = FT_NOW_LO then some h.ftStamp
  else if a = FT_LT_LO then some h.lt
  else if a = TWN_CKPT_MT_LO then some ((h.reg TWN_CKPT_MT_LO).toNat + (h.reg TWN_CKPT_MT_HI).toNat * 2 ^ 32)
  else match indexIn (AFE_QCUM_LO 0) 16 512 a, indexIn (PMC_CNT_LO 0) 16 192 a with
    | some c, _ => some (unsigned 48 ((h.cell c).qacc / (2 ^ 22 : Nat)) + ofBool (h.cell c).inexact * 2 ^ 63)
    | _, some i => some (h.counterValue i)
    | none, none => none

/-- The history of a stream, by the address of its word 0. -/
def histValue (h : Hub) (a : Nat) : Option Nat := (indexIn (SIP_HIST_W0 0) 16 128 a).map fun s => (h.ring s).hist.toNat

def latchKey (p : Path) (a : Nat) : Nat := pathCode p * 2 ^ 32 + a

def setLatch (p : Path) (a v : Nat) (h : Hub) : Hub :=
  { h with latch := SMap.set (fun _ => 0) h.latch (latchKey p a) (BitVec.ofNat 32 v) }

/-- A read of a register of the two-half rule over a path (R332): the low half latches the high one and advances SNAP; the other
two answer the path's latch and its count. None for other registers. -/
def readHalf (p : Path) (a : Nat) (h : Hub) : Option (Word × Hub) :=
  match h.halfValue a, h.histValue a with
  | some v, _ =>
    let k := latchKey p a
    let h : Hub := { h with snap := SMap.set (fun _ => 0) h.snap k ((SMap.get (fun _ => 0) h.snap k + 1) % 256) }
    some (BitVec.ofNat 32 v, h.setLatch p (a + 4) (v / 2 ^ 32))
  | _, some v =>
    some (BitVec.ofNat 32 v, ((h.setLatch p (a + 4) (v / 2 ^ 32)).setLatch p (a + 8) (v / 2 ^ 64)).setLatch p (a + 12) (v / 2 ^ 96))
  | none, none =>
    if (h.halfValue (a - 4)).isSome || (h.histValue (a - 4)).isSome || (h.histValue (a - 8)).isSome
        || (h.histValue (a - 12)).isSome then
      some (SMap.get (fun _ => 0) h.latch (latchKey p a), h)
    else if (h.halfValue (a - 8)).isSome then
      some (BitVec.ofNat 32 (SMap.get (fun _ => 0) h.snap (latchKey p (a - 8))), h)
    else none

/-- A register word with a field shown. -/
def shown (h : Hub) (f : Fld) (v : Nat) : Word := f.put (h.reg f.addr) (min (2 ^ f.width - 1) v)

/-- Time since a moment in µs. -/
def sinceUs (h : Hub) (t : Nat) : Nat := if t = 0 then 0 else (h.lt - t) / 1000

/-- What a register reads as: order registers read 0; those that show state held elsewhere are formed from it; the others hold
their value. -/
def view (h : Hub) (a : Nat) : Word :=
  if orderReg a then 0 else
  match a / 0x10000 with
  | 1 =>
    match indexIn (MT_TT_ENTRY 0 0) 4 4096 a with
    | some i => BitVec.ofNat 32 ((h.entry (i / 4)).raw.toNat / 2 ^ (32 * (i % 4)))
    | none => h.reg a
  | 2 =>
    match indexIn (AFE_EXC_STAT 0) 4 32 a, indexIn (AFE_CELL_STAT 0) 4 512 a with
    | _, some c => if h.switchedOut c then h.shown (AFE_CELL_STAT_FROZEN c) 1 else h.reg a
    | some g, _ =>
      h.shown (AFE_EXC_STAT_LOAD g)
        (if !h.flag (AFE_EXC_CFG_EN g) || !h.afePowered g then 0
         else if h.flag (AFE_EXC_STAT_LIMIT g) then h.fld (AFE_EXC_STAT_LOAD g) else Config.excLoad g h.fresh % 65536)
    | none, none => h.reg a
  | 4 =>
    match indexIn (SE_ENG_STAT 0) 4 17 a, indexIn (SE_RECIPE_STAT 0) 4 256 a, indexIn (SE_DT_FLAGS 0) 4 16 a with
    | some e, _, _ => h.shown (SE_ENG_STAT_LOAD e) (Config.engineLoad e h.fresh % 1024)
    | _, some r, _ => h.shown (SE_RECIPE_STAT_SETTLE_LEFT r) (h.settleLeft r)
    | _, _, some w => BitVec.ofNat 32 (h.se.dt.toNat / 2 ^ (32 * w))
    | none, none, none => h.reg a
  | 6 =>
    if a = TRG_SP_INFO then BitVec.ofNat 32 h.spDepth else
    match indexIn (TRG_TRIP_STAT 0) 4 16 a with
    | some n =>
      let w := (TRG_TRIP_STAT_ACTIVE n).put (h.shown (TRG_TRIP_STAT_COND n) (ofBool (h.tripCond n))) (h.tripVotes n)
      (TRG_TRIP_STAT_PERMIT n).put ((TRG_TRIP_STAT_DRIVEN n).put w (ofBool (h.tripDriven n))) (ofBool (h.tripRuns n))
    | none => h.reg a
  | 9 =>
    match indexIn (WL_RX_PRBS_ERR 0) 4 2 a with
    | some j => if h.flag WL_TEST_RX_PRBS then BitVec.ofNat 32 (min 0xFFFFFFFF (Config.prbsErrors j h.fresh)) else h.reg a
    | none => h.reg a
  | 11 =>
    if a = DMA_FABRIC then
      BitVec.ofNat 32 (Config.inFlight 0 h.fresh % 97 + Config.inFlight 1 h.fresh % 97 * 65536)
    else h.reg a
  | 12 =>
    if a = EVT_QUEUE then BitVec.ofNat 32 (h.evt.merged * 65536 + h.evt.queue.length) else
    match indexIn (EVT_PEND 0) 4 8 a, indexIn (EVT_COUNT 0) 4 256 a with
    | some w, _ => BitVec.ofNat 32 (h.evt.pend.toNat / 2 ^ (32 * w))
    | _, some n => BitVec.ofNat 32 (SMap.get (fun _ => 0) h.evt.total n * 256 + SMap.get (fun _ => 0) h.evt.extra n)
    | none, none => h.reg a
  | 14 =>
    match indexIn (CAL_GRP_AGE 0) 4 32 a, indexIn (CAL_CELL_STAT 0) 4 544 a with
    | some g, _ => BitVec.ofNat 32 (min 0xFFFFFFFF (max (h.ageS itemRef g) (h.ageS itemExc g)))
    | _, some n => h.shown (CAL_CELL_STAT_AGE_S n) (h.ageS itemCoef n)
    | none, none =>
      if a = CAL_FIBRE_STAT_W0 then
        BitVec.ofNat 32 (min 0xFFFFFFFF ((List.range 4).foldl (fun m k => max m (h.ageS itemSkew k)) 0))
      else if a = CAL_FIBRE_STAT_W1 then
        BitVec.ofNat 32 (min 0xFFFFFFFF ((List.range 2).foldl (fun m k => max m (h.ageS itemIq k)) 0))
      else h.reg a
  | 16 => if a = TWN_CKPT_STAT_W1 then BitVec.ofNat 32 (min 0xFFFFFFFF (h.sinceUs h.twn.doneAt)) else h.reg a
  | 17 =>
    if a = PWR_POWER then BitVec.ofNat 32 (Config.power 0 h.fresh % 65536 * 65536 + Config.power 1 h.fresh % 65536) else h.reg a
  | _ => h.reg a

/-- A path reaches the registers for a read: as for a write, and over Ethernet from the end of step 3 on (R399, R413). -/
def pathReads (h : Hub) (p : Path) : Outcome :=
  match p with
  | .ethernet => if h.bootStep < 4 || 8 ≤ h.bootStep then .unreachable else .done
  | p => h.pathWrites p

/-- A read of the register at `a` over a path. -/
def readAny (p : Path) (a : Nat) (h : Hub) : Outcome × Word × Hub :=
  match h.pathReads p with
  | .done =>
    match cardOf a with
    | none => (.badAddr, 0, h)
    | some _ =>
      match h.readHalf p a with
      | some (v, h) => (.done, v, h)
      | none => (.done, h.view a, h)
  | o => (o, 0, h)

/-! ### JTAG (R414) -/

/-- Update-DR with REG_ACCESS in force and GO: the access is done, and its status stands in the TAP. -/
def tapAccess (write : Bool) (a : Nat) (v : Word) (h : Hub) : Hub :=
  if h.lc == 2 || h.lc == 4 then h.tapBypass else
  let (o, r, h) := if write then (let (o, h) := h.writeAny .jtag a v; (o, h.boot.tap.data, h)) else h.readAny .jtag a
  let status := match o with | .done => 0 | .badAddr => 3 | _ => 2
  let h := h.report .jtag o a write
  h.putTap { h.boot.tap with ir := 0x10, status := status, addr := a, data := r }

end Hub

/-- REGISTER_WRITE (R12): a write over a path to a register with no row of its own. -/
def execRegisterWrite (path : Path) (addr : Nat) (value : Word) (s : State) : Host.Outcome State Fault Refusal :=
  s.onHub fun h =>
    let (o, h) := h.writeAny path addr value
    h.report path o addr true

/-- REG_ACCESS (R414). -/
def execRegAccess (write : Bool) (addr : Nat) (data : Word) (s : State) : Host.Outcome State Fault Refusal :=
  s.onHub (Hub.tapAccess write addr data)

end Sys2Proof.Machine
end

