-- ==== Sys2Proof/Machine/LinkWords.lean ====
section
/-!
DEFINITION. The words that read and write registers: over the downlink (R291, R295), and in Ethernet COMMAND frames (R320, R321).
-/

namespace Sys2Proof.Machine

/-- The commands a path keeps: TAG, ADDR and reply, newest first (R295). -/
abbrev Replies := List (Nat × Nat × BitVec 64)

/-- The reply to a command that repeats one of the last 16. -/
def replay (cache : Replies) (tag a : Nat) : Option (BitVec 64) :=
  (cache.find? fun e => e.1 == tag && e.2.1 == a).map fun e => e.2.2

/-- A command is kept with its reply. -/
def keep (cache : Replies) (tag a : Nat) (r : BitVec 64) : Replies := ((tag, a, r) :: cache).take 16

namespace Hub

/-- A READ (none) or WRITE (the data) of a path is executed: the reply with a NAK's `number` (DLSN or SEQ), and the log entry of a
refusal (R302). None where the path does not reach the registers at all. -/
def runAccess (p : Path) (source number tag a : Nat) (data : Option Word) (h : Hub) : Option (BitVec 64) × Hub :=
  let op := if data.isSome then 7 else 6
  let (o, v, h) := match data with
    | some v => (let (o, h) := h.writeAny p a v; (o, v, h))
    | none => h.readAny p a
  match o with
  | .done => (some (if data.isSome then replyWrite tag else replyRead tag v.toNat), h)
  | .unreachable => (none, h)
  | o => (some (replyNak tag o.nak number op), h.violation source o.nak op number a)

/-- A READ or WRITE word of the downlink (R295): one that repeats a TAG and ADDR of the last 16 is answered from the cache. -/
def linkAccess (tag a : Nat) (data : Option Word) (h : Hub) : WordResult × Hub :=
  match replay h.wl.cache tag a with
  | some r => ({ replies := [r] }, h)
  | none =>
    let (r, h) := h.runAccess .downlink 0 h.wl.dlsn tag a data
    match r with
    | some r => ({ replies := [r] }, { h with wl := { h.wl with cache := keep h.wl.cache tag a r } })
    | none => ({}, h)

/-- The command words of a downlink frame, executed in order (R291). -/
def runWords (h : Hub) : List (BitVec 64) → List (BitVec 64) × Hub
  | [] => ([], h)
  | w :: rest =>
    let n := w.toNat
    let op := bits n 63 56
    let low := bits n 31 0
    let tag := bits n 55 48
    let next (r : List (BitVec 64) × Hub) : List (BitVec 64) × Hub :=
      let (more, h) := runWords r.2 rest
      (r.1 ++ more, h)
    match op with
    | 0 => next (h.downlinkWord 0 op 0 fun h => ({}, h))
    | 1 => next (h.downlinkWord 0 op (bits n 55 49) (Hub.creditWord (bits n 55 49) low))
    | 2 => next (h.downlinkWord 0 op low (Hub.ackWord low))
    | 3 => next (h.downlinkWord 0 op low (Hub.retxWord low))
    | 4 => next (h.downlinkWord 0 op 0 fun h => ({}, h.laneStatus (bits n 55 51)))
    | 5 => next (h.downlinkWord 0 op (bits n 55 49) (Hub.flushWord (bits n 55 49)))
    | 6 => next (h.downlinkWord tag op low (Hub.linkAccess tag low none))
    | 7 =>
      match rest with
      | d :: rest =>
        let (r, h) := h.downlinkWord tag op low (Hub.linkAccess tag low (some (BitVec.ofNat 32 d.toNat)))
        let (more, h) := runWords h rest
        (r ++ more, h)
      | [] => h.downlinkWord tag op low fun h => ({ nak := some (0x0B, low) }, h)
    | 8 => next (h.downlinkWord 0 op (bits n 55 52) (Hub.prbsWord (bits n 55 52) low))
    | _ => next (h.downlinkWord 0 op 0 fun h => ({ nak := some (0x02, 0) }, h))

/-- A downlink frame with WORDS of its SOF and the CRC of its EOF (R284, R291): discarded whole with a bad CRC, or where its block count
disagrees with WORDS; else executed. -/
def downlinkFrame (count crc dlsn : Nat) (words : List (BitVec 64)) (h : Hub) : Hub :=
  let bytes := beBytes (words.flatMap fun w => (wide w.toNat).map (BitVec.ofNat 32))
  if !h.flag WL_STAT_DOWNLINK_OK then h else
  let h : Hub := { h with wl := { h.wl with dlsn := dlsn % 65536 } }
  if crc32c bytes ≠ crc then
    let (ws, h) := nakWord 0 0 ({ nak := some (0x01, 0) }, h.bump WL_CNT_DL_BAD_CRC 1)
    h.answer ws
  else if count != words.length || words.isEmpty || decide (64 < words.length) then
    let (ws, h) := nakWord 0 0 ({ nak := some (0x0B, 0) }, h)
    h.answer ws
  else
    let (ws, h) := ((h.bump WL_CNT_DL_FRAMES 1).tally 123 1).runWords words
    h.answer ws

/-! ### Ethernet (R320, R321) -/

/-- A NAK of the Ethernet path, and its log entry with SEQ in place of DLSN. -/
def ethNak (tag code op seq detail : Nat) (h : Hub) : List (BitVec 64) × Hub :=
  ([replyNak tag code seq op], h.violation 1 code op seq detail)

/-- A READ or WRITE word of a COMMAND frame, with this path's own cache. -/
def ethAccess (seq tag a : Nat) (data : Option Word) (h : Hub) : List (BitVec 64) × Hub :=
  match replay h.ft.cache tag a with
  | some r => ([r], h)
  | none =>
    let (r, h) := h.runAccess .ethernet 1 seq tag a data
    match r with
    | some r => ([r], { h with ft := { h.ft with cache := keep h.ft.cache tag a r } })
    | none => ([], h)

/-- The words of a COMMAND frame in order: NOP, READ and WRITE; the other words of R291 draw BAD_STATE. -/
def ethWords (seq : Nat) (h : Hub) : List (BitVec 64) → List (BitVec 64) × Hub
  | [] => ([], h)
  | w :: rest =>
    let n := w.toNat
    let op := bits n 63 56
    let low := bits n 31 0
    let tag := bits n 55 48
    let next (r : List (BitVec 64) × Hub) : List (BitVec 64) × Hub :=
      let (more, h) := ethWords seq r.2 rest
      (r.1 ++ more, h)
    match op with
    | 0 => ethWords seq h rest
    | 6 => next (h.ethAccess seq tag low none)
    | 7 =>
      match rest with
      | d :: rest =>
        let (r, h) := h.ethAccess seq tag low (some (BitVec.ofNat 32 d.toNat))
        let (more, h) := ethWords seq h rest
        (r ++ more, h)
      | [] => h.ethNak tag 0x0B op seq low
    | 1 | 2 | 3 | 4 | 5 | 8 => next (h.ethNak 0 0x0C op seq low)
    | _ => next (h.ethNak 0 0x02 op seq 0)

/-- A payload shorter than 46 bytes is padded with NOP words (R320). -/
def padNops (ws : List (BitVec 64)) : List (BitVec 64) := ws ++ List.replicate (6 - ws.length) 0

/-- A COMMAND frame arrives (R319-R321): the MAC drops a bad FCS, PEER a foreign sender; a header that fails is answered with one
NAK; else the words are executed and answered in one REPLY. -/
def commandFrame (f : EthFrame) (h : Hub) : Hub :=
  if !h.ethUp then h
  else if !f.fcsOk then h.bump FT_ETH_STAT_FCS 1
  else if !h.accepts f.dest then h
  else if h.peer ≠ 0 ∧ f.source ≠ h.peer then h.bump FT_ETH_STAT_FOREIGN 1
  else
    let (ws, h) :=
      if f.magic ≠ 0x4A ∨ f.version ≠ 1 ∨ f.kind ≠ 0 ∨ ¬ f.lengthOk then h.ethNak 0 0x0B 0 (f.seq % 65536) 0
      else h.ethWords (f.seq % 65536) f.words
    let out : EthOut := { dest := f.source, source := h.macAddress, tag := h.vlanTag
                          header := 0x4A * 2 ^ 24 + 2 ^ 20 + 2 ^ 16 + f.seq % 65536, words := padNops ws }
    { h with ft := { h.ft with reply := some out } }

end Hub

/-- READ (R295). -/
def execRead (tag addr : Nat) (s : State) : Host.Outcome State Fault Refusal :=
  s.onHub fun h =>
    let (ws, h) := h.downlinkWord tag 6 addr (Hub.linkAccess tag addr none)
    h.answer ws

/-- WRITE (R295). -/
def execWrite (tag addr : Nat) (data : Word) (s : State) : Host.Outcome State Fault Refusal :=
  s.onHub fun h =>
    let (ws, h) := h.downlinkWord tag 7 addr (Hub.linkAccess tag addr (some data))
    h.answer ws

/-- DOWNLINK_FRAME (R291). -/
def execDownlinkFrame (count crc dlsn : Nat) (words : List (BitVec 64)) (s : State) : Host.Outcome State Fault Refusal :=
  s.onHub (Hub.downlinkFrame count crc dlsn words)

/-- COMMAND (R321). -/
def execCommand (frame : EthFrame) (s : State) : Host.Outcome State Fault Refusal := s.onHub (Hub.commandFrame frame)

end Sys2Proof.Machine
end

