-- ==== Sys2Proof/Machine/Dispatch.lean ====
section
/-!
DEFINITION. One arm for each command: a direct call of its meaning.
-/

namespace Sys2Proof.Machine

def exec (i : Instr) (s : State) : Host.Outcome State Fault Refusal :=
  match i with
  | .revMarker slot => Sys2Proof.Machine.execRevMarker slot s
  | .flywheelWrap => Sys2Proof.Machine.execFlywheelWrap s
  | .mmsgWord word => Sys2Proof.Machine.execMmsgWord word s
  | .turnWord word => Sys2Proof.Machine.execTurnWord word s
  | .passToUnanchored => Sys2Proof.Machine.execPassToUnanchored s
  | .bclkMeasWindow freq => Sys2Proof.Machine.execBclkMeasWindow freq s
  | .bclkLost slots => Sys2Proof.Machine.execBclkLost slots s
  | .bclkRelock => Sys2Proof.Machine.execBclkRelock s
  | .frameTick entry => Sys2Proof.Machine.execFrameTick entry s
  | .launchTick entry trace => Sys2Proof.Machine.execLaunchTick entry trace s
  | .dtsLaunch entry trace => Sys2Proof.Machine.execDtsLaunch entry trace s
  | .quietWindow entry => Sys2Proof.Machine.execQuietWindow entry s
  | .triggerArm entry => Sys2Proof.Machine.execTriggerArm entry s
  | .triggerDisarm entry => Sys2Proof.Machine.execTriggerDisarm entry s
  | .streamStart entry => Sys2Proof.Machine.execStreamStart entry s
  | .streamStop entry => Sys2Proof.Machine.execStreamStop entry s
  | .userMark entry => Sys2Proof.Machine.execUserMark entry s
  | .checkpoint entry => Sys2Proof.Machine.execCheckpoint entry s
  | .ttOverflow => Sys2Proof.Machine.execTtOverflow s
  | .ttCommit path index => Sys2Proof.Machine.execTtCommit path index s
  | .ttCommitApply => Sys2Proof.Machine.execTtCommitApply s
  | .ttLateNow entry trace => Sys2Proof.Machine.execTtLateNow entry trace s
  | .onEventFire entry => Sys2Proof.Machine.execOnEventFire entry s
  | .onEventEnable entry => Sys2Proof.Machine.execOnEventEnable entry s
  | .onEventDisable entry => Sys2Proof.Machine.execOnEventDisable entry s
  | .onEventArm entry => Sys2Proof.Machine.execOnEventArm entry s
  | .onEventDisarm entry => Sys2Proof.Machine.execOnEventDisarm entry s
  | .onEventClearTrips entry => Sys2Proof.Machine.execOnEventClearTrips entry s
  | .onEventMark entry => Sys2Proof.Machine.execOnEventMark entry s
  | .cellCfgWrite path input value => Sys2Proof.Machine.execCellCfgWrite path input value s
  | .qcumZero path group mask => Sys2Proof.Machine.execQcumZero path group mask s
  | .excLimit group load => Sys2Proof.Machine.execExcLimit group load s
  | .excLimitEnd group => Sys2Proof.Machine.execExcLimitEnd group s
  | .excSenseOpen group mv => Sys2Proof.Machine.execExcSenseOpen group mv s
  | .senseRestored group => Sys2Proof.Machine.execSenseRestored group s
  | .stringOpen group mv => Sys2Proof.Machine.execStringOpen group mv s
  | .rrefBaseline group uv => Sys2Proof.Machine.execRrefBaseline group uv s
  | .comparatorCrossing input high rises fine => Sys2Proof.Machine.execComparatorCrossing input high rises fine s
  | .dipPeriodEnd input inPhase quad => Sys2Proof.Machine.execDipPeriodEnd input inPhase quad s
  | .dipCapture path group mask => Sys2Proof.Machine.execDipCapture path group mask s
  | .faultSuspect ball => Sys2Proof.Machine.execFaultSuspect ball s
  | .suspectClear ball => Sys2Proof.Machine.execSuspectClear ball s
  | .faultClr path group mask => Sys2Proof.Machine.execFaultClr path group mask s
  | .spareHandover group => Sys2Proof.Machine.execSpareHandover group s
  | .resultWord input urgent code => Sys2Proof.Machine.execResultWord input urgent code s
  | .mapCommit path adc => Sys2Proof.Machine.execMapCommit path adc s
  | .spareFix path group en input => Sys2Proof.Machine.execSpareFix path group en input s
  | .engineFail engine cause => Sys2Proof.Machine.execEngineFail engine cause s
  | .seTakeover => Sys2Proof.Machine.execSeTakeover s
  | .seSwap path engine => Sys2Proof.Machine.execSeSwap path engine s
  | .seHandBack path engine => Sys2Proof.Machine.execSeHandBack path engine s
  | .swapDone => Sys2Proof.Machine.execSwapDone s
  | .bankSel path recipe bank => Sys2Proof.Machine.execBankSel path recipe bank s
  | .bankSwitch recipe => Sys2Proof.Machine.execBankSwitch recipe s
  | .dtCfg path which input value => Sys2Proof.Machine.execDtCfg path which input value s
  | .modStatus present ready alarm => Sys2Proof.Machine.execModStatus present ready alarm s
  | .laserEn path on => Sys2Proof.Machine.execLaserEn path on s
  | .gaugeWrite path track value => Sys2Proof.Machine.execGaugeWrite path track value s
  | .dtsCycle => Sys2Proof.Machine.execDtsCycle s
  | .weakSummary => Sys2Proof.Machine.execWeakSummary s
  | .trigIn input high => Sys2Proof.Machine.execTrigIn input high s
  | .triggerEvaluation => Sys2Proof.Machine.execTriggerEvaluation s
  | .forcedFire trg => Sys2Proof.Machine.execForcedFire trg s
  | .burstClose => Sys2Proof.Machine.execBurstClose s
  | .standpipeRearm => Sys2Proof.Machine.execStandpipeRearm s
  | .trgArm path mask => Sys2Proof.Machine.execTrgArm path mask s
  | .trgDisarm path mask => Sys2Proof.Machine.execTrgDisarm path mask s
  | .patCommit path trg => Sys2Proof.Machine.execPatCommit path trg s
  | .tripped trip flag => Sys2Proof.Machine.execTripped trip flag s
  | .tripClr path mask => Sys2Proof.Machine.execTripClr path mask s
  | .permit trip => Sys2Proof.Machine.execPermit trip s
  | .packetClose stream => Sys2Proof.Machine.execPacketClose stream s
  | .streamCtlStart path stream => Sys2Proof.Machine.execStreamCtlStart path stream s
  | .streamCtlStop path stream => Sys2Proof.Machine.execStreamCtlStop path stream s
  | .cisFlush path stream => Sys2Proof.Machine.execCisFlush path stream s
  | .flushed stream => Sys2Proof.Machine.execFlushed stream s
  | .eccSummary => Sys2Proof.Machine.execEccSummary s
  | .siphonBlock stream first second => Sys2Proof.Machine.execSiphonBlock stream first second s
  | .histCommit path stream => Sys2Proof.Machine.execHistCommit path stream s
  | .blockLock lane => Sys2Proof.Machine.execBlockLock lane s
  | .lockLoss lane => Sys2Proof.Machine.execLockLoss lane s
  | .trainAck lock inv rev align => Sys2Proof.Machine.execTrainAck lock inv rev align s
  | .train => Sys2Proof.Machine.execTrain s
  | .downlinkFrame count crc dlsn words => Sys2Proof.Machine.execDownlinkFrame count crc dlsn words s
  | .nop => Sys2Proof.Machine.execNop s
  | .credit stream grant => Sys2Proof.Machine.execCredit stream grant s
  | .ack lsn => Sys2Proof.Machine.execAck lsn s
  | .retx lsn => Sys2Proof.Machine.execRetx lsn s
  | .laneStatus lock inv rev => Sys2Proof.Machine.execLaneStatus lock inv rev s
  | .laneSwap t10ns => Sys2Proof.Machine.execLaneSwap t10ns s
  | .flush stream => Sys2Proof.Machine.execFlush stream s
  | .read tag addr => Sys2Proof.Machine.execRead tag addr s
  | .write tag addr data => Sys2Proof.Machine.execWrite tag addr data s
  | .prbsReport lane errors => Sys2Proof.Machine.execPrbsReport lane errors s
  | .spareReady lane => Sys2Proof.Machine.execSpareReady lane s
  | .downlinkLost => Sys2Proof.Machine.execDownlinkLost s
  | .downlinkOk lane => Sys2Proof.Machine.execDownlinkOk lane s
  | .electricalIdle lane => Sys2Proof.Machine.execElectricalIdle lane s
  | .dataFrame lane => Sys2Proof.Machine.execDataFrame lane s
  | .interlockFrame => Sys2Proof.Machine.execInterlockFrame s
  | .laneReport => Sys2Proof.Machine.execLaneReport s
  | .am => Sys2Proof.Machine.execAm s
  | .sync hdr twoStep t1 corr ns => Sys2Proof.Machine.execSync hdr twoStep t1 corr ns s
  | .followUp hdr t1 corr => Sys2Proof.Machine.execFollowUp hdr t1 corr s
  | .delayReq ns => Sys2Proof.Machine.execDelayReq ns s
  | .delayResp hdr t4 corr => Sys2Proof.Machine.execDelayResp hdr t4 corr s
  | .announce hdr cls dataset utc utcValid => Sys2Proof.Machine.execAnnounce hdr cls dataset utc utcValid s
  | .lossIntervals => Sys2Proof.Machine.execLossIntervals s
  | .timeCorrespondence ns => Sys2Proof.Machine.execTimeCorrespondence ns s
  | .asymAck path => Sys2Proof.Machine.execAsymAck path s
  | .xchkRebase path => Sys2Proof.Machine.execXchkRebase path s
  | .command frame => Sys2Proof.Machine.execCommand frame s
  | .summary => Sys2Proof.Machine.execSummary s
  | .ethLink up => Sys2Proof.Machine.execEthLink up s
  | .scrubPass found => Sys2Proof.Machine.execScrubPass found s
  | .rowRepaired mem rowIdx => Sys2Proof.Machine.execRowRepaired mem rowIdx s
  | .eccCorrected => Sys2Proof.Machine.execEccCorrected s
  | .fillDone mem => Sys2Proof.Machine.execFillDone mem s
  | .start path chan head => Sys2Proof.Machine.execStart path chan head s
  | .abort path chan => Sys2Proof.Machine.execAbort path chan s
  | .aborted chan bursts => Sys2Proof.Machine.execAborted chan bursts s
  | .paceIgnore path chan => Sys2Proof.Machine.execPaceIgnore path chan s
  | .paceAccept path chan => Sys2Proof.Machine.execPaceAccept path chan s
  | .pace chan => Sys2Proof.Machine.execPace chan s
  | .complete chan => Sys2Proof.Machine.execComplete chan s
  | .dump path addr words => Sys2Proof.Machine.execDump path addr words s
  | .dumpDone => Sys2Proof.Machine.execDumpDone s
  | .eventRecord => Sys2Proof.Machine.execEventRecord s
  | .evtMerged => Sys2Proof.Machine.execEvtMerged s
  | .pendClear path word mask => Sys2Proof.Machine.execPendClear path word mask s
  | .pmcWindow cycles => Sys2Proof.Machine.execPmcWindow cycles s
  | .counterSample recipe stage kernel => Sys2Proof.Machine.execCounterSample recipe stage kernel s
  | .visitDue input => Sys2Proof.Machine.execVisitDue input s
  | .calVisit path input => Sys2Proof.Machine.execCalVisit path input s
  | .measurementEnd group meas => Sys2Proof.Machine.execMeasurementEnd group meas s
  | .calApplied group path => Sys2Proof.Machine.execCalApplied group path s
  | .adcStageUpdate adc code trims => Sys2Proof.Machine.execAdcStageUpdate adc code trims s
  | .calStale item index blocked => Sys2Proof.Machine.execCalStale item index blocked s
  | .calPassDone => Sys2Proof.Machine.execCalPassDone s
  | .fadcSkewMeasurement fadc tap code => Sys2Proof.Machine.execFadcSkewMeasurement fadc tap code s
  | .iqUpdate pol w0 w1 => Sys2Proof.Machine.execIqUpdate pol w0 w1 s
  | .rangeZeroUpdate das dts => Sys2Proof.Machine.execRangeZeroUpdate das dts s
  | .resetN edges => Sys2Proof.Machine.execResetN edges s
  | .powerOnReset va vb => Sys2Proof.Machine.execPowerOnReset va vb s
  | .boot flashOk unit us nvmUs => Sys2Proof.Machine.execBoot flashOk unit us nvmUs s
  | .begin path bank => Sys2Proof.Machine.execBegin path bank s
  | .eraseComplete => Sys2Proof.Machine.execEraseComplete s
  | .program path bank => Sys2Proof.Machine.execProgram path bank s
  | .programComplete flips => Sys2Proof.Machine.execProgramComplete flips s
  | .commit path bank => Sys2Proof.Machine.execCommit path bank s
  | .updCommitted => Sys2Proof.Machine.execUpdCommitted s
  | .updAbort path bank => Sys2Proof.Machine.execUpdAbort path bank s
  | .lcReq path value burns => Sys2Proof.Machine.execLcReq path value burns s
  | .mcRestart => Sys2Proof.Machine.execMcRestart s
  | .regAccess write addr data => Sys2Proof.Machine.execRegAccess write addr data s
  | .idcode => Sys2Proof.Machine.execIdcode s
  | .bypass => Sys2Proof.Machine.execBypass s
  | .extest => Sys2Proof.Machine.execExtest s
  | .samplePreload boundary => Sys2Proof.Machine.execSamplePreload boundary s
  | .heartbeat role state unit epoch ckpt mt lt back => Sys2Proof.Machine.execHeartbeat role state unit epoch ckpt mt lt back s
  | .hello serial digest => Sys2Proof.Machine.execHello serial digest s
  | .ckptSeg slice number offset content => Sys2Proof.Machine.execCkptSeg slice number offset content s
  | .ckptEnd number size crc mt slice => Sys2Proof.Machine.execCkptEnd number size crc mt slice s
  | .ckptAck number result => Sys2Proof.Machine.execCkptAck number result s
  | .checkpointCapture => Sys2Proof.Machine.execCheckpointCapture s
  | .ckptSummary => Sys2Proof.Machine.execCkptSummary s
  | .twinLink => Sys2Proof.Machine.execTwinLink s
  | .alive => Sys2Proof.Machine.execAlive s
  | .takeoverDone => Sys2Proof.Machine.execTakeoverDone s
  | .startWaitMs => Sys2Proof.Machine.execStartWaitMs s
  | .mirror => Sys2Proof.Machine.execMirror s
  | .pairConflict => Sys2Proof.Machine.execPairConflict s
  | .twnSwapGo path => Sys2Proof.Machine.execTwnSwapGo path s
  | .twnSwapAbort path => Sys2Proof.Machine.execTwnSwapAbort path s
  | .swapRequest => Sys2Proof.Machine.execSwapRequest s
  | .prepare ok => Sys2Proof.Machine.execPrepare ok s
  | .swapReady => Sys2Proof.Machine.execSwapReady s
  | .swapFail cause => Sys2Proof.Machine.execSwapFail cause s
  | .swapSchedule mt => Sys2Proof.Machine.execSwapSchedule mt s
  | .swapAbort cause => Sys2Proof.Machine.execSwapAbort cause s
  | .handoverPoint => Sys2Proof.Machine.execHandoverPoint s
  | .handover latches mt => Sys2Proof.Machine.execHandover latches mt s
  | .feedSwitch mv other => Sys2Proof.Machine.execFeedSwitch mv other s
  | .feedRevert mv => Sys2Proof.Machine.execFeedRevert mv s
  | .feedBState mv => Sys2Proof.Machine.execFeedBState mv s
  | .feedTest path ms => Sys2Proof.Machine.execFeedTest path ms s
  | .feedTestEnd vbMin => Sys2Proof.Machine.execFeedTestEnd vbMin s
  | .railFault rail => Sys2Proof.Machine.execRailFault rail s
  | .domCtl path word value => Sys2Proof.Machine.execDomCtl path word value s
  | .quiesce path key go => Sys2Proof.Machine.execQuiesce path key go s
  | .quiescentEntry => Sys2Proof.Machine.execQuiescentEntry s
  | .drainEnd => Sys2Proof.Machine.execDrainEnd s
  | .wake timer => Sys2Proof.Machine.execWake timer s
  | .thermalWarn tj => Sys2Proof.Machine.execThermalWarn tj s
  | .thermalShutdown tj => Sys2Proof.Machine.execThermalShutdown tj s
  | .hardwareCut => Sys2Proof.Machine.execHardwareCut s
  | .thermalRecovery => Sys2Proof.Machine.execThermalRecovery s
  | .registerWrite path addr value => Sys2Proof.Machine.execRegisterWrite path addr value s
  | .seriesEndGridInstance => Sys2Proof.Machine.execSeriesEndGridInstance s
  | .qualifiedMasterLoss => Sys2Proof.Machine.execQualifiedMasterLoss s
  | .jumpRampEnd => Sys2Proof.Machine.execJumpRampEnd s
  | .managementPlaneResume => Sys2Proof.Machine.execManagementPlaneResume s
  | .aliveRestored active => Sys2Proof.Machine.execAliveRestored active s
  | .finalCheckpoint => Sys2Proof.Machine.execFinalCheckpoint s
  | .feedOvervoltage feed mv other => Sys2Proof.Machine.execFeedOvervoltage feed mv other s

end Sys2Proof.Machine
end

