-- ==== Sys2Proof/WellFormed.lean ====
section
/-!
DEFINITION. Which commands are well formed: every index operand names a unit, register or entry that exists, and every operand
that stands for a field fits it. What comes from outside as a measured quantity is unrestricted.
-/

namespace Sys2Proof

/-- The index operands of a command are in range. -/
def Instr.wellFormed (i : Instr) : Bool :=
  match i with
  | .revMarker slot => decide (slot < 4096)
  | .flywheelWrap => true
  | .mmsgWord _ => true
  | .turnWord _ => true
  | .passToUnanchored => true
  | .bclkMeasWindow _ => true
  | .bclkLost _ => true
  | .bclkRelock => true
  | .frameTick entry => decide (entry < 1024)
  | .launchTick entry _ => decide (entry < 1024)
  | .dtsLaunch entry _ => decide (entry < 1024)
  | .quietWindow entry => decide (entry < 1024)
  | .triggerArm entry => decide (entry < 1024)
  | .triggerDisarm entry => decide (entry < 1024)
  | .streamStart entry => decide (entry < 1024)
  | .streamStop entry => decide (entry < 1024)
  | .userMark entry => decide (entry < 1024)
  | .checkpoint entry => decide (entry < 1024)
  | .ttOverflow => true
  | .ttCommit _ index => decide (index < 1024)
  | .ttCommitApply => true
  | .ttLateNow entry _ => decide (entry < 1024)
  | .onEventFire entry => decide (entry < 1024)
  | .onEventEnable entry => decide (entry < 1024)
  | .onEventDisable entry => decide (entry < 1024)
  | .onEventArm entry => decide (entry < 1024)
  | .onEventDisarm entry => decide (entry < 1024)
  | .onEventClearTrips entry => decide (entry < 1024)
  | .onEventMark entry => decide (entry < 1024)
  | .cellCfgWrite _ input _ => decide (input < 512)
  | .qcumZero _ group mask => decide (group < 32) && decide (mask < 65536)
  | .excLimit group _ => decide (group < 32)
  | .excLimitEnd group => decide (group < 32)
  | .excSenseOpen group _ => decide (group < 32)
  | .senseRestored group => decide (group < 32)
  | .stringOpen group _ => decide (group < 32)
  | .rrefBaseline group _ => decide (group < 32)
  | .comparatorCrossing input _ _ _ => decide (input < 512)
  | .dipPeriodEnd input _ _ => decide (input < 512)
  | .dipCapture _ group mask => decide (group < 32) && decide (mask < 65536)
  | .faultSuspect ball => decide (ball.input < 512)
  | .suspectClear ball => decide (ball.input < 512)
  | .faultClr _ group mask => decide (group < 32) && decide (mask < 65536)
  | .spareHandover group => decide (group < 32)
  | .resultWord input _ _ => decide (input < 512)
  | .mapCommit _ adc => decide (adc < 16)
  | .spareFix _ group _ input => decide (group < 32) && decide (input < 512)
  | .engineFail engine cause => decide (engine < 17) && decide (cause < 8)
  | .seTakeover => true
  | .seSwap _ engine => decide (engine < 17)
  | .seHandBack _ engine => decide (engine < 17)
  | .swapDone => true
  | .bankSel _ recipe bank => decide (recipe < 256) && decide (bank < 2)
  | .bankSwitch recipe => decide (recipe < 256)
  | .dtCfg _ _ input _ => decide (input < 512)
  | .modStatus _ _ _ => true
  | .laserEn _ _ => true
  | .gaugeWrite _ _ _ => true
  | .dtsCycle => true
  | .weakSummary => true
  | .trigIn input _ => decide (input < 16)
  | .triggerEvaluation => true
  | .forcedFire trg => decide (trg < 16)
  | .burstClose => true
  | .standpipeRearm => true
  | .trgArm _ mask => decide (mask < 65536)
  | .trgDisarm _ mask => decide (mask < 65536)
  | .patCommit _ trg => decide (trg < 16)
  | .tripped trip flag => decide (trip < 16) && decide (flag < 2160)
  | .tripClr _ mask => decide (mask < 65536)
  | .permit trip => decide (trip < 16)
  | .packetClose stream => decide (stream < 128)
  | .streamCtlStart _ stream => decide (stream < 128)
  | .streamCtlStop _ stream => decide (stream < 128)
  | .cisFlush _ stream => decide (stream < 128)
  | .flushed stream => decide (stream < 128)
  | .eccSummary => true
  | .siphonBlock stream _ _ => decide (stream < 128)
  | .histCommit _ stream => decide (stream < 128)
  | .blockLock lane => decide (lane.lane < 2)
  | .lockLoss lane => decide (lane < 2)
  | .trainAck lock inv _ _ => decide (lock < 32) && decide (inv < 32)
  | .train => true
  | .downlinkFrame count crc dlsn _ => decide (count < 8192) && decide (crc < 4294967296) && decide (dlsn < 65536)
  | .nop => true
  | .credit stream grant => decide (stream < 128) && decide (grant < 4294967296)
  | .ack lsn => decide (lsn < 4294967296)
  | .retx lsn => decide (lsn < 4294967296)
  | .laneStatus lock inv _ => decide (lock < 32) && decide (inv < 32)
  | .laneSwap _ => true
  | .flush stream => decide (stream < 128)
  | .read tag addr => decide (tag < 256) && decide (addr < 4294967296)
  | .write tag addr _ => decide (tag < 256) && decide (addr < 4294967296)
  | .prbsReport lane _ => decide (lane < 5)
  | .spareReady lane => decide (lane < 5)
  | .downlinkLost => true
  | .downlinkOk lane => decide (lane < 2)
  | .electricalIdle lane => decide (lane < 4)
  | .dataFrame lane => decide (lane < 4)
  | .interlockFrame => true
  | .laneReport => true
  | .am => true
  | .sync _ _ _ _ ns => decide (ns < 10)
  | .followUp _ _ _ => true
  | .delayReq ns => decide (ns < 10)
  | .delayResp _ _ _ => true
  | .announce _ _ _ _ _ => true
  | .lossIntervals => true
  | .timeCorrespondence ns => decide (ns < 10)
  | .asymAck _ => true
  | .xchkRebase _ => true
  | .command frame => decide (frame.words.length ≤ 64)
  | .summary => true
  | .ethLink _ => true
  | .scrubPass _ => true
  | .rowRepaired mem rowIdx => decide (mem < 32) && decide (rowIdx < 16384)
  | .eccCorrected => true
  | .fillDone mem => decide (mem < 32)
  | .start _ chan head => decide (chan < 32) && (match head with | some d => decide (d < 2048) | none => true)
  | .abort _ chan => decide (chan < 32)
  | .aborted chan _ => decide (chan < 32)
  | .paceIgnore _ chan => decide (chan < 32)
  | .paceAccept _ chan => decide (chan < 32)
  | .pace chan => decide (chan < 32)
  | .complete chan => decide (chan < 32)
  | .dump _ addr words => decide (addr < 4294967296) && decide (1 ≤ words) && decide (words ≤ 65536)
  | .dumpDone => true
  | .eventRecord => true
  | .evtMerged => true
  | .pendClear _ word _ => decide (word < 8)
  | .pmcWindow _ => true
  | .counterSample recipe _ _ => decide (recipe < 256)
  | .visitDue input => decide (input < 512)
  | .calVisit _ input => decide (input < 512)
  | .measurementEnd group _ => decide (group < 32)
  | .calApplied group path => decide (group < 32) && decide (path < 3)
  | .adcStageUpdate adc code trims => decide (adc < 16) && decide (code < 16) && decide (trims.length = 8)
  | .calStale item index _ => decide (item < 256) && decide (index < 65536)
  | .calPassDone => true
  | .fadcSkewMeasurement fadc tap code => decide (fadc < 4) && decide (tap < 64) && decide (code < 16)
  | .iqUpdate pol _ _ => decide (pol < 2)
  | .rangeZeroUpdate das dts => decide (das < 1024) && decide (dts < 256)
  | .resetN _ => true
  | .powerOnReset _ _ => true
  | .boot _ _ _ _ => true
  | .begin _ _ => true
  | .eraseComplete => true
  | .program _ _ => true
  | .programComplete _ => true
  | .commit _ _ => true
  | .updCommitted => true
  | .updAbort _ _ => true
  | .lcReq _ _ _ => true
  | .mcRestart => true
  | .regAccess _ addr _ => decide (addr < 4294967296)
  | .idcode => true
  | .bypass => true
  | .extest => true
  | .samplePreload _ => true
  | .heartbeat role state _ _ _ _ _ _ => decide (role < 7) && decide (state < 3)
  | .hello _ _ => true
  | .ckptSeg _ _ _ content => decide (content.val.length ≤ 1024)
  | .ckptEnd _ _ _ _ _ => true
  | .ckptAck _ result => decide (result.val < 3)
  | .checkpointCapture => true
  | .ckptSummary => true
  | .twinLink => true
  | .alive => true
  | .takeoverDone => true
  | .startWaitMs => true
  | .mirror => true
  | .pairConflict => true
  | .twnSwapGo _ => true
  | .twnSwapAbort _ => true
  | .swapRequest => true
  | .prepare _ => true
  | .swapReady => true
  | .swapFail _ => true
  | .swapSchedule _ => true
  | .swapAbort _ => true
  | .handoverPoint => true
  | .handover latches _ => decide (latches < 65536)
  | .feedSwitch _ _ => true
  | .feedRevert _ => true
  | .feedBState _ => true
  | .feedTest _ ms => decide (ms < 65536)
  | .feedTestEnd _ => true
  | .railFault rail => decide (rail < 6)
  | .domCtl _ word _ => decide (word < 2)
  | .quiesce _ key _ => decide (key < 256)
  | .quiescentEntry => true
  | .drainEnd => true
  | .wake _ => true
  | .thermalWarn _ => true
  | .thermalShutdown _ => true
  | .hardwareCut => true
  | .thermalRecovery => true
  | .registerWrite _ addr _ => decide (addr < 4294967296)
  | .seriesEndGridInstance => true
  | .qualifiedMasterLoss => true
  | .jumpRampEnd => true
  | .managementPlaneResume => true
  | .aliveRestored _ => true
  | .finalCheckpoint => true
  | .feedOvervoltage feed _ _ => decide (feed < 2)

end Sys2Proof
end

