-- ==== Sys2Proof/Safety.lean ====
section
/-!
DEFINITION. What counts as a safe run of the block, in the terms the statements use: a step that answers a next state, a command
that completes, the invariant of the queue, and what a command leaves alone.
-/

namespace Sys2Proof

/-- The commands of the always-on domain: feeds, rails, temperature, RESET_N and WAKE_N (R452). -/
def Instr.alwaysOn (c : Instr) : Bool :=
  match c with
  | .resetN _ | .powerOnReset _ _ | .feedSwitch _ _ | .feedRevert _ | .feedBState _ | .feedOvervoltage _ _ _ | .feedTestEnd _
  | .railFault _ | .wake _ | .thermalWarn _ | .thermalShutdown _ | .hardwareCut | .thermalRecovery => true
  | _ => false

end Sys2Proof

namespace Sys2Proof.Machine

/-- A step that neither faults nor is refused. -/
def stepSafe (s : State) : Prop := ∃ t, step s = .next t

/-- The register table is in its canonical form, so equal contents are equal data. -/
def tablesOk (h : Hub) : Bool := SMap.wf regReset h.regs

/-- The hub is powered and out of reset, Quiescent and shutdown (R448, R454, R457, R458). -/
abbrev Hub.awake (h : Hub) : Prop :=
  h.pwr.por = false ∧ h.fld DEV_STATE_STEP ≠ 8 ∧ h.pwr.cut = false ∧ h.pwr.shutdown = false

/-- Nothing waits for the next slot boundary: no live commit, no write to TRG.ARM, CIS.STREAM_CTL or PWR.DOM_CTL (R55, R453, R481), no
window of a recipe (R151), no end of the Quiescent state (R456). -/
abbrev Hub.noneWaits (h : Hub) : Prop :=
  h.tt.commit = none ∧ h.trg.armDue = [] ∧ h.cis.ctlDue = [] ∧ h.pwr.domDue = [] ∧ h.loaded = [] ∧ h.pwr.woke = false

/-- An instance of Timetable entry `i`, of type `ty`, falls due in the current slot, with room in the slot, none carried over and
nothing to do before it (R47, R50, R51). -/
abbrev Hub.instanceDue (h : Hub) (ty i : Nat) : Prop :=
  h.mt.anchored = true ∧ h.pwr.draining = false ∧ (h.entry i).type = ty ∧ (h.entry i).enable = true ∧ (h.entry i).spent = false ∧
    (h.entry i).next ≤ h.now ∧ h.tt.carried = [] ∧ h.slotLoad < 32 ∧ h.tt.lateNow.all (fun p => p.1 != i) = true ∧
    h.comesFirst (h.entry i).next 2 i = true

/-- The entry after one more instance: ENABLE is cleared with the last one (R48). -/
def TtEntry.stepped (e : TtEntry) : TtEntry :=
  let e : TtEntry := { e with done := e.done + 1, ran := true }
  if e.spent then e.withEnable false else e

/-- The one action that waits is that of ON_EVENT entry `i`, its ACTION is `k`, its slot E has come, and nothing comes before it
(R50, R57, R482). -/
abbrev Hub.actionDue (h : Hub) (k i : Nat) (a : EvAction) : Prop :=
  h.pwr.draining = false ∧ h.tt.actions = [a] ∧ a.entry = i ∧ (h.entry i).action = k ∧ a.due ≤ h.now ∧ h.comesFirst a.due 0 i = true

/-- The containers in the packet that stream 0 is filling. -/
def Hub.filled (h : Hub) : List Cont := match (h.ring 0).open? with | some p => p.conts | none => []

/-- A record of `n` words fits the packet that stream 0 is filling, which does not close after it (R248). -/
abbrev Hub.roomFor (h : Hub) (n : Nat) : Prop := ∀ p ∈ (h.ring 0).open?, p.fmt = fmtRecords ∧ p.conts.length + n < 64

/-- The path reaches live registers for a write (R11, R413). -/
abbrev Hub.livePath (h : Hub) (p : Path) : Prop := h.pathWrites p = .done ∧ h.lc ≠ 4

/-- The bursts of the current descriptor of DMA channel `n`, in their order (R338). -/
def burstOrderOf (h : Hub) (n : Nat) : List (Nat × Nat × Nat × Nat) := Hub.burstOrder (h.desc (h.fld (DMA_CH_STAT_CUR n)))

/-- The command completes: it answers a next state with the same queue, and the hub after it meets `p`. -/
def Completes (c : Instr) (s : State) (p : Hub → Prop) : Prop :=
  ∃ t, exec c s = .next t ∧ t.pending = s.pending ∧ p t.hub

/-- What every step keeps: each waiting command is one the hub can receive, and LT is a count of 64 bits (R306). -/
def queueOk (s : State) : Prop := (∀ c ∈ s.pending, c.wellFormed = true) ∧ s.hub.lt < 2 ^ 64

/-- What a decoder of Siphon blocks reconstructs from the residuals of a block of an order and a shift, and its history after it: it
forms the predictions the coder forms (R267). -/
def decodeBlock (order shift : Nat) : List Int → Int × Int × Int → List Int × (Int × Int × Int)
  | [], h => ([], h)
  | e :: rest, h =>
    let x := sat24 (predict order h + e * (2 ^ shift : Nat))
    let (xs, h') := decodeBlock order shift rest (x, h.1, h.2.1)
    (x :: xs, h')

/-- How often EV[src] has occurred, as far as EVT.TOTAL counts (R346). -/
def Hub.occurrences (h : Hub) (src : Nat) : Nat := SMap.get (fun _ => 0) h.evt.total src

/-- EV[src] has occurred once more than in `h`, its count saturating. -/
abbrev Hub.oneMore (src : Nat) (h k : Hub) : Prop := k.occurrences src = satAdd (2 ^ 24 - 1) (h.occurrences src) 1

/-- The count of performance counter `i` (R351). -/
def Hub.perf (h : Hub) (i : Nat) : Nat := SMap.get (fun _ => 0) h.pmc.count i

/-- The parts of the hub beside its registers, LT and the model's counter of free values. -/
inductive Part where
  | staged | latch | mt | tt | actions | cis | evt | mem | paces | pmc | afe | cnv | se | trg | sp | cal | twn | wl | fi | pwr | ft | boot
  deriving DecidableEq, Repr

/-- A part is the same in two hubs. The actions that wait in the Timetable and the DMA paces that are due are parts of their own, since
an event may add to them. -/
def Part.same (p : Part) (h k : Hub) : Prop :=
  match p with
  | .staged => k.staged = h.staged
  | .latch => k.latch = h.latch ∧ k.snap = h.snap
  | .mt => k.mt = h.mt
  | .tt => { k.tt with actions := [] } = { h.tt with actions := [] }
  | .actions => k.tt.actions = h.tt.actions
  | .cis => k.cis = h.cis
  | .evt => k.evt = h.evt
  | .mem => { k.mem with paceDue := [] } = { h.mem with paceDue := [] }
  | .paces => k.mem.paceDue = h.mem.paceDue
  | .pmc => k.pmc = h.pmc
  | .afe => k.afe = h.afe
  | .cnv => k.cnv = h.cnv
  | .se => k.se = h.se
  | .trg => k.trg = h.trg
  | .sp => k.sp = h.sp
  | .cal => k.cal = h.cal
  | .twn => k.twn = h.twn
  | .wl => k.wl = h.wl
  | .fi => k.fi = h.fi
  | .pwr => k.pwr = h.pwr
  | .ft => k.ft = h.ft
  | .boot => k.boot = h.boot

/-- The parts that an event may write: its count and record, the counters of events, an action of the Timetable, a DMA pace
(R344-R347). -/
abbrev eventParts : List Part := [.evt, .pmc, .actions, .paces]

/-- The frame of a command: every register but those that `regs` names, and every part but those listed, is as it was. -/
def Framed (regs : Nat → Prop) (parts : List Part) (h k : Hub) : Prop :=
  (∀ a, ¬ regs a → k.reg a = h.reg a) ∧ ∀ p : Part, p ∉ parts → p.same h k

/-- The registers of a list, and those of the listed blocks of 64 KiB. -/
abbrev among (l : List Nat) (a : Nat) : Prop := a ∈ l
abbrev inBlocks (l : List Nat) (a : Nat) : Prop := a / 0x10000 ∈ l

end Sys2Proof.Machine
end

