-- ==== Sys2Proof/Certificates/Slice0/Obligations.lean ====
section
/-!
DEFINITION. The statements about the hub.
-/

open Sys2Proof Sys2Proof.Machine

/-- A REV marker in TRACK on and off the count (R28, R32). -/
def Obligations.MtMarkerJudged : Prop :=
  ∀ s : State, s.hub.awake → s.hub.noneWaits → s.hub.mt.turnWords = [] → s.hub.fld MT_STATE_STATE = 2 →
    s.hub.flag MT_CTRL_REV_EN = true → s.hub.mt.slot + 1 < s.hub.spt →
    (s.hub.marksAt (s.hub.mt.clock + 1) = false →
      Completes (.revMarker (s.hub.mt.slot + 1)) s fun k =>
        k.mt.turn = s.hub.mt.turn ∧ k.mt.slot = s.hub.mt.slot + 1 ∧ k.fld MT_STATE_STATE = 2 ∧
        k.fld MT_STATE_REV_OK = s.hub.fld MT_STATE_REV_OK ∧ Framed (among [MT_STATE]) [.mt, .trg, .pmc] s.hub k) ∧
    (s.hub.marksAt (s.hub.mt.clock + 1) = true → s.hub.revOffset = s.hub.mt.slot + 1 →
      Completes (.revMarker (s.hub.mt.slot + 1)) s fun k =>
        k.mt.turn = s.hub.mt.turn ∧ k.mt.slot = s.hub.mt.slot + 1 ∧ k.mt.missRun = 0 ∧ k.fld MT_STATE_STATE = 2 ∧
        k.flag MT_STATE_REV_OK = true ∧ Framed (among [MT_STATE]) [.mt, .trg, .pmc] s.hub k) ∧
    (s.hub.marksAt (s.hub.mt.clock + 1) = true → s.hub.revOffset ≠ s.hub.mt.slot + 1 →
      Completes (.revMarker (s.hub.mt.slot + 1)) s fun k =>
        k.mt.turn = s.hub.mt.turn ∧ k.mt.slot = s.hub.mt.slot + 1 ∧ k.fld MT_STATE_STATE = 3 ∧
        k.fld MT_REV_ERR_CNT_MISCOUNT = satAdd 65535 (s.hub.fld MT_REV_ERR_CNT_MISCOUNT) 1 ∧ Hub.oneMore 192 s.hub k ∧
        Framed (among [MT_STATE, MT_REV_ERR_CNT]) ([.mt, .trg] ++ eventParts) s.hub k)

/-- The flywheel wraps, and a missing REV is counted (R26, R35). -/
def Obligations.MtFlywheelWraps : Prop :=
  ∀ s : State, s.hub.awake → s.hub.noneWaits → s.hub.mt.turnWords = [] → s.hub.fld MT_STATE_STATE = 2 →
    s.hub.flag MT_CTRL_REV_EN = true → s.hub.mt.slot + 1 = s.hub.spt →
    Completes .flywheelWrap s fun k =>
      k.mt.turn = s.hub.mt.turn + 1 ∧ k.mt.slot = 0 ∧ k.mt.revSeen = false ∧
      Framed (among [MT_STATE, MT_REV_ERR_CNT, MT_HOLD_TURNS]) ([.mt, .trg, .wl, .mem] ++ eventParts) s.hub k ∧
      if s.hub.mt.revSeen = true ∧ s.hub.revOffset ≠ 0 then
        k.mt.missRun = s.hub.mt.missRun ∧ k.fld MT_REV_ERR_CNT_MISSING = s.hub.fld MT_REV_ERR_CNT_MISSING ∧
        k.fld MT_STATE_REV_OK = s.hub.fld MT_STATE_REV_OK
      else
        k.mt.missRun = s.hub.mt.missRun + 1 ∧ Hub.oneMore 193 s.hub k ∧
        k.fld MT_REV_ERR_CNT_MISSING = satAdd 65535 (s.hub.fld MT_REV_ERR_CNT_MISSING) 1 ∧
        k.fld MT_STATE_REV_OK =
          if s.hub.fld MT_CTRL_REV_MISS_LIMIT ≤ s.hub.mt.missRun + 1 then 0 else s.hub.fld MT_STATE_REV_OK

/-- In PENDING the next marker re-anchors to the nearest on-count position (R33). -/
def Obligations.MtReanchors : Prop :=
  ∀ s : State, s.hub.awake → s.hub.noneWaits → s.hub.mt.turnWords = [] → s.hub.fld MT_STATE_STATE = 3 →
    s.hub.flag MT_CTRL_REV_EN = true → s.hub.mt.slot + 1 < s.hub.spt → s.hub.revOffset < s.hub.spt →
    s.hub.marksAt (s.hub.mt.clock + 1) = true →
    Completes (.revMarker (s.hub.mt.slot + 1)) s fun k =>
      let n := s.hub.spt
      let s' := (s.hub.mt.slot + 1 + n - s.hub.revOffset) % n
      let d : Int := if n ≤ 2 * s' then (n : Int) - s' else -(s' : Int)
      k.now = s.hub.now + 1 + d ∧ k.mt.slot = s.hub.revOffset ∧ -(n : Int) < 2 * d ∧ 2 * d ≤ n ∧
      k.sfld MT_LAST_ANCHOR_D = d ∧ k.flag MT_LAST_ANCHOR_VALID = true ∧ k.fld MT_STATE_STATE = 2 ∧ Hub.oneMore 194 s.hub k

/-- MMSG words are accepted or rejected (R22). -/
def Obligations.MmsgWordsTaken : Prop :=
  ∀ (s : State) (slots : Nat), s.hub.awake →
    let h := s.hub.passTime.runSlots slots
    h.decoding = true →
    (∀ w : Word, bits w.toNat 31 24 = 0xE4 →
      (h.findsWord 32 = true → crc4 (bits w.toNat 23 4) = bits w.toNat 3 0 →
        Completes (.mmsgWord ⟨slots, w⟩) s fun k => k.reg MT_MMSG_LAST = w ∧ k.flag MT_STATE_MMSG_SEEN = true ∧
          k.mt.wordFrom = h.mt.clock + 1 ∧ k.fld MT_MMSG_ERR_CNT_ERRORS = h.fld MT_MMSG_ERR_CNT_ERRORS ∧
          Framed (among [MT_STATE, MT_MMSG_LAST]) [.mt, .actions] h k) ∧
      (h.findsWord 32 = true → crc4 (bits w.toNat 23 4) ≠ bits w.toNat 3 0 →
        Completes (.mmsgWord ⟨slots, w⟩) s fun k => k.fld MT_MMSG_ERR_CNT_ERRORS = satAdd (2 ^ 32 - 1) (h.fld MT_MMSG_ERR_CNT_ERRORS) 1 ∧
          k.mt.wordFrom = (h.mt.clock : Int) + 1 - 24 ∧ Hub.oneMore 198 h k ∧
          Framed (among [MT_MMSG_ERR_CNT]) (.mt :: eventParts) h k) ∧
      (h.findsWord 32 = false → Completes (.mmsgWord ⟨slots, w⟩) s (Framed (fun _ => False) [] h))) ∧
    (∀ w : BitVec 64, bits w.toNat 63 56 = 0x1B →
      (h.findsWord 64 = true → crc8 (bits w.toNat 55 8) = bits w.toNat 7 0 → h.mt.anchored = true → h.mt.adoptUntil = none →
        Completes (.turnWord ⟨slots, w⟩) s fun k =>
          k.mt.turnWords = h.mt.turnWords ++ [{ turn := bits w.toNat 55 16, notBefore := h.now + 2 }] ∧
          k.mt.wordFrom = h.mt.clock + 1 ∧ k.flag MT_STATE_MMSG_SEEN = true ∧ Framed (among [MT_STATE]) [.mt] h k) ∧
      (h.findsWord 64 = true → crc8 (bits w.toNat 55 8) ≠ bits w.toNat 7 0 →
        (∀ o, 8 ≤ o → o ≤ 56 → bits w.toNat (63 - o) (56 - o) ≠ 0x1B ∧ bits w.toNat (63 - o) (56 - o) ≠ 0xE4) →
        Completes (.turnWord ⟨slots, w⟩) s fun k => k.fld MT_MMSG_ERR_CNT_ERRORS = satAdd (2 ^ 32 - 1) (h.fld MT_MMSG_ERR_CNT_ERRORS) 1 ∧
          Hub.oneMore 198 h k ∧ Framed (among [MT_MMSG_ERR_CNT]) (.mt :: eventParts) h k) ∧
      (h.findsWord 64 = false → Completes (.turnWord ⟨slots, w⟩) s (Framed (fun _ => False) [] h)))

/-- BCLK is measured, lost and regained (R18, R30, R39, R40, R41). -/
def Obligations.BclkLostAndRegained : Prop :=
  ∀ s : State, s.hub.awake →
    (s.hub.fld MT_STATE_STATE = 0 → s.hub.fld DEV_STATE_STEP = 6 → s.hub.pwr.woke = false → s.hub.pwr.domDue = [] →
      (s.hub.flag MT_CTRL_REV_EN = true ∨ s.hub.flag MT_CTRL_TURN_FROM_MMSG = true) →
      Completes .passToUnanchored s fun k => k.fld MT_STATE_STATE = 1 ∧ k.mt.fly = none ∧ k.mt.turnWords = [] ∧
        Framed (among [MT_STATE]) [.mt] s.hub k) ∧
    (∀ f, s.hub.fld MT_STATE_STATE ≠ 4 → s.hub.bclkGood f = true →
      Completes (.bclkMeasWindow f) s fun k => k.fld MT_BCLK_MEAS_FREQ = f ∧ k.mt.heldFreq = f ∧ k.mt.lastGood = s.hub.now ∧
        Framed (among [MT_BCLK_MEAS]) [.mt] s.hub k) ∧
    (∀ n f, 2 ≤ s.hub.fld MT_STATE_STATE → s.hub.fld MT_STATE_STATE ≠ 4 → s.hub.bclkGood f = false →
      let lost (k : Hub) := k.fld MT_STATE_STATE = 4 ∧ k.flag MT_STATE_HOLDOVER = true ∧ k.fld MT_BCLK_MEAS_FREQ = 0 ∧
        k.fld MT_HOLD_TURNS_TURNS = 0 ∧ Hub.oneMore 195 s.hub k ∧
        Framed (among [MT_STATE, MT_BCLK_MEAS, MT_HOLD_TURNS]) ([.mt, .trg, .cnv, .se, .sp] ++ eventParts) s.hub k
      Completes (.bclkLost n) s lost ∧ Completes (.bclkMeasWindow f) s lost) ∧
    (∀ f, s.hub.fld MT_STATE_STATE = 4 → Completes (.bclkMeasWindow f) s fun k =>
      k.mt.backFreq = (if s.hub.bclkGood f then some f else none) ∧ Framed (fun _ => False) [.mt] s.hub k) ∧
    (s.hub.fld MT_STATE_STATE = 4 →
      Completes .bclkRelock s fun k => Hub.oneMore 196 s.hub k ∧ Framed (among [MT_STATE, MT_BCLK_MEAS]) (.mt :: eventParts) s.hub k ∧
        (∀ b < 2 ^ 20, s.hub.mt.backFreq = some b → k.fld MT_BCLK_MEAS_FREQ = b ∧ k.mt.heldFreq = b) ∧
        if s.hub.flag MT_CTRL_REV_EN then k.fld MT_STATE_STATE = 5 ∧ k.fld MT_STATE_HOLDOVER = s.hub.fld MT_STATE_HOLDOVER
        else k.fld MT_STATE_STATE = 2 ∧ k.flag MT_STATE_HOLDOVER = false)

/-- An instance of the Timetable has the effect of its type; late one-shots and instances carried over (R45, R47, R48, R50, R51, R53, R209, R427). -/
def Obligations.TimetableInstances : Prop :=
  (
  ∀ (s : State) (i : Nat), s.hub.awake →
    (s.hub.instanceDue 4 i → Completes (.quietWindow i) s fun k =>
      k.entry i = (s.hub.entry i).stepped ∧
      k.cal.quietTo = max (s.hub.now + (bits (s.hub.entry i).arg 19 0 : Nat)) s.hub.cal.quietTo ∧
      Framed (fun _ => False) [.tt, .cal, .paces] s.hub k) ∧
    (s.hub.instanceDue 5 i → Completes (.triggerArm i) s fun k =>
      k.entry i = (s.hub.entry i).stepped ∧
      (∀ t < 16, k.isArmed t = (s.hub.isArmed t || bit (s.hub.entry i).arg t)) ∧
      Framed (among [TRG_STAT]) ([.tt, .trg] ++ eventParts) s.hub k) ∧
    (s.hub.instanceDue 6 i → Completes (.triggerDisarm i) s fun k =>
      k.entry i = (s.hub.entry i).stepped ∧
      (∀ t < 16, k.isArmed t = (s.hub.isArmed t && !bit (s.hub.entry i).arg t)) ∧
      Framed (among [TRG_STAT]) ([.tt, .trg] ++ eventParts) s.hub k) ∧
    (s.hub.instanceDue 10 i → Completes (.checkpoint i) s fun k =>
      k.entry i = (s.hub.entry i).stepped ∧ k.twn.ckptDue = true ∧ Framed (fun _ => False) [.tt, .twn, .paces] s.hub k)
  ) ∧
  (
  ∀ (s : State) (i : Nat), s.hub.awake → s.hub.pwr.draining = false → s.hub.slotLoad < 32 →
    let e := s.hub.entry i
    4 ≤ e.type → e.type ≤ 10 →
    let effect (k : Hub) : Prop :=
      (e.type = 10 → k.twn.ckptDue = true ∧ Framed (fun _ => False) ([.tt, .twn] ++ eventParts) s.hub k) ∧
      (e.type = 4 → k.cal.quietTo = max (s.hub.now + (bits e.arg 19 0 : Nat)) s.hub.cal.quietTo ∧
        Framed (fun _ => False) ([.tt, .cal] ++ eventParts) s.hub k) ∧
      (e.type = 5 → (∀ m < 16, k.isArmed m = (s.hub.isArmed m || bit e.arg m)) ∧ Framed (among [TRG_STAT]) ([.tt, .trg] ++ eventParts) s.hub k) ∧
      (e.type = 6 → (∀ m < 16, k.isArmed m = (s.hub.isArmed m && !bit e.arg m)) ∧ Framed (among [TRG_STAT]) ([.tt, .trg] ++ eventParts) s.hub k)
    (∀ due run tr, s.hub.tt.lateNow = [(i, due, run)] → run ≤ s.hub.now → s.hub.comesFirst run 2 i = true →
      Completes (.ttLateNow i tr) s fun k => effect k ∧ k.tt.lateNow = [] ∧ k.entry i = e.stepped ∧ Hub.oneMore 201 s.hub k) ∧
    (∀ slot rest, s.hub.tt.carried = (i, slot) :: rest → slot < s.hub.now → s.hub.comesFirst (slot + 1) 1 0 = true →
      Completes .ttOverflow s fun k => effect k ∧ k.tt.carried = rest ∧ Hub.oneMore 204 s.hub k)
  )

/-- The Timetable starts and stops streams and makes marks (R45, R217, R256, R272). -/
def Obligations.TimetableStreams : Prop :=
  ∀ (s : State) (i n : Nat), s.hub.awake → n = bits (s.hub.entry i).arg 6 0 → n ≠ 0 →
    (s.hub.instanceDue 7 i → Completes (.streamStart i) s fun k =>
      k.entry i = (s.hub.entry i).stepped ∧ (k.ring n).running = true ∧ (∀ m, m ≠ n → k.ring m = s.hub.ring m) ∧
      if (s.hub.ring n).running then k.ring n = s.hub.ring n ∧ Framed (fun _ => False) [.tt, .paces] s.hub k
      else (k.ring n).startAt = s.hub.now ∧ ((s.hub.ring n).spans = [] → (k.ring n).startDue = true) ∧ Hub.oneMore 148 s.hub k ∧
        Framed (among [CIS_RING_STAT n]) ([.tt, .cis] ++ eventParts) s.hub k) ∧
    (s.hub.instanceDue 8 i → Completes (.streamStop i) s fun k =>
      k.entry i = (s.hub.entry i).stepped ∧ (k.ring n).running = false ∧ (∀ m, m ≠ n → k.ring m = s.hub.ring m) ∧
      if (s.hub.ring n).running = false then k.ring n = s.hub.ring n ∧ Framed (fun _ => False) [.tt, .paces] s.hub k
      else s.hub.sp.burst = none →
        if s.hub.sourceLags n then (k.ring n).spans = (s.hub.ring n).spans ++ [((s.hub.ring n).startAt, s.hub.now)] ∧
          Framed (among [CIS_RING_STAT n]) ([.tt, .cis] ++ eventParts) s.hub k
        else (k.ring n).spans = [] ∧ (k.ring n).open? = none ∧
          ((s.hub.ring n).spans = [] → (s.hub.ring n).open? = none → (s.hub.ring n).waiting = [] → Hub.oneMore 148 s.hub k)) ∧
    (s.hub.instanceDue 9 i → s.hub.ringSize 0 ≠ 0 → s.hub.roomFor 4 →
      Completes (.userMark i) s fun k =>
        k.entry i = (s.hub.entry i).stepped ∧
        (∃ p, (k.ring 0).open? = some p ∧ p.fmt = fmtRecords ∧
          p.conts = s.hub.filled ++ (markRecord 2 0 {} 0xFFFF s.hub.mtNow (s.hub.entry i).arg).map Cont.word) ∧
        (∀ m, m ≠ 0 → k.ring m = s.hub.ring m) ∧
        Framed (among [SIP_STREAM_STAT 0]) [.tt, .cis, .pmc, .paces] s.hub k)

/-- ON_EVENT actions act at their slot and are reported (R53, R57, R58, R217, R232). -/
def Obligations.OnEventActions : Prop :=
  ∀ (s : State) (i : Nat) (a : EvAction), s.hub.awake →
    let e := s.hub.entry i
    let t := e.target % 1024
    let x := s.hub.entry t
    let n := bits x.arg 6 0
    (s.hub.actionDue 0 i a → Completes (.onEventFire i) s fun k =>
      Hub.oneMore 205 s.hub k ∧ (s.hub.flag (EVT_ROUTE_TT 205) = false → x.type < 5 → k.tt.actions = []) ∧
      (x.type < 4 ∨ 10 < x.type → Framed (fun _ => False) eventParts s.hub k) ∧
      (x.type = 4 → k.cal.quietTo = max (s.hub.now + (bits x.arg 19 0 : Nat)) s.hub.cal.quietTo ∧
        Framed (fun _ => False) ([.cal] ++ eventParts) s.hub k) ∧
      (x.type = 5 → (∀ m < 16, k.isArmed m = (s.hub.isArmed m || bit x.arg m)) ∧ Framed (among [TRG_STAT]) ([.trg] ++ eventParts) s.hub k) ∧
      (x.type = 6 → (∀ m < 16, k.isArmed m = (s.hub.isArmed m && !bit x.arg m)) ∧ Framed (among [TRG_STAT]) ([.trg] ++ eventParts) s.hub k) ∧
      (x.type = 7 → n ≠ 0 → (k.ring n).running = true ∧ ((s.hub.ring n).running = false → (k.ring n).startAt = s.hub.now) ∧
        Framed (among [CIS_RING_STAT n]) ([.cis] ++ eventParts) s.hub k) ∧
      (x.type = 8 → n ≠ 0 → (k.ring n).running = false ∧ ∀ m, m ≠ n → k.ring m = s.hub.ring m) ∧
      (x.type = 9 → s.hub.ringSize 0 ≠ 0 → s.hub.roomFor 4 →
        ∃ p, (k.ring 0).open? = some p ∧ p.conts = s.hub.filled ++
          (markRecord 2 0 { late := a.late } 0xFFFF s.hub.mtNow x.arg).map Cont.word) ∧
      (x.type = 10 → k.twn.ckptDue = true ∧ Framed (fun _ => False) ([.twn] ++ eventParts) s.hub k)) ∧
    (s.hub.actionDue 1 i a → Completes (.onEventEnable i) s fun k => Hub.oneMore 205 s.hub k ∧
      let y : TtEntry := { s.hub.placedEntry x.raw with done := if x.period = 0 then 0 else x.done }
      if x.type = 0 ∨ x.enable = true ∨ y.spent = true then Framed (fun _ => False) eventParts s.hub k
      else (∀ j, j ≠ t → k.entry j = s.hub.entry j) ∧
        (s.hub.now + 2 < y.next ∨ 11 ≤ x.type → k.entry t = y.withEnable true ∧
          Framed (fun _ => False) ([.tt, .fi] ++ eventParts) s.hub k) ∧
        (y.next ≤ s.hub.now + 2 → x.type < 11 → x.period = 0 → x.lateNow = false → (k.entry t).enable = false ∧ Hub.oneMore 200 s.hub k) ∧
        (y.next ≤ s.hub.now + 2 → x.type < 11 → x.period = 0 → x.lateNow = true →
          (k.entry t).enable = true ∧ (t, y.next, s.hub.now + 1) ∈ k.tt.lateNow) ∧
        (y.next ≤ s.hub.now + 2 → x.type < 11 → x.period ≠ 0 → x.count = 0 →
          (k.entry t).enable = true ∧ s.hub.now + 2 < (k.entry t).next ∧ (k.entry t).next ≤ s.hub.now + 2 + x.period ∧
            Hub.oneMore 200 s.hub k)) ∧
    (s.hub.actionDue 2 i a → Completes (.onEventDisable i) s fun k => Hub.oneMore 205 s.hub k ∧
      (x.type = 0 → Framed (fun _ => False) eventParts s.hub k) ∧
      (x.type ≠ 0 → (k.entry t).enable = false ∧ (∀ j, j ≠ t → k.entry j = s.hub.entry j) ∧
        (∀ p, p ∈ k.tt.carried ↔ p ∈ s.hub.tt.carried ∧ p.1 ≠ t) ∧ (∀ p, p ∈ k.tt.lateNow ↔ p ∈ s.hub.tt.lateNow ∧ p.1 ≠ t) ∧
        Framed (fun _ => False) ([.tt] ++ eventParts) s.hub k)) ∧
    (s.hub.actionDue 3 i a → Completes (.onEventArm i) s fun k =>
      (∀ m < 16, k.isArmed m = (s.hub.isArmed m || bit e.target m)) ∧ Hub.oneMore 205 s.hub k ∧
      Framed (among [TRG_STAT]) ([.trg] ++ eventParts) s.hub k) ∧
    (s.hub.actionDue 4 i a → Completes (.onEventDisarm i) s fun k =>
      (∀ m < 16, k.isArmed m = (s.hub.isArmed m && !bit e.target m)) ∧ Hub.oneMore 205 s.hub k ∧
      Framed (among [TRG_STAT]) ([.trg] ++ eventParts) s.hub k) ∧
    (s.hub.actionDue 5 i a → Completes (.onEventClearTrips i) s fun k =>
      (∀ m < 16, k.flag (TRG_TRIP_STAT_LATCHED m) =
        (s.hub.flag (TRG_TRIP_STAT_LATCHED m) && !(bit e.target m && s.hub.flag (TRG_TRIP_CFG_EN m) && !s.hub.tripCond m))) ∧
      Hub.oneMore 205 s.hub k ∧ Framed (fun r => ∃ m < 16, r = TRG_TRIP_STAT m) ([.trg] ++ eventParts) s.hub k) ∧
    (s.hub.actionDue 6 i a → s.hub.ringSize 0 ≠ 0 → s.hub.roomFor 4 →
      Completes (.onEventMark i) s fun k =>
        (∃ p, (k.ring 0).open? = some p ∧ p.conts = s.hub.filled ++ (markRecord 3 0 { late := a.late } 0xFFFF (s.hub.mtAt a.eff)
          (a.code * 2 ^ 24 + a.arg % 4096 * 2 ^ 12)).map Cont.word) ∧
        Hub.oneMore 205 s.hub k ∧ Framed (among [SIP_STREAM_STAT 0]) ([.cis] ++ eventParts) s.hub k)

/-- Live commits of the Timetable (R56). -/
def Obligations.TimetableCommits : Prop :=
  ∀ s : State, s.hub.awake →
    (∀ p i, s.hub.livePath p → i < 1024 →
      let result := if i < 768 then 1 else if s.hub.tt.commit.isSome then 5 else s.hub.commitResult i s.hub.stagedEntry
      (result = 0 → Completes (.ttCommit p i) s fun k =>
        k.tt.commit = some (i, s.hub.stagedEntry) ∧ k.fld MT_TT_COMMIT_STATUS_RESULT = 0 ∧ k.fld MT_TT_COMMIT_STATUS_INDEX = i ∧
        k.flag MT_TT_COMMIT_STATUS_PENDING = true ∧ k.tt.entries = s.hub.tt.entries ∧
        Framed (among [MT_TT_COMMIT, MT_TT_COMMIT_STATUS]) [.tt] s.hub k) ∧
      (result ≠ 0 → Completes (.ttCommit p i) s fun k =>
        k.tt.commit = s.hub.tt.commit ∧ k.fld MT_TT_COMMIT_STATUS_RESULT = result % 16 ∧
        k.fld MT_TT_COMMIT_STATUS_INDEX = i ∧ k.tt.entries = s.hub.tt.entries ∧ Hub.oneMore 202 s.hub k)) ∧
    (∀ i raw, s.hub.tt.commit = some (i, raw) → s.hub.mt.anchored = true → s.hub.trg.armDue = [] → s.hub.cis.ctlDue = [] →
      s.hub.mt.slot + 1 < s.hub.spt → s.hub.now + 3 < (s.hub.placedEntry raw).base →
      Completes .ttCommitApply s fun k =>
        k.entry i = s.hub.placedEntry raw ∧ (∀ j, j ≠ i → k.entry j = s.hub.entry j) ∧ k.tt.commit = none ∧
        k.flag MT_TT_COMMIT_STATUS_PENDING = false ∧ k.now = s.hub.now + 1 ∧
        Framed (among [MT_TT_COMMIT_STATUS, MT_STATE]) [.mt, .tt, .actions, .trg, .fi, .pmc] s.hub k)

/-- Frame ticks and launches at their slots (R38, R49, R169, R180, R195, R196). -/
def Obligations.TicksAndLaunches : Prop :=
  ∀ (s : State) (i : Nat), s.hub.awake →
    (s.hub.instanceDue 1 i → s.hub.framesRun = true → s.hub.yieldsTick i (!(s.hub.entry i).ran) = false →
      ((∀ t, s.hub.mt.lastEdge = some t → t + 20 ≤ s.hub.now) →
        Completes (.frameTick i) s fun k =>
          let h := (s.hub.passTime.takeInstance i).paceEntry i
          let h := if (s.hub.entry i).ran then h else h.supersede i
          let h := if (s.hub.entry i).ran ∧ s.hub.cnv.series = some i ∧ s.hub.cnv.restart = false then h else h.leaveSeries.startSeries i
          k = (h.takeFrame.setGrid (s.hub.entry i).stepped.next).wrapTime ∧ k.cnv.taken = s.hub.cnv.taken + 1) ∧
      (∀ t, s.hub.mt.lastEdge = some t → t < s.hub.now → s.hub.now < t + 20 → s.hub.cnv.spill = [] →
        Completes (.frameTick i) s fun k =>
          k.entry i = (s.hub.entry i).stepped ∧ k.cnv.taken = s.hub.cnv.taken ∧ k.trg.window = s.hub.trg.window ∧
          k.cnv.convs = s.hub.cnv.convs ∧ Hub.oneMore 203 s.hub k)) ∧
    (∀ tr, s.hub.instanceDue 2 i → s.hub.ticksRun = true →
      Completes (.launchTick i tr) s fun k =>
        let r := (s.hub.takeInstance i).groupOf i
        k.entry i = (s.hub.entry i).stepped ∧
        k.fld (FI_LAUNCH_SEQ_SEQ r) = (s.hub.fld (FI_LAUNCH_SEQ_SEQ r) + 1) % 2 ^ 32 ∧
        (s.hub.suppressCause = none → k.perf 136 = (s.hub.perf 136 + 1) % 2 ^ 48 ∧
          (s.hub.flag FI_CTRL_DAS_EN = true → k.fld FI_STAT_STATE = 2) ∧
          (s.hub.flag FI_CTRL_DAS_EN = false → s.hub.fi.trackDue = none → s.hub.fi.gaugeDue = none → s.hub.fi.calDue = [] →
            Framed (fun x => x = (FI_LAUNCH_SEQ_SEQ r).addr) [.tt, .fi, .pmc, .paces] s.hub k)) ∧
        (s.hub.suppressCause ≠ none → k.fld FI_CNT_SUPPRESSED = satAdd (2 ^ 32 - 1) (s.hub.fld FI_CNT_SUPPRESSED) 1)) ∧
    (∀ tr, s.hub.instanceDue 3 i → s.hub.ticksRun = true → Completes (.dtsLaunch i tr) s fun k =>
      k.entry i = (s.hub.entry i).stepped ∧
      (s.hub.suppressCause ≠ none → k.fld FI_CNT_SUPPRESSED = satAdd (2 ^ 32 - 1) (s.hub.fld FI_CNT_SUPPRESSED) 1) ∧
      (s.hub.suppressCause = none → k.perf 140 = (s.hub.perf 140 + 1) % 2 ^ 48 ∧
        (s.hub.flag FI_CTRL_DTS_EN = false → Framed (fun _ => False) [.tt, .fi, .pmc, .paces] s.hub k) ∧
        (s.hub.flag FI_CTRL_DTS_EN = true → s.hub.fld FI_DTS_STAT_LAUNCHES < s.hub.fld FI_DTS_CFG_NACC →
          k.fld FI_DTS_STAT_LAUNCHES = s.hub.fld FI_DTS_STAT_LAUNCHES + 1 ∧
          k.fld FI_DTS_STAT_CYCLE = s.hub.fld FI_DTS_STAT_CYCLE ∧ Framed (among [FI_DTS_STAT]) ([.tt, .fi] ++ eventParts) s.hub k) ∧
        (s.hub.flag FI_CTRL_DTS_EN = true → 0 < s.hub.fld FI_DTS_CFG_NACC → s.hub.fld FI_DTS_CFG_NACC ≤ s.hub.fld FI_DTS_STAT_LAUNCHES →
          k.fld FI_DTS_STAT_LAUNCHES = 1 ∧ k.fld FI_DTS_STAT_CYCLE = (s.hub.fld FI_DTS_STAT_CYCLE + 1) % 2 ^ 16)))

/-- Live writes to the registers of inputs and groups (R70, R75, R98, R102). -/
def Obligations.InputRegisterWrites : Prop :=
  ∀ (s : State) (p : Path), s.hub.awake → s.hub.livePath p →
    (∀ c v, c < 512 → s.hub.cellCfgBad c v.toNat = false →
      Completes (.cellCfgWrite p c v) s fun k =>
        SMap.find? k.staged (AFE_CELL_CFG c) = some (v &&& 0xF3FF) ∧
        (∀ a, a ≠ AFE_CELL_CFG c → SMap.find? k.staged a = SMap.find? s.hub.staged a) ∧
        Framed (fun _ => False) [.staged] s.hub k) ∧
    (∀ c v, c < 512 → s.hub.cellCfgBad c v.toNat = true →
      Completes (.cellCfgWrite p c v) s fun k => k.staged = s.hub.staged ∧ k.reg (AFE_CELL_CFG c) = s.hub.reg (AFE_CELL_CFG c) ∧
        Hub.oneMore (c / 16) s.hub k) ∧
    (∀ g m, g < 32 → Completes (.qcumZero p g m) s fun k =>
      (∀ c, (k.cell c).zeroDue = ((s.hub.cell c).zeroDue || (c / 16 == g && bit m (c % 16)))) ∧
      Framed (fun _ => False) [.afe] s.hub k) ∧
    (∀ g m, g < 32 → Completes (.dipCapture p g m) s fun k =>
      (∀ c, (k.cell c).capture = ((s.hub.cell c).capture || (c / 16 == g && bit m (c % 16)))) ∧
      Framed (fun _ => False) [.afe] s.hub k) ∧
    (∀ g m, g < 32 → Completes (.faultClr p g m) s fun k =>
      (∀ c, let x : Cell := { s.hub.cell c with clear := true }
        let asked : Bool := (List.range 16).any fun i => bit m i && s.hub.pairOf (16 * g + i) == c && s.hub.flag (AFE_CELL_STAT_FAULT c)
        k.cell c = if asked = false then s.hub.cell c
          else if (s.hub.setCell c x).mayClear c then { x with dipFault := false, strFault := false, excFault := false } else x) ∧
      Framed (fun _ => False) [.afe] s.hub k)

/-- Limits, sense and string of a group's excitation (R77, R82, R97). -/
def Obligations.ExcitationConditions : Prop :=
  ∀ (s : State) (g v : Nat), s.hub.awake → g < 32 →
    (s.hub.flag (AFE_EXC_CFG_EN g) = true → s.hub.afePowered g = true → s.hub.flag (AFE_EXC_STAT_LIMIT g) = false →
      Completes (.excLimit g v) s fun k => k.flag (AFE_EXC_STAT_LIMIT g) = true ∧ k.fld (AFE_EXC_STAT_LOAD g) = v % 65536 ∧
        k.group g = { s.hub.group g with limitFault := true } ∧ Hub.oneMore g s.hub k ∧
        Framed (among [AFE_EXC_STAT g]) (.afe :: eventParts) s.hub k) ∧
    (Completes (.excLimitEnd g) s fun k => k.flag (AFE_EXC_STAT_LIMIT g) = false ∧
      k.group g = { s.hub.group g with limitFault := false } ∧ Framed (among [AFE_EXC_STAT g]) [.afe] s.hub k) ∧
    (s.hub.flag (AFE_EXC_CFG_EN g) = true → s.hub.afePowered g = true → s.hub.flag (AFE_EXC_STAT_SENSE_OPEN g) = false →
      Completes (.excSenseOpen g v) s fun k => k.flag (AFE_EXC_STAT_SENSE_OPEN g) = true ∧
        k.group g = { s.hub.group g with senseFault := true } ∧ Hub.oneMore g s.hub k ∧
        Framed (among [AFE_EXC_STAT g]) (.afe :: eventParts) s.hub k) ∧
    (Completes (.senseRestored g) s fun k => k.flag (AFE_EXC_STAT_SENSE_OPEN g) = false ∧
      k.group g = { s.hub.group g with senseFault := false } ∧ Framed (among [AFE_EXC_STAT g]) [.afe] s.hub k) ∧
    (∀ b, s.hub.flag (AFE_EXC_CFG_EN g) = true → s.hub.afePowered g = true → s.hub.hasRes g = true →
      (s.hub.group g).baseline = some b → 20000 * v < b → s.hub.flag (AFE_EXC_STAT_STRING_OPEN g) = false →
      Completes (.stringOpen g v) s fun k => k.flag (AFE_EXC_STAT_STRING_OPEN g) = true ∧
        k.group g = { s.hub.group g with stringFault := true, stringOnset := s.hub.tickMt } ∧ Hub.oneMore g s.hub k ∧
        (∀ n < 16, s.hub.mode (16 * g + n) = 4 → s.hub.acquires (16 * g + n) = true → k.faulty (16 * g + n) = true) ∧
        Framed (among [AFE_EXC_STAT g]) (.afe :: eventParts) s.hub k) ∧
    (∀ b, s.hub.flag (AFE_EXC_CFG_EN g) = true → s.hub.afePowered g = true → s.hub.hasRes g = true →
      (s.hub.group g).baseline = some b → b ≤ 20000 * v →
      Completes (.stringOpen g v) s fun k => k.flag (AFE_EXC_STAT_STRING_OPEN g) = false ∧
        k.group g = { s.hub.group g with stringFault := false } ∧ (∀ c, k.cell c = s.hub.cell c) ∧
        Framed (among [AFE_EXC_STAT g]) [.afe] s.hub k) ∧
    ((s.hub.flag (AFE_EXC_CFG_EN g) && s.hub.afePowered g && s.hub.hasRes g && (s.hub.group g).baseline.isSome) = false →
      Completes (.stringOpen g v) s fun k => Framed (fun _ => False) [] s.hub k) ∧
    (s.hub.flag (AFE_EXC_CFG_EN g) = true → s.hub.afePowered g = true → s.hub.hasRes g = true →
      Completes (.rrefBaseline g v) s fun k => k.group g = { s.hub.group g with baseline := some v } ∧
        Framed (fun _ => False) [.afe] s.hub k)

/-- Comparators, open-detect and the lock-in of an input (R83, R84, R86, R87, R90, R94, R95, R116, R118, R119, R123). -/
def Obligations.ComparatorsAndDipstick : Prop :=
  ∀ (s : State) (c : Nat), s.hub.awake → c < 512 →
    (∀ high rises fine, s.hub.acquires c = true → s.hub.afePowered (c / 16) = true →
      s.hub.flag CNV_CTRL_URG_EN = false ∨ s.hub.flag (CNV_CH_CFG_ILK c) = false →
      (∀ w, s.hub.trg.window = some w → s.hub.mt.lastEdge.getD w.tick + (fine / 1024 : Nat) ≤ s.hub.now) →
      Completes (.comparatorCrossing c high rises fine) s fun k =>
        (k.cell c).rawHi = (if high then rises else (s.hub.cell c).rawHi) ∧
        (k.cell c).rawLo = (if high then (s.hub.cell c).rawLo else rises) ∧
        (k.cell c).rawSw = (if high then (s.hub.cell c).rawSw || rises else (s.hub.cell c).rawSw && !rises) ∧
        (s.hub.flag (AFE_CELL_STAT_FAULT c) = false → s.hub.flag (AFE_CELL_STAT_FROZEN c) = false → s.hub.switchedOut c = false →
          k.flag (if high then AFE_CELL_STAT_CMP_HI c else AFE_CELL_STAT_CMP_LO c) = rises) ∧
        (s.hub.flag (AFE_CELL_STAT_FROZEN c) = true ∨ s.hub.switchedOut c = true → s.hub.flag (AFE_CELL_STAT_FAULT c) = false →
          k.reg (AFE_CELL_STAT c) = s.hub.reg (AFE_CELL_STAT c)) ∧
        Framed (among [AFE_CELL_STAT c, TRG_TDC_W0 (c / 16), TRG_TDC_W1 (c / 16)]) [.afe, .trg] s.hub k) ∧
    (∀ fine, s.hub.acquires c = true → s.hub.afePowered (c / 16) = true → s.hub.adcIn c = true →
      s.hub.flag CNV_CTRL_URG_EN = true → s.hub.flag (CNV_CH_CFG_ILK c) = true → bit (s.hub.fld (CNV_CH_CFG_URG_SRC c)) 0 = true →
      (s.hub.cell c).rawHi = false → s.hub.flag (AFE_CELL_STAT_FAULT c) = false → s.hub.flag (AFE_CELL_STAT_FROZEN c) = false →
      s.hub.switchedOut c = false → (s.hub.cnv.gridNext = none ∨ s.hub.cnv.series = none) →
      let a := c / 32
      (s.hub.trg.window = none → Completes (.comparatorCrossing c true true fine) s fun k =>
        k.fld (CNV_URG_CNT_REFUSED a) = satAdd (2 ^ 32 - 1) (s.hub.fld (CNV_URG_CNT_REFUSED a)) 1 ∧ Hub.oneMore (32 + a) s.hub k ∧
        k.cnv = s.hub.cnv) ∧
      (∀ w, s.hub.trg.window = some w → s.hub.mt.lastEdge.getD w.tick + (fine / 1024 : Nat) ≤ s.hub.now →
        s.hub.cnv.convs = [] → s.hub.adc a = {} →
        let u := Hub.captureSlot (Hub.captureTime fine s.hub.bclk) s.hub.bclk
        u < s.hub.adcPeriods → u ≠ 32 → u ≠ 33 → Completes (.comparatorCrossing c true true fine) s fun k =>
          (∃ cv, k.cnv.convs = [cv] ∧ cv.input = c ∧ cv.frame = w.frame ∧ cv.urgent = true ∧ cv.slot = u ∧ cv.defer = false ∧
            cv.redo = false) ∧
          k.fld (CNV_URG_CNT_SERVED a) = satAdd (2 ^ 32 - 1) (s.hub.fld (CNV_URG_CNT_SERVED a)) 1)) ∧
    (∀ p, p = s.hub.pairOf c → s.hub.acquires p = true → s.hub.mode p ≠ 2 → s.hub.afePowered (p / 16) = true →
      (s.hub.cell c).suspect = false → ∀ ticks,
      Completes (.faultSuspect ⟨c, ticks⟩) s fun k =>
        if 4 ≤ ticks then k.flag (AFE_CELL_STAT_FAULT_SUSPECT p) = true ∧ Hub.oneMore (p / 16) s.hub k ∧
          Framed (among [AFE_CELL_STAT p, AFE_GRP_STAT (p / 16)]) (.afe :: eventParts) s.hub k
        else Framed (fun _ => False) [.afe] s.hub k) ∧
    (∀ p, p = s.hub.pairOf c → ∀ frames,
      Completes (.suspectClear ⟨c, frames⟩) s fun k =>
        (k.cell c).suspect = ((s.hub.cell c).suspect && decide (frames < 16)) ∧
        k.flag (AFE_CELL_STAT_FAULT_SUSPECT p) = ((k.cell p).suspect || (s.hub.isPartner (p + 1) && (k.cell (p + 1)).suspect)) ∧
        Framed (among [AFE_CELL_STAT p, AFE_GRP_STAT (p / 16)]) [.afe] s.hub k) ∧
    (∀ i q, s.hub.toneRuns c = true → s.hub.fld AFE_DIP_STAT_DIV ≠ 0 → s.hub.fld AFE_DIP_STAT_DIV ≤ s.hub.afe.dipFrames.getD 0 →
      (s.hub.cell c).lastPeriod ≠ some (s.hub.afe.dipFrames.getD 0 / s.hub.fld AFE_DIP_STAT_DIV) →
      Completes (.dipPeriodEnd c i q) s fun k =>
        (k.cell c).sums = ({ i := i, q := q, opened := s.hub.periodTick } :: (s.hub.cell c).sums).take 256 ∧
        (k.cell c).periods = (s.hub.cell c).periods + 1 ∧
        ((k.cell c).sums.length = 256 → (k.cell c).periods % 256 = 0 →
          k.fld (AFE_DIP_RESULT_MAG c) = Hub.dipMag (k.cell c) ∧ k.flag (AFE_DIP_RESULT_VALID c) = true) ∧
        Framed (among [AFE_DIP_BASE c, AFE_DIP_RESULT c]) [.afe] s.hub k)

/-- The spare of a group and the slot maps; a conversion completes with its corrected result word (R67, R69, R80, R100, R111, R112, R115, R119, R124, R126, R127, R129). -/
def Obligations.SparesAndMaps : Prop :=
  (
  ∀ (s : State) (p : Path) (g : Nat), s.hub.awake → g < 32 →
    (∀ en i, i < 16 → s.hub.livePath p → (en = true → s.hub.fixRefused g i = false) →
      Completes (.spareFix p g en i) s fun k =>
        SMap.find? k.staged (CNV_SPARE_FIX g) = some (BitVec.ofNat 32 (ofBool en * 16 + i)) ∧
        (∀ a, a ≠ CNV_SPARE_FIX g → SMap.find? k.staged a = SMap.find? s.hub.staged a) ∧
        Framed (fun _ => False) [.staged] s.hub k) ∧
    (∀ i, i < 16 → s.hub.livePath p → s.hub.fixRefused g i = true →
      Completes (.spareFix p g true i) s fun k => k.staged = s.hub.staged ∧ ∀ a, a / 0x10000 = 3 → k.reg a = s.hub.reg a) ∧
    (∀ i, i < 16 → s.hub.acquires (16 * g + i) = true → s.hub.fld (CNV_SPARE_STAT_STATE g) = 0 → (s.hub.group g).spareFailed = false →
      let k := s.hub.applyFix g (BitVec.ofNat 32 (16 + i))
      k.flag (CNV_SPARE_FIX_EN g) = true ∧ k.fld (CNV_SPARE_FIX_INPUT g) = i ∧ k.fld (CNV_SPARE_STAT_STATE g) = 1 ∧
        k.fld (CNV_SPARE_STAT_REASON g) = 2 ∧ k.fld (CNV_SPARE_STAT_INPUT g) = i) ∧
    (let c := 16 * g + s.hub.fld (CNV_SPARE_STAT_INPUT g)
     (s.hub.handoverReady g = true → s.hub.fld (CNV_SPARE_STAT_STATE g) = 1 →
       Completes (.spareHandover g) s fun k => k.flag (AFE_CELL_STAT_SPARE_IN c) = true ∧ k.fld (CNV_SPARE_STAT_STATE g) = 2 ∧
         k.fld (CNV_SPARE_STAT_INPUT g) = s.hub.fld (CNV_SPARE_STAT_INPUT g)) ∧
     (s.hub.handoverReady g = true → s.hub.fld (CNV_SPARE_STAT_STATE g) = 3 → s.hub.spareIn c = true →
       Completes (.spareHandover g) s fun k => k.flag (AFE_CELL_STAT_SPARE_IN c) = false ∧
         k.fld (CNV_SPARE_STAT_STATE g) = (if k.fld (CNV_SPARE_STAT_REASON g) = 0 then 0 else 1)) ∧
     (s.hub.handoverReady g = false → Completes (.spareHandover g) s fun k => Framed (fun _ => False) [] s.hub k)) ∧
    (∀ a, a < 16 → s.hub.livePath p →
      let ws := (List.range 8).map fun w => s.hub.reg (CNV_MAP_STAGE w)
      let ls := Hub.mapLocals ws
      let good : Bool := s.hub.cnv.mapDue.isNone && Hub.isPerm ls && s.hub.ilkFirst a ls
      Completes (.mapCommit p a) s fun k =>
        k.fld CNV_MAP_STATUS_ADC = a ∧
        if good then k.cnv.mapDue = some (a, ws) ∧ k.flag CNV_MAP_STATUS_PENDING = true ∧ k.fld CNV_MAP_STATUS_RESULT = 0 ∧
          Framed (among [CNV_MAP_STATUS, CNV_MAP_COMMIT]) [.cnv] s.hub k
        else k.cnv.mapDue = s.hub.cnv.mapDue ∧ k.fld CNV_MAP_STATUS_RESULT ≠ 0 ∧ Hub.oneMore (32 + a) s.hub k ∧
          Framed (among [CNV_MAP_STATUS, CNV_MAP_COMMIT]) eventParts s.hub k)
  ) ∧
  (
  ∀ (s : State) (c : Nat) (cv : Conv) (code : Int), s.hub.awake → c < 512 →
    s.hub.cnv.convs = [cv] → s.hub.cnv.fills = [] → cv.input = c → cv.defer = false →
    s.hub.adcIn c = true → cv.base + ((cv.slot + 11) / 2 : Nat) ≤ s.hub.now → s.hub.loaded = [] →
    let x := clamp (-32768) 32767 code
    let y := roundConv ((136 * x - cv.coef.offset) * cv.coef.gain) 4194304
    let clipped (v : Int) : Bool := x == -32768 || x == 32767 || sat24 v != v
    let queued (k : Hub) (v : Int) (qreset : Bool) : Prop := k.cnv.convs = [] ∧
      (k.adc (c / 32)).queue = (s.hub.adc (c / 32)).queue ++ [Hub.resultWord cv (sat24 v) (Hub.cellQ cv (clipped v)) qreset]
    (cv.mode ≠ 2 → Completes (.resultWord c cv.urgent code) s fun k =>
      queued k (y - (if cv.mode = 4 then roundConv ((cv.lead * 2 ^ cv.setting : Nat) : Int) 4 else 0)) false) ∧
    (cv.mode = 2 → cv.urgent = true → Completes (.resultWord c true code) s fun k => queued k y false) ∧
    (cv.mode = 2 → cv.urgent = false → cv.zero = false → (s.hub.cell c).switch = [] →
      Completes (.resultWord c false code) s fun k =>
        let o := s.hub.cell c
        let (y0, n) := if o.zeroY.map (· + 1) = some cv.frame then ((0 : Int), (0 : Int)) else (o.yPrev, o.nPrev)
        let v := y - y0 + n * cv.coef.qr
        queued k v (decide (3145728 < y) || decide (y < -3145728)) ∧ (k.cell c).yPrev = y ∧
        (k.cell c).nPrev = (if 3145728 < y then 1 else if y < -3145728 then -1 else 0) ∧
        (k.cell c).qacc = if o.zeroFrame.all (· < cv.frame) = true
          then (o.qacc + sat24 v * ((1000 * 10 ^ cv.setting : Nat) : Int)) % (2 ^ 70 : Nat) else o.qacc)
  )

/-- An engine fails and the spare takes over (R160, R162, R164). -/
def Obligations.EngineFailureAndTakeover : Prop :=
  ∀ (s : State) (e cause : Nat), s.hub.awake → e < 16 → cause < 16 →
    (s.hub.fld (SE_ENG_STAT_STATE e) ≠ 4 →
      Completes (.engineFail e cause) s fun k =>
        k.fld (SE_ENG_STAT_STATE e) = 4 ∧ k.fld (SE_ENG_STAT_CAUSE e) = cause ∧
        (s.hub.se.spareOut = false → s.hub.fld (SE_ENG_STAT_STATE 16) ≠ 5 → s.hub.se.takeover = none →
          k.se.takeover = some (e, s.hub.now + s.hub.slots20us) ∧ k.se.swap = none ∧ k.fld (SE_ENG_STAT_STATE 16) = 3)) ∧
    (s.hub.fld (SE_ENG_STAT_STATE 16) ≠ 4 →
      Completes (.engineFail 16 cause) s fun k => k.se.spareOut = true ∧ k.se.takeover = none ∧ k.se.swap = none ∧
        (s.hub.fld (SE_ENG_STAT_STATE 16) ≠ 5 → s.hub.se.takeover = none →
          k.fld (SE_ENG_STAT_STATE 16) = 4 ∧ k.fld (SE_ENG_STAT_CAUSE 16) = cause ∧
          k.occurrences 64 = satAdd (2 ^ 24 - 1) (satAdd (2 ^ 24 - 1) (s.hub.occurrences 64) 1) 1)) ∧
    (∀ t, s.hub.se.takeover = some (e, t) → s.hub.boundaryFrom t ≤ s.hub.now → e ∉ s.hub.se.shadowDue →
      s.hub.se.planned = false →
      Completes .seTakeover s fun k =>
        k.fld (SE_ENG_STAT_STATE 16) = 5 ∧ k.fld (SE_ENG_STAT_SERVES 16) = e ∧ k.se.takeover = none ∧ Hub.oneMore 64 s.hub k)

/-- Planned swaps of engines and hand-backs (R163). -/
def Obligations.EngineSwaps : Prop :=
  ∀ (s : State) (p : Path) (e : Nat), s.hub.awake → e < 16 →
    (s.hub.livePath p → s.hub.spareFree = true → s.hub.se.takeover = none → s.hub.fld (SE_ENG_STAT_STATE e) ≠ 4 →
      Completes (.seSwap p e) s fun k =>
        k.se.swap = some (e, false, s.hub.now + s.hub.slots20us) ∧ (k.reg SE_SWAP).toNat = 16 + e ∧
        k.fld (SE_ENG_STAT_STATE 16) = 3 ∧ Framed (among [SE_SWAP, SE_ENG_STAT 16]) [.se] s.hub k) ∧
    (s.hub.livePath p → s.hub.spareFree = false ∨ s.hub.se.takeover ≠ none ∨ s.hub.fld (SE_ENG_STAT_STATE e) = 4 →
      Completes (.seSwap p e) s fun k => k.se = s.hub.se ∧ k.reg SE_SWAP = s.hub.reg SE_SWAP) ∧
    (s.hub.livePath p → s.hub.se.planned = true →
      Completes (.seHandBack p e) s fun k =>
        k.se.swap = some (s.hub.fld (SE_ENG_STAT_SERVES 16), true, s.hub.now + s.hub.slots20us) ∧
        Framed (among [SE_SWAP]) [.se] s.hub k) ∧
    (s.hub.livePath p → s.hub.se.planned = false →
      Completes (.seHandBack p e) s fun k => k.se.swap = none ∧
        k.fld (SE_ENG_STAT_STATE 16) = (if s.hub.fld (SE_ENG_STAT_STATE 16) = 3 ∧ s.hub.se.swap ≠ none then 2
          else s.hub.fld (SE_ENG_STAT_STATE 16)) ∧
        Framed (among [SE_SWAP, SE_ENG_STAT 16]) [.se] s.hub k) ∧
    (∀ back t, s.hub.se.swap = some (e, back, t) → (back = true → s.hub.fld (SE_ENG_STAT_SERVES 16) = e) → s.hub.boundaryFrom t ≤ s.hub.now →
      Completes .swapDone s fun k => k.se.swap = none ∧ k.se.planned = !back ∧ Hub.oneMore 64 s.hub k ∧
        if back then k.fld (SE_ENG_STAT_STATE 16) = 2 ∧ k.fld (SE_ENG_STAT_SERVES 16) = 31
        else k.fld (SE_ENG_STAT_STATE e) = 2 ∧ k.fld (SE_ENG_STAT_STATE 16) = 5 ∧ k.fld (SE_ENG_STAT_SERVES 16) = e)

/-- Bank selection and digital thresholds (R153, R156, R157). -/
def Obligations.BanksAndThresholds : Prop :=
  ∀ (s : State) (p : Path), s.hub.awake →
    (∀ r b, s.hub.livePath p → r ∈ s.hub.loaded → s.hub.twoBanks r = true → b < 2 → s.hub.fld (SE_BANK_SEL_BANK r) ≠ b →
      Completes (.bankSel p r b) s fun k => k.fld (SE_BANK_SEL_BANK r) = b ∧
        (k.recipe r).bankDue = some (b, s.hub.now + s.hub.slots20us) ∧ Framed (among [SE_BANK_SEL r]) [.se] s.hub k) ∧
    (∀ r b t, b < 2 → (s.hub.recipe r).bankDue = some (b, t) → s.hub.boundaryFrom t ≤ s.hub.now →
      Completes (.bankSwitch r) s fun k => (k.recipe r).bankDue = none ∧
        (k.recipe r).restarts = (s.hub.recipe r).restarts ++ [(s.hub.boundaryFrom t,
          (s.hub.recipe r).recipe.stages.findIdx (fun st => decide (2 ≤ st.banks.length)), b)] ∧
        k.fld (SE_RECIPE_STAT_BANK r) = b ∧ Framed (among [SE_RECIPE_STAT r]) (.se :: eventParts) s.hub k) ∧
    (∀ c v, c < 512 → s.hub.livePath p →
      let lo := signed 24 (s.hub.written (SE_DT_TH_LO c)).toNat
      let hi := signed 24 (s.hub.written (SE_DT_TH_HI c)).toNat
      (Completes (.dtCfg p .hi c v) s fun k =>
        if lo < signed 24 v.toNat then SMap.find? k.staged (SE_DT_TH_HI c) = some (v &&& 0xFFFFFF) ∧
          Framed (fun _ => False) [.staged] s.hub k
        else k.staged = s.hub.staged) ∧
      (Completes (.dtCfg p .lo c v) s fun k =>
        if signed 24 v.toNat < hi then SMap.find? k.staged (SE_DT_TH_LO c) = some (v &&& 0xFFFFFF) ∧
          Framed (fun _ => False) [.staged] s.hub k
        else k.staged = s.hub.staged) ∧
      (bit v.toNat 13 = false → Completes (.dtCfg p .cfg c v) s fun k =>
        if bits v.toNat 23 16 = 0 then k.staged = s.hub.staged
        else SMap.find? k.staged (SE_DT_CFG c) = some (v &&& 0xFFE0FF) ∧ Framed (fun _ => False) [.staged] s.hub k))

/-- Module pins, laser and the fibre's live settings; dTS cycles close and weak gates are summed up (R170, R172, R196, R200, R201). -/
def Obligations.LaserAndModule : Prop :=
  (
  ∀ (s : State) (p : Path), s.hub.awake →
    (∀ a b c : Bool, Completes (.modStatus a b c) s fun k =>
      k.flag FI_STAT_MOD_PRESENT = a ∧ k.flag FI_STAT_MOD_READY = b ∧ k.flag FI_STAT_MOD_ALARM = c ∧
      (s.hub.flag FI_STAT_MOD_PRESENT ≠ a ∨ s.hub.flag FI_STAT_MOD_READY ≠ b ∨ s.hub.flag FI_STAT_MOD_ALARM ≠ c →
        Hub.oneMore 66 s.hub k ∧ k.fld FI_STAT_LAS_REASON = k.lasReason ∧ (k.fi.drive = 2 ↔ k.lasReason = 0)) ∧
      Framed (among [FI_STAT]) (.fi :: eventParts) s.hub k) ∧
    (∀ on : Bool, s.hub.livePath p → Completes (.laserEn p on) s fun k =>
      k.flag FI_LASER_LASER_EN = on ∧ k.fld FI_STAT_LAS_REASON = k.lasReason ∧
      (k.fi.drive = 2 ↔ on = true ∧ s.hub.bootStep = 6 ∧ s.hub.pwr.draining = false ∧ s.hub.fiaOn = true ∧
        s.hub.holdsActive = true ∧ s.hub.flag FI_STAT_MOD_PRESENT = true ∧ s.hub.flag FI_STAT_MOD_ALARM = false) ∧
      Framed (among [FI_LASER, FI_STAT]) (.fi :: eventParts) s.hub k) ∧
    (∀ v, s.hub.livePath p → Completes (.gaugeWrite p false v) s fun k =>
      let g := bits v.toNat 6 0
      k.fi.gaugeDue = (if 2 ≤ g ∧ g ≤ 64 ∧ g < s.hub.ngates then some (s.hub.now + s.hub.slots20us, g) else s.hub.fi.gaugeDue) ∧
      k.fi.trackDue = s.hub.fi.trackDue ∧ k.reg FI_GAUGE = s.hub.reg FI_GAUGE) ∧
    (∀ v, s.hub.livePath p → Completes (.gaugeWrite p true v) s fun k =>
      let n := bits v.toNat 3 0
      k.fi.trackDue = (if 2 ≤ n ∧ n ≤ 12 then some (s.hub.now + s.hub.slots20us, v &&& 0xFFFF000F) else s.hub.fi.trackDue) ∧
      k.fi.gaugeDue = s.hub.fi.gaugeDue ∧ k.reg FI_TRACK = s.hub.reg FI_TRACK)
  ) ∧
  (
  ∀ s : State, s.hub.awake →
    (s.hub.fld FI_DTS_CFG_NACC ≠ 0 → s.hub.fld FI_DTS_CFG_NACC ≤ s.hub.fld FI_DTS_STAT_LAUNCHES → s.hub.loaded = [] →
      Completes .dtsCycle s fun k => k.fld FI_DTS_STAT_LAUNCHES = 0 ∧
        k.fld FI_DTS_STAT_CYCLE = (s.hub.fld FI_DTS_STAT_CYCLE + 1) % 65536 ∧
        k.fi.dtsTap = s.hub.fld FI_RANGE_ZERO_DTS_TAP ∧ Hub.oneMore 77 s.hub k) ∧
    (s.hub.fld (FI_LAUNCH_SEQ_SEQ 0) ≠ 0 → s.hub.fld (FI_LAUNCH_SEQ_SEQ 0) % 1024 = 0 →
      Completes .weakSummary s fun k => Hub.oneMore 76 s.hub k ∧ Framed (fun _ => False) eventParts s.hub k)
  )

/-- When a pattern matches (R207). -/
def Obligations.PatternMatch : Prop :=
  (∀ (v : BitVec 608) (mask value : Nat), mask < 2 ^ 608 →
    (Hub.patternMatches v (mask, value) = true ↔ mask ≠ 0 ∧ ∀ b < 608, bit mask b = true → bit value b = v.getLsbD b)) ∧
  (∀ (h : Hub) (w : Window) (v : BitVec 608) (t : Nat) (f : Fire), (Hub.windowPattern w t).1 = 0 →
    h.firesIn w v t = some f → f.forced = true)

/-- The evaluation of a frame (R206, R208, R210, R211, R223). -/
def Obligations.TriggersFire : Prop :=
  ∀ (s : State) (w : Window) (rest : List Window), s.hub.awake → s.hub.trg.closedWin = w :: rest →
    w.tick + s.hub.slots800ns ≤ s.hub.now →
    let v := s.hub.stateVector w
    let fires (t : Nat) : Prop :=
      let n := (w.cfg.getD t (0, 0)).2
      let ref := SMap.get (fun _ => 0) w.refs t
      let k := (if SMap.get (fun _ => 0) s.hub.trg.autoSeen t = ref then SMap.get (fun _ => 0) s.hub.trg.autoCount t else 0) +
        ofBool (w.boundary && decide (ref < w.tick))
      w.armed.getLsbD t = true ∧ SMap.get (fun _ => 0) s.hub.trg.holdoff t = 0 ∧
        ((Hub.patternMatches v (Hub.windowPattern w t) = true ∧ (w.renewed.getLsbD t = true ∨ s.hub.trg.prevMatch.getLsbD t = false)) ∨
          (n ≠ 0 ∧ n ≤ k))
    let evaluated (k : Hub) : Prop :=
      (∀ t < 16, bit (k.fld TRG_STAT_FIRED) t = true ↔ fires t) ∧ k.trg.closedWin.map Window.tick = rest.map Window.tick ∧
        k.trg.lastEval = some w.frame ∧ k.trg.prevVec = v
    Completes .triggerEvaluation s evaluated ∧
    (∀ t, s.hub.forcedNext t = true → Completes (.forcedFire t) s evaluated) ∧
    (∀ b, s.hub.sp.burst = some b → b.last = w.frame → (∀ t < 16, ¬ fires t) →
      Completes .burstClose s fun k => evaluated k ∧ k.sp.burst = none ∧ k.sp.lastEnd = some w.frame ∧
        k.sp.rearmTo = some (w.frame + s.hub.fld TRG_SP_DEPTH_PRE))

/-- Trigger inputs and the registers of triggers (R205, R209, R236, R481). -/
def Obligations.TriggerRegisters : Prop :=
  ∀ (s : State) (p : Path), s.hub.awake →
    (∀ i high, i < 16 → Completes (.trigIn i high) s fun k =>
      (∀ j < 16, bit (k.fld TRG_TRIG_IN_LEVEL) j = if j = i then high else bit (s.hub.fld TRG_TRIG_IN_LEVEL) j) ∧
      (∀ w, s.hub.trg.window = some w → ∃ w', k.trg.window = some w' ∧
        w'.trigIn = (if high then w.trigIn ||| BitVec.ofNat 16 (2 ^ i)
          else if w.tick = s.hub.now then w.trigIn &&& ~~~BitVec.ofNat 16 (2 ^ i) else w.trigIn) ∧ w'.mmsg = w.mmsg ∧ w'.armed = w.armed) ∧
      Framed (among [TRG_TRIG_IN]) [.trg] s.hub k) ∧
    (∀ m, m < 65536 → s.hub.livePath p → Completes (.trgArm p m) s fun k =>
      k.trg.armDue = s.hub.trg.armDue ++ [(m, 0)] ∧ Framed (fun _ => False) [.trg] s.hub k) ∧
    (∀ m, m < 65536 → s.hub.livePath p → Completes (.trgDisarm p m) s fun k =>
      k.trg.armDue = s.hub.trg.armDue ++ [(0, m)] ∧ Framed (fun _ => False) [.trg] s.hub k) ∧
    (∀ t < 16, s.hub.livePath p → Completes (.patCommit p t) s fun k =>
      (if s.hub.trg.patDue.isSome then k.trg = s.hub.trg ∧ k.fld TRG_PAT_STATUS_RESULT = 1
       else k.trg = { s.hub.trg with
              patDue := some (t, s.hub.stagedVector TRG_MASK t, s.hub.stagedVector TRG_VALUE t) } ∧
            k.fld TRG_PAT_STATUS_RESULT = 0 ∧ k.flag TRG_PAT_STATUS_PENDING = true) ∧
      k.fld TRG_PAT_STATUS_TRG = t ∧ Framed (among [TRG_PAT_STATUS, TRG_PAT_COMMIT]) [.trg] s.hub k)

/-- Trip outputs trip, are cleared and permit (R229, R231, R232, R233). -/
def Obligations.TripOutputs : Prop :=
  ∀ (s : State) (n : Nat), s.hub.awake → n < 16 →
    (∀ f, f < 2160 → s.hub.evaluatesTrips = true → s.hub.tripCond n = true → s.hub.flag (TRG_TRIP_STAT_LATCHED n) = false →
      Completes (.tripped n f) s fun k =>
        k.flag (TRG_TRIP_STAT_LATCHED n) = true ∧ k.flag (TRG_TRIP_STAT_PERMIT n) = false ∧ k.tripPin n ≠ some true ∧
        k.fld (TRG_TRIP_STAT_TRIPS n) = satAdd (2 ^ (TRG_TRIP_STAT_TRIPS n).width - 1) (s.hub.fld (TRG_TRIP_STAT_TRIPS n)) 1 ∧
        k.fld (TRG_TRIP_FIRST_FLAG n) = f ∧ k.flag (TRG_TRIP_FIRST_VALID n) = true ∧ Hub.oneMore (96 + n) s.hub k ∧
        Framed (among [TRG_TRIP_STAT n, TRG_TRIP_FIRST n]) (.trg :: eventParts) s.hub k) ∧
    (∀ p m, s.hub.livePath p → Completes (.tripClr p m) s fun k =>
      let clears := bit m n && s.hub.flag (TRG_TRIP_CFG_EN n) && s.hub.flag (TRG_TRIP_STAT_LATCHED n) && !s.hub.tripCond n
      k.flag (TRG_TRIP_STAT_LATCHED n) = (s.hub.flag (TRG_TRIP_STAT_LATCHED n) && !clears) ∧
      k.flag (TRG_TRIP_STAT_PERMIT n) =
        (s.hub.flag (TRG_TRIP_STAT_PERMIT n) || (clears && s.hub.flag (TRG_TRIP_STAT_DRIVEN n) && !s.hub.pwr.draining)) ∧
      Framed (fun r => ∃ i < 16, r = TRG_TRIP_STAT i) (.trg :: eventParts) s.hub k) ∧
    (s.hub.trg.permitDue.getLsbD n = true → s.hub.tripCond n = false → s.hub.flag (TRG_TRIP_STAT_LATCHED n) = false →
      s.hub.flag (TRG_TRIP_STAT_DRIVEN n) = true → s.hub.pwr.draining = false → Completes (.permit n) s fun k =>
        k.flag (TRG_TRIP_STAT_PERMIT n) = true ∧ (s.hub.flag (TRG_TRIP_STAT_PERMIT n) = false → k.tripPin n = some false) ∧
        k.trg.permitDue.getLsbD n = false ∧
        Framed (among [TRG_TRIP_STAT n]) (.trg :: eventParts) s.hub k)

/-- A series ends; the Standpipe re-arms (R123, R220, R223, R225). -/
def Obligations.SeriesEndAndRearm : Prop :=
  ∀ s : State, s.hub.awake →
    (∀ i g, s.hub.cnv.series = some i → s.hub.cnv.gridNext = some g → s.hub.cnv.restart = false → (s.hub.entry i).spent = true →
      g ≤ s.hub.now → Completes .seriesEndGridInstance s fun k =>
        k.cnv.series = none ∧ k.fld CNV_FRAME_PERIOD_SLOTS = 0 ∧ k.cnv.lastPeriod = s.hub.fld CNV_FRAME_PERIOD_SLOTS ∧
        k.cnv.gridNext = some (g + (s.hub.fld CNV_FRAME_PERIOD_SLOTS : Int))) ∧
    (∀ g, s.hub.cnv.series = none → s.hub.cnv.gridNext = some g → g ≤ s.hub.now → s.hub.sp.queue = [] → s.hub.sp.burst = none →
      Completes .seriesEndGridInstance s fun k => k.cnv = { s.hub.cnv with gridNext := some (g + s.hub.cnv.lastPeriod) } ∧
        Framed (fun _ => False) [.cnv] s.hub k) ∧
    (∀ r f, s.hub.sp.rearmTo = some r → SMap.find? s.hub.sp.frames r = some f → f.tick + s.hub.slots800ns ≤ s.hub.now →
      Completes .standpipeRearm s fun k => k.sp = { s.hub.sp with rearmTo := none } ∧ k.fld TRG_SP_STAT_STATE ≠ 4 ∧
        k.fld TRG_SP_STAT_STATE ≠ 5 ∧ Framed (among [TRG_SP_STAT]) [.sp] s.hub k)

/-- The Siphon coder reconstructs within half a step (R267). -/
def Obligations.SiphonReconstructs : Prop :=
  ∀ (b : Nat) (xs : List Int) (h h' : Int × Int × Int) (o n : Nat) (rs : List Int), b ∈ [11, 7, 5] →
    (∀ x ∈ xs, -8388608 ≤ x ∧ x ≤ 8388607) → encodeBlock b xs h shifts = (o, n, rs, h') →
    o < 4 ∧ n ≤ 20 ∧ rs.length = xs.length ∧ (∀ r ∈ rs, -(2 ^ (b - 1) : Int) ≤ r ∧ r ≤ 2 ^ (b - 1) - 1) ∧
    (decodeBlock o n rs h).2 = h' ∧ (decodeBlock o n rs h).1.length = xs.length ∧
    (∀ p ∈ (decodeBlock o n rs h).1.zip xs, 2 * (p.1 - p.2).natAbs ≤ 2 ^ n ∧ (n = 0 → p.1 = p.2)) ∧
    (∀ m < n, ∀ q < 4, trial b q m xs h = none) ∧ (∀ q < o, trial b q n xs h = none)

/-- Packets close with their age, and the last one before a stop with STOP (R242, R249, R256, R258). -/
def Obligations.PacketsClose : Prop :=
  ∀ (s : State) (n : Nat), s.hub.awake → n < 128 →
    let r := s.hub.ring n
    let next := s.hub.fld (CIS_SEQ_NEXT n)
    r.flushDue = false → r.held = none → r.gapsDue = [] →
    (∀ p, r.open? = some p → p.ratio = 0 → p.cut = false → p.spoilt = false →
      let old : Prop := s.hub.fld (CIS_STREAM_CFG_AGE n) ≠ 0 ∧
        p.slot + ((s.hub.fld (CIS_STREAM_CFG_AGE n) * s.hub.bclk / 1000 + 1 : Nat) : Int) ≤ s.hub.now
      let closed (k : Hub) (stop : Bool) : Prop :=
        (∃ pk : Packet, (k.ring n).packets = r.packets ++ [pk] ∧ pk.fmt = p.fmt ∧ pk.stream = n ∧ pk.seq = next ∧ pk.mt = p.mt ∧
          pk.count = p.conts.length ∧ pk.body = p.body ∧ pk.holdover = p.holdover ∧ pk.reanchor = p.reanchor ∧
          pk.start = r.startDue ∧ pk.epoch = r.epochDue ∧ pk.epochNo = p.epochNo ∧ pk.compressed = false ∧ pk.stop = stop) ∧
        (k.ring n).open? = none ∧ (k.ring n).spans = [] ∧ k.fld (CIS_SEQ_NEXT n) = (next + 1) % 2 ^ 32 ∧
        (∀ m, m ≠ n → k.ring m = s.hub.ring m) ∧ Framed (among [CIS_SEQ n, CIS_RING_STAT n]) (.cis :: eventParts) s.hub k
      (p.dropped = false → r.spans = [] → p.fmt = fmtRecords ∨ (old ∧ r.inSet = false) →
        Completes (.packetClose n) s fun k => closed k false) ∧
      (∀ t, p.dropped = false → r.spans = [t] → r.running = false → r.waiting = [] →
        Completes (.packetClose n) s fun k => closed k true ∧ Hub.oneMore 148 s.hub k) ∧
      (r.spans = [] → p.fmt ≠ fmtRecords → s.hub.fld (CIS_STREAM_CFG_AGE n) = 0 →
        Completes (.packetClose n) s fun k => Framed (fun _ => False) [] s.hub k) ∧
      (r.spans = [] → p.fmt ≠ fmtRecords → old → r.inSet = true → Completes (.packetClose n) s fun k =>
        k.ring n = { r with closeDue := true } ∧ (∀ m, m ≠ n → k.ring m = s.hub.ring m) ∧
        Framed (fun _ => False) [.cis] s.hub k) ∧
      (p.dropped = true → r.spans = [] → p.fmt = fmtRecords ∨ (old ∧ r.inSet = false) →
        s.hub.ringSize n < s.hub.ringBytes n + r.maxPkt + 64 → Completes (.packetClose n) s fun k =>
          (k.ring n).packets = r.packets ∧ (k.ring n).open? = none ∧ (k.ring n).credit = false ∧
          (k.ring n).held = some { cause := 1, pkts := 1, seqFirst := next, seqLast := next, units := p.conts.length,
                                   mtFirst := p.mt, mtLast := p.lastMt } ∧
          k.fld (CIS_SEQ_NEXT n) = (next + 1) % 2 ^ 32 ∧ (∀ m, m ≠ n → k.ring m = s.hub.ring m) ∧
          Framed (among [CIS_SEQ n, CIS_RING_STAT n]) (.cis :: eventParts) s.hub k)) ∧
    (∀ t, r.open? = none → r.spans = [t] → r.running = false → r.waiting = [] → Completes (.packetClose n) s fun k =>
      (k.ring n).spans = [] ∧ (k.ring n).packets = r.packets ∧ k.fld (CIS_SEQ_NEXT n) = next ∧ Hub.oneMore 148 s.hub k)

/-- Writes of CIS.STREAM_CTL and CIS.FLUSH, and flushes (R256, R257, R261, R272). -/
def Obligations.StreamsControlled : Prop :=
  ∀ (s : State) (p : Path) (n : Nat), s.hub.awake → n < 128 →
    let r := s.hub.ring n
    let flushed (k : Hub) : Prop :=
      (∃ g : Packet, (k.ring n).packets = r.packets.take r.sent ++ [g] ∧ g.fmt = fmtGap ∧ g.count = 9 ∧
        g.seq = s.hub.fld (CIS_SEQ_NEXT n) ∧ (g.body.headD 0).toNat / 2 ^ 24 = 2 ∧
        (g.body.headD 0).toNat % 2 ^ 24 = min (r.packets.length - r.sent) 65535) ∧
      (k.ring n).flushDue = false ∧ k.fld (CIS_SEQ_NEXT n) = (s.hub.fld (CIS_SEQ_NEXT n) + 1) % 2 ^ 32 ∧
      Hub.oneMore 144 s.hub k ∧ Hub.oneMore 147 s.hub k ∧
      Framed (among [CIS_SEQ n, CIS_RING_STAT n, CIS_GAP_CNT n]) (.cis :: eventParts) s.hub k
    (s.hub.livePath p → n ≠ 0 →
      (Completes (.streamCtlStart p n) s fun k => k.cis = { s.hub.cis with ctlDue := s.hub.cis.ctlDue ++ [(n, false)] } ∧
        Framed (fun _ => False) [.cis] s.hub k) ∧
      (Completes (.streamCtlStop p n) s fun k => k.cis = { s.hub.cis with ctlDue := s.hub.cis.ctlDue ++ [(n, true)] } ∧
        Framed (fun _ => False) [.cis] s.hub k) ∧
      (s.hub.ringSize n ≠ 0 → r.flushDue = true → Completes (.cisFlush p n) s fun k => Framed (fun _ => False) [] s.hub k) ∧
      (s.hub.ringSize n ≠ 0 → r.flushDue = false → r.open? ≠ none → Completes (.cisFlush p n) s fun k =>
        k.ring n = { r with flushDue := true } ∧ (∀ m, m ≠ n → k.ring m = s.hub.ring m) ∧
        Framed (among [CIS_RING_STAT n]) (.cis :: eventParts) s.hub k) ∧
      (s.hub.ringSize n ≠ 0 → r.flushDue = false → r.open? = none → r.held = none → Completes (.cisFlush p n) s flushed)) ∧
    (s.hub.livePath .mc → n = 0 ∨ s.hub.ringSize n = 0 → Completes (.cisFlush .mc n) s fun k =>
      Hub.oneMore 251 s.hub k ∧ Framed (fun _ => False) eventParts s.hub k) ∧
    (r.flushDue = true → r.open? = none → r.held = none → Completes (.flushed n) s flushed)

/-- Siphon blocks and their verification; loads of a Siphon history, and corrected ring words (R3, R265, R266, R269, R270, R272, R274). -/
def Obligations.SiphonBlocks : Prop :=
  (
  ∀ (s : State) (n : Nat) (p : OpenPkt) (first second : Bool), s.hub.awake → n < 128 → (s.hub.ring n).open? = some p → p.ratio ≠ 0 →
    p.coded + 32 ≤ p.conts.length → (∀ u < 2, s.hub.flag (SIP_UNIT_STAT_IN_SERVICE u) = true) →
    Completes (.siphonBlock n first second) s fun k =>
      let u := n % 2
      (∃ q blk, (k.ring n).open? = some q ∧ q.blocks = p.blocks ++ blk ∧ blk.length = 1 + residualBits p.ratio ∧
        q.coded = p.coded + 32 ∧ q.conts = p.conts) ∧
      (∀ m, m ≠ n → k.ring m = s.hub.ring m) ∧
      (k.flag (SIP_UNIT_STAT_IN_SERVICE u) = (first || second)) ∧ (k.flag (SIP_UNIT_STAT_IN_SERVICE (1 - u)) = true) ∧
      (first = true → Framed (among [SIP_UNIT_STAT_W1 u]) [.cis, .pmc] s.hub k) ∧
      (first = false → Hub.oneMore (160 + u) s.hub k ∧ k.fld SIP_CNT_REENC = satAdd (2 ^ 32 - 1) (s.hub.fld SIP_CNT_REENC) 1) ∧
      (first = false → second = false → Hub.oneMore 162 s.hub k ∧ Hub.oneMore 163 s.hub k ∧
        k.fld SIP_CNT_VERIFY_FAIL = satAdd (2 ^ 32 - 1) (s.hub.fld SIP_CNT_VERIFY_FAIL) 1)
  ) ∧
  (
  ∀ s : State, s.hub.awake →
    (∀ p n, n < 128 → s.hub.livePath p → Completes (.histCommit p n) s fun k =>
      k.cis = { s.hub.cis with histDue := s.hub.cis.histDue ++ [n] } ∧ Framed (fun _ => False) [.cis] s.hub k) ∧
    (∀ n, n < 128 →
      let k := s.hub.loadHist n
      let result :=
        if n = 0 ∨ s.hub.ringSize n = 0 then 3
        else if (s.hub.ring n).running then 1
        else if s.hub.fld (CIS_STREAM_CFG_RATIO n) = 0 ∧
          (s.hub.fld (CIS_STREAM_CFG_CLASS n) ≠ 3 ∨ s.hub.fld (CIS_STREAM_CFG_DEG_RATIO n) = 0) then 2 else 0
      k.fld SIP_HIST_STATUS_RESULT = result ∧ k.fld SIP_HIST_STATUS_STREAM = n ∧ Hub.oneMore 165 s.hub k ∧
      (result = 0 → k.ring n = { s.hub.ring n with hist := s.hub.stagedHist, loaded := true, hreset := false } ∧
        ∀ m, m ≠ n → k.ring m = s.hub.ring m) ∧
      (result ≠ 0 → k.cis = s.hub.cis) ∧
      Framed (among [SIP_HIST_COMMIT, SIP_HIST_STATUS]) (.cis :: eventParts) s.hub k) ∧
    ((∃ p ∈ s.hub.cis.rings, p.2.eccSec = true) → Completes .eccSummary s fun k =>
      (∀ n, k.ring n = { s.hub.ring n with eccSec := false }) ∧ Hub.oneMore 149 s.hub k ∧
      Framed (fun _ => False) (.cis :: eventParts) s.hub k)
  )

/-- The link comes up, trains anew, and loses and regains its downlink (R278, R279, R280, R297, R299). -/
def Obligations.LinkBringUp : Prop :=
  ∀ s : State, s.hub.awake →
    let wl (k : Hub) : Prop := Framed (inBlocks [8, 9]) ([.wl, .cis] ++ eventParts) s.hub k
    (∀ j inv, j < 2 → s.hub.fld WL_STAT_STATE ≠ 0 → Completes (.blockLock ⟨j, inv⟩) s fun k =>
      k.flag (WL_RX_STAT_LOCK j) = true ∧ k.flag (WL_RX_STAT_INV j) = inv ∧ wl k ∧
      (s.hub.fld WL_STAT_STATE ≠ 1 → k.fld WL_STAT_STATE = s.hub.fld WL_STAT_STATE ∧
        k.flag WL_STAT_DOWNLINK_OK = (s.hub.flag WL_STAT_DOWNLINK_OK || decide (s.hub.fld WL_STAT_RX_ACTIVE = j)))) ∧
    (∀ j inv, j < 2 → s.hub.fld WL_STAT_STATE = 1 → Completes (.blockLock ⟨j, inv⟩) s fun k =>
      k.fld WL_STAT_STATE = 2 ∧ k.flag (WL_RX_STAT_LOCK j) = true ∧ k.fld WL_STAT_RX_ACTIVE = j ∧
      k.flag WL_STAT_DOWNLINK_OK = true ∧ Hub.oneMore 168 s.hub k ∧ wl k) ∧
    (∀ j < 2, s.hub.fld WL_STAT_STATE ≠ 0 → s.hub.fld WL_STAT_RX_ACTIVE = j → Completes (.lockLoss j) s fun k =>
      k.flag (WL_RX_STAT_LOCK j) = false ∧
      k.fld (WL_RX_STAT_BLOCK_ERR j) = satAdd 65535 (s.hub.fld (WL_RX_STAT_BLOCK_ERR j)) 16 ∧ wl k ∧
      if s.hub.flag (WL_RX_STAT_LOCK (1 - j)) then
        k.fld WL_STAT_RX_ACTIVE = 1 - j ∧ k.flag WL_STAT_DOWNLINK_OK = true ∧ Hub.oneMore 174 s.hub k
      else k.fld WL_STAT_RX_ACTIVE = j ∧ k.flag WL_STAT_DOWNLINK_OK = false) ∧
    (∀ lock inv rev align, s.hub.fld WL_STAT_STATE = 2 → 3 ≤ (List.range 5).countP (bit lock) →
      Completes (.trainAck lock inv rev align) s fun k =>
        k.fld WL_STAT_STATE = 3 ∧ k.fld WL_STAT_ACTIVE = min 4 ((List.range 5).countP (bit lock)) ∧
        (∀ l < 5, k.flag (WL_LANE_STAT_LOCK l) = bit lock l) ∧ Hub.oneMore 168 s.hub k ∧ wl k) ∧
    (∀ lock inv rev, s.hub.fld WL_STAT_STATE = 3 → s.hub.activeLanes ≠ [] → Completes (.trainAck lock inv rev true) s fun k =>
      let n := s.hub.activeLanes.length
      k.fld WL_STAT_STATE = (if n = 4 then 4 else if n = 3 then 5 else 6) ∧ Hub.oneMore 168 s.hub k ∧
      (n = 3 → Hub.oneMore 171 s.hub k) ∧ (n < 3 → Hub.oneMore 173 s.hub k) ∧ wl k) ∧
    (4 ≤ s.hub.fld WL_STAT_STATE → s.hub.fld WL_STAT_STATE ≤ 7 → Completes .train s fun k =>
      k.fld WL_STAT_STATE = 2 ∧ k.wl.swaps = [] ∧ Hub.oneMore 168 s.hub k ∧ wl k) ∧
    (s.hub.linkUp = true → Completes .downlinkLost s fun k =>
      k.fld WL_STAT_STATE = 7 ∧ k.wl.before = s.hub.fld WL_STAT_STATE ∧ k.flag WL_STAT_DOWNLINK_OK = false ∧
      (∀ j < 2, k.flag (WL_RX_STAT_LOCK j) = false) ∧ Hub.oneMore 175 s.hub k ∧ Hub.oneMore 168 s.hub k ∧ wl k) ∧
    (∀ j < 2, s.hub.fld WL_STAT_STATE = 7 → 4 ≤ s.hub.wl.before → s.hub.activeLanes ≠ [] → Completes (.downlinkOk j) s fun k =>
      k.fld WL_STAT_STATE = (let n := s.hub.activeLanes.length; if n = 4 then 4 else if n = 3 then 5 else 6) ∧ k.flag (WL_RX_STAT_LOCK j) = true ∧ k.fld WL_STAT_RX_ACTIVE = j ∧
      k.flag WL_STAT_DOWNLINK_OK = true ∧ Hub.oneMore 176 s.hub k ∧ Hub.oneMore 168 s.hub k ∧ wl k)

/-- Lanes fail, the spare takes over, and lanes return (R277, R281, R289, R296, R298, R300, R301). -/
def Obligations.LanesFailAndReturn : Prop :=
  ∀ s : State, s.hub.awake →
    let pending (l : Nat) : Prop := ∃ k, (k, l) ∈ s.hub.wl.swaps
    (∀ lock inv rev, lock < 32 → s.hub.flag WL_STAT_DOWNLINK_OK = true → s.hub.linkUp = true →
      s.hub.fld WL_STAT_STATE = s.hub.laneState → s.hub.fld WL_STAT_ACTIVE = s.hub.activeLanes.length →
      (∀ l ∈ s.hub.activeLanes, bit lock (s.hub.logOf l) = true) → Completes (.laneStatus lock inv rev) s fun k =>
        (∀ i < 5, k.flag (WL_LANE_STAT_LOCK i) = bit lock i) ∧
        Framed (fun a => ∃ i < 5, a = WL_LANE_STAT i) [.wl] s.hub k) ∧
    (∀ lock inv rev l sp, lock < 32 → l < 4 → sp < 5 → s.hub.flag WL_STAT_DOWNLINK_OK = true → s.hub.linkUp = true →
      s.hub.activeLanes = [0, 1, 2, 3] → s.hub.fld WL_LANE_MAP_SPARE = sp → s.hub.flag (WL_LANE_STAT_LOCK sp) = true →
      bit lock sp = true → s.hub.wl.swaps = [] → s.hub.logOf l < 5 →
      s.hub.activeLanes.filter (fun i => !bit lock (s.hub.logOf i)) = [l] →
      Completes (.laneStatus lock inv rev) s fun k =>
        k.wl.swaps = [(sp, l)] ∧ k.logOf l = 7 ∧ (∀ i < 4, i ≠ l → k.logOf i = s.hub.logOf i) ∧
        k.fld (WL_LANE_STAT_ROLE (s.hub.logOf l)) = 3 ∧ k.fld WL_STAT_STATE = s.hub.fld WL_STAT_STATE ∧ Hub.oneMore 169 s.hub k ∧
        Framed (inBlocks [9]) (.wl :: eventParts) s.hub k) ∧
    (∀ t l sp rest, l < 4 → sp < 5 → s.hub.wl.swaps = (sp, l) :: rest → s.hub.flag (WL_LANE_STAT_LOCK sp) = true →
      Completes (.laneSwap t) s fun k =>
        k.logOf l = sp ∧ (∀ i < 4, i ≠ l → k.logOf i = s.hub.logOf i) ∧
        k.fld WL_LANE_MAP_SPARE = (if s.hub.fld WL_LANE_MAP_SPARE = sp then 7 else s.hub.fld WL_LANE_MAP_SPARE) ∧
        k.fld (WL_LANE_STAT_ROLE sp) = 1 ∧ k.wl.swaps = rest ∧ k.fld WL_LAST_SWAP_T10NS = min 65535 t ∧ Hub.oneMore 170 s.hub k ∧
        Framed (inBlocks [8, 9]) ([.wl, .cis] ++ eventParts) s.hub k) ∧
    (∀ i t0, i < 5 → s.hub.linkUp = true → s.hub.fld (WL_LANE_STAT_ROLE i) = 3 → s.hub.flag (WL_LANE_STAT_LOCK i) = true →
      SMap.find? s.hub.wl.goodSince i = some t0 →
      Completes (.spareReady i) s fun k => Hub.oneMore 179 s.hub k ∧ Framed (inBlocks [9]) (.wl :: eventParts) s.hub k ∧
        (∀ l < 4, s.hub.logOf l = 7 → ¬ pending l → (∀ m < l, s.hub.logOf m = 7 → pending m) → k.wl.swaps = s.hub.wl.swaps ++ [(i, l)]) ∧
        ((∀ l < 4, s.hub.logOf l = 7 → pending l) → k.fld WL_LANE_MAP_SPARE = i ∧ k.fld (WL_LANE_STAT_ROLE i) = 2)) ∧
    (∀ l, 0 < l → l < 4 → s.hub.logOf l ≠ 7 → s.hub.sendsFrames = true → s.hub.flag WL_CTRL_IDLE_EN = true →
      (l = 1 → ∀ n < 128, s.hub.fld (CIS_STREAM_CFG_CLASS n) = 0 → s.hub.ringSize n = 0 ∨ s.hub.runs n = false) →
      Completes (.electricalIdle l) s fun k => k.flag (WL_LANE_STAT_IDLE (s.hub.logOf l)) = true ∧
        Framed (among [WL_LANE_STAT (s.hub.logOf l)]) [] s.hub k) ∧
    (s.hub.linkLane ≠ none → s.hub.wl.waiting = [] → Completes .laneReport s fun k =>
      k.wl.linkNum = (s.hub.wl.linkNum + 1) % 2 ^ 32 ∧ k.wl.outbox.length = 1 ∧ Framed (inBlocks [9]) [.wl] s.hub k) ∧
    (s.hub.linkLane = none → Completes .laneReport s fun k => Framed (fun _ => False) [] s.hub k) ∧
    (s.hub.fld WL_STAT_STATE ≠ 0 → Completes .am s fun k =>
      k.wl = { s.hub.wl with am := (s.hub.wl.am + 1) % 2 ^ 32, ctl := k.wl.ctl } ∧
      (∀ i < 5, s.hub.flag (WL_LANE_STAT_IDLE i) = false →
        SMap.find? k.wl.ctl i = some (amBlock i (s.hub.logicalOf i) s.hub.wl.am)) ∧
      Framed (fun _ => False) [.wl, .pmc] s.hub k) ∧
    (∀ i e, i < 5 → e < 2 ^ 32 → s.hub.flag WL_STAT_DOWNLINK_OK = true → s.hub.linkUp = true → SMap.find? s.hub.wl.prbsAt i = none →
      s.hub.fld (WL_TX_PRBS_ERR_ERRORS i) < e → Completes (.prbsReport i e) s fun k =>
        k.fld (WL_TX_PRBS_ERR_ERRORS i) = e ∧ Hub.oneMore 180 s.hub k ∧
        Framed (among [WL_TX_PRBS_ERR i]) (.wl :: eventParts) s.hub k)

/-- Command words of the downlink (R257, R291, R292, R293, R294, R302, R304). -/
def Obligations.CommandWords : Prop :=
  ∀ s : State, s.hub.awake → s.hub.flag WL_STAT_DOWNLINK_OK = true →
    let answered (k : Hub) (w : BitVec 64) : Prop :=
      if s.hub.linkLane = none then k.wl.outbox = s.hub.wl.outbox ∧ k.wl.waiting = s.hub.wl.waiting ++ [w]
      else k.wl.outbox = s.hub.wl.waiting ++ [w] ∧ k.wl.waiting = []
    (s.hub.linkUp = true →
      (Completes .nop s fun k => Framed (fun _ => False) [] s.hub k) ∧
      (∀ n g, n < 128 → g < 2 ^ 32 → s.hub.ringSize n ≠ 0 → s.hub.fld (CIS_STREAM_CFG_CLASS n) ≠ 0 →
        let old := SMap.get (fun _ => 0) s.hub.wl.grant n
        let used := SMap.get (fun _ => 0) s.hub.wl.used n
        ((g + 2 ^ 32 - old) % 2 ^ 32 < 2 ^ 31 → (g + 2 ^ 32 - used) % 2 ^ 32 ≤ 2 ^ 24 → used < 2 ^ 32 →
          Completes (.credit n g) s fun k => SMap.get (fun _ => 0) k.wl.grant n = g ∧
            k.fld (WL_CREDIT_AVAIL n) = (g + 2 ^ 32 - used) % 2 ^ 32 ∧
            (∀ m, m ≠ n → SMap.get (fun _ => 0) k.wl.grant m = SMap.get (fun _ => 0) s.hub.wl.grant m) ∧
            Framed (among [WL_CREDIT n]) [.wl] s.hub k) ∧
        (2 ^ 31 ≤ (g + 2 ^ 32 - old) % 2 ^ 32 → Completes (.credit n g) s fun k =>
          k.wl.grant = s.hub.wl.grant ∧ answered k (replyNak 0 6 s.hub.wl.dlsn 1) ∧
          Framed (inBlocks [9]) (.wl :: eventParts) s.hub k)) ∧
      (∀ a, a < 2 ^ 32 → let d := (a + 1 + 2 ^ 32 - s.hub.wl.acked) % 2 ^ 32
        0 < d → d < 2 ^ 31 → d ≤ s.hub.outstanding → (∀ n, (s.hub.ring n).held = none) →
        Completes (.ack a) s fun k => k.wl.acked = (a + 1) % 2 ^ 32 ∧ k.fld WL_LSN_ACKED = a ∧
          k.wl.unacked = s.hub.wl.unacked.drop d ∧
          (∀ n < 128, (k.ring n).packets =
            (s.hub.ring n).packets.drop ((s.hub.wl.unacked.take d).countP fun p => p.2 == n))) ∧
      (∀ n, n < 2 ^ 32 → s.hub.isOut n = true → s.hub.wl.retxDone = false → Completes (.retx n) s fun k =>
        k.wl.resend = ((s.hub.wl.unacked.filter fun p => decide (p.2 < 128)).map Prod.fst).filter (fun l =>
          decide ((n + 2 ^ 32 - s.hub.wl.acked) % 2 ^ 32 ≤ (l + 2 ^ 32 - s.hub.wl.acked) % 2 ^ 32)) ∧
        k.wl.retxDone = true ∧ Hub.oneMore 177 s.hub k ∧ Framed (among [WL_CNT_W3]) (.wl :: eventParts) s.hub k) ∧
      (∀ n, 0 < n → n < 128 → s.hub.ringSize n ≠ 0 → (s.hub.ring n).flushDue = false → (s.hub.ring n).open? ≠ none →
        Completes (.flush n) s fun k => k.ring n = { s.hub.ring n with flushDue := true } ∧
          Framed (among [CIS_RING_STAT n]) (.cis :: eventParts) s.hub k)) ∧
    (s.hub.linkUp = false → Completes .nop s fun k => answered k (replyNak 0 12 s.hub.wl.dlsn 0) ∧
      Framed (inBlocks [9]) (.wl :: eventParts) s.hub k)

/-- READ and WRITE over the link, and whole downlink frames (R284, R289, R291, R295, R302). -/
def Obligations.CommandsOverTheLink : Prop :=
  ∀ (s : State) (tag a : Nat), s.hub.awake → s.hub.flag WL_STAT_DOWNLINK_OK = true →
    let answered (h k : Hub) (w : BitVec 64) : Prop :=
      if h.linkLane = none then k.wl.outbox = h.wl.outbox ∧ k.wl.waiting = h.wl.waiting ++ [w]
      else k.wl.outbox = h.wl.waiting ++ [w] ∧ k.wl.waiting = []
    let crcOf (ws : List (BitVec 64)) : Nat := crc32c (beBytes (ws.flatMap fun w => (wide w.toNat).map (BitVec.ofNat 32)))
    (s.hub.linkUp = true → tag < 256 → a < 2 ^ 32 →
      (∀ r, replay s.hub.wl.cache tag a = some r → Completes (.read tag a) s fun k =>
        answered s.hub k r ∧ k.wl.cache = s.hub.wl.cache ∧ Framed (inBlocks [9]) [.wl] s.hub k) ∧
      (∀ r d, replay s.hub.wl.cache tag a = some r → Completes (.write tag a d) s fun k =>
        answered s.hub k r ∧ k.wl.cache = s.hub.wl.cache ∧ Framed (inBlocks [9]) [.wl] s.hub k) ∧
      (∀ v h, replay s.hub.wl.cache tag a = none → s.hub.passTime.readAny .downlink a = (.done, v, h) →
        Completes (.read tag a) s fun k => answered s.hub k (replyRead tag v.toNat) ∧
          k.wl.cache = keep s.hub.wl.cache tag a (replyRead tag v.toNat) ∧ Framed (inBlocks [9]) [.wl, .latch] s.hub k) ∧
      (∀ d h, replay s.hub.wl.cache tag a = none → s.hub.passTime.writeAny .downlink a d = (.done, h) →
        Completes (.write tag a d) s fun k => answered h k (replyWrite tag) ∧
          replay k.wl.cache tag a = some (replyWrite tag) ∧ (∀ r, r / 0x10000 ≠ 9 → k.reg r = h.reg r) ∧ k.staged = h.staged)) ∧
    (∀ count crc n ws, n < 65536 → crc ≠ crcOf ws → Completes (.downlinkFrame count crc n ws) s fun k =>
      k.wl.dlsn = n ∧ answered s.hub k (replyNak 0 1 n 0) ∧
      k.fld WL_CNT_DL_BAD_CRC = satAdd (2 ^ 32 - 1) (s.hub.fld WL_CNT_DL_BAD_CRC) 1 ∧
      Framed (inBlocks [9]) (.wl :: eventParts) s.hub k) ∧
    (∀ count n ws, n < 65536 → count ≠ ws.length → Completes (.downlinkFrame count (crcOf ws) n ws) s fun k =>
      k.wl.dlsn = n ∧ answered s.hub k (replyNak 0 11 n 0) ∧ Framed (inBlocks [9]) (.wl :: eventParts) s.hub k) ∧
    (∀ n ws, n < 65536 → ws ≠ [] → ws.length ≤ 64 → (∀ w ∈ ws, w = (0 : BitVec 64)) → s.hub.linkUp = true →
      Completes (.downlinkFrame ws.length (crcOf ws) n ws) s fun k =>
        k.wl.dlsn = n ∧ k.wl.outbox = s.hub.wl.outbox ∧
        k.fld WL_CNT_DL_FRAMES = satAdd (2 ^ 32 - 1) (s.hub.fld WL_CNT_DL_FRAMES) 1 ∧
        Framed (among [WL_CNT_W4]) [.wl, .pmc] s.hub k)

/-- DATA and INTERLOCK frames leave (R252, R286, R287, R288, R292, R297). -/
def Obligations.FramesLeave : Prop :=
  ∀ (s : State) (l : Nat), s.hub.awake → l < 4 → s.hub.logOf l ≠ 7 → s.hub.linkUp = true →
    (s.hub.interlockReady = none ∨ l ∉ s.hub.copyLanes →
      (∀ n rest, s.hub.wl.resend = n :: rest → Completes (.dataFrame l) s fun k =>
        k.wl.resend = rest ∧ (∃ f, SMap.find? k.wl.lanes (s.hub.logOf l) = some f ∧ f.kind = 0 ∧ f.retx = true ∧ f.num = n) ∧
        k.fld WL_CNT_RESENT = satAdd (2 ^ 32 - 1) (s.hub.fld WL_CNT_RESENT) 1 ∧ k.fld WL_LSN_NEXT = s.hub.fld WL_LSN_NEXT ∧
        Framed (among [WL_CNT_W1, WL_LANE_STAT (s.hub.logOf l)]) [.wl, .pmc] s.hub k) ∧
      (∀ n r, s.hub.wl.resend = [] →
        ((s.hub.readyStream 1).orElse fun _ => (s.hub.readyStream 2).orElse fun _ => s.hub.readyStream 3) = some (n, r) →
        s.hub.outstanding < 16384 → Completes (.dataFrame l) s fun k =>
          k.fld WL_LSN_NEXT = (s.hub.fld WL_LSN_NEXT + 1) % 2 ^ 32 ∧ k.wl.unacked = s.hub.wl.unacked ++ [(s.hub.fld WL_LSN_NEXT, n)] ∧
          k.ring n = (if r.content.isSome then { s.hub.ring n with sent := (s.hub.ring n).sent + 1 }
            else { s.hub.ring n with open? := (s.hub.ring n).open?.map fun p => { p with cut := true } }) ∧
          (∀ m, m ≠ n → k.ring m = s.hub.ring m) ∧
          SMap.get (fun _ => 0) k.wl.used n = (SMap.get (fun _ => 0) s.hub.wl.used n + (r.bytes + 63) / 64) % 2 ^ 32 ∧
          (∃ f, SMap.find? k.wl.lanes (s.hub.logOf l) = some f ∧ f.kind = 0 ∧ f.retx = false ∧ f.num = s.hub.fld WL_LSN_NEXT ∧
            f.stream = n ∧ f.seq = r.seq) ∧
          k.fld WL_CNT_DATA = satAdd (2 ^ 32 - 1) (s.hub.fld WL_CNT_DATA) 1 ∧
          Framed (among [WL_CNT_W0, WL_LSN_W0, WL_CREDIT n, WL_LANE_STAT (s.hub.logOf l)]) [.wl, .cis, .pmc] s.hub k)) ∧
    (∀ n r l0 rest, n < 128 → s.hub.copyLanes = l0 :: rest → s.hub.interlockReady = some (n, r) → (s.hub.ring n).held = none →
      (∀ l1 ∈ rest, s.hub.logOf l0 ≠ s.hub.logOf l1) →
      Completes .interlockFrame s fun k =>
        (∃ f g : SentFrame, f.kind = 1 ∧ g.kind = 1 ∧ f.copy = 0 ∧ g.copy = 1 ∧ f.num = s.hub.wl.ilsn ∧ g.num = s.hub.wl.ilsn ∧
          f.stream = n ∧ g.stream = n ∧
          match rest with
          | l1 :: _ => SMap.find? k.wl.inner (s.hub.logOf l0) = some [f] ∧ SMap.find? k.wl.inner (s.hub.logOf l1) = some [g]
          | [] => SMap.find? k.wl.inner (s.hub.logOf l0) = some [f, g]) ∧
        k.wl.ilsn = (s.hub.wl.ilsn + 1) % 2 ^ 32 ∧ (∀ m, m ≠ n → k.ring m = s.hub.ring m) ∧
        (if r.content.isSome then (k.ring n).packets = (s.hub.ring n).packets.drop 1
          else k.ring n = { s.hub.ring n with open? := (s.hub.ring n).open?.map fun p => { p with cut := true } }) ∧
        k.fld WL_LSN_NEXT = s.hub.fld WL_LSN_NEXT)

/-- PTP messages and the selection of a master (R311, R312, R314). -/
def Obligations.PtpMessages : Prop :=
  ∀ (s : State) (m : PtpHdr), s.hub.awake → s.hub.ptpOn = true →
    let mine := m.domain = s.hub.fld FT_CFG_DOMAIN ∧ m.sdo = 0 ∧ s.hub.ft.selected = some (m.clock, m.port)
    let at_ (ns : Nat) : Nat := s.hub.passTime.lt / 10 * 10 + ns % 10
    let counts (f : Fld) (k : Hub) : Prop := k.fld f = satAdd (2 ^ 32 - 1) (s.hub.fld f) 1
    let ptp : Prop := m.dest = Hub.ptpForwardable ∨ m.dest = Hub.ptpLocal
    (∀ cls ds utc v f, ptp → m.domain = s.hub.fld FT_CFG_DOMAIN → m.sdo = 0 → m.logInterval = 0 → s.hub.ft.masters = [f] →
      f.clock = m.clock → f.port = m.port → s.hub.passTime.lt ≤ f.heard + 4000000000 → s.hub.ft.selected = none →
      s.hub.fld FT_STAT_STATE = 0 → m.port < 65536 → m.clock < 2 ^ 64 → cls < 256 →
      Completes (.announce m cls ds utc v) s fun k =>
        k.ft.selected = some (m.clock, m.port) ∧ k.fld FT_STAT_STATE = 1 ∧ k.fld FT_MASTER_PORT = m.port ∧ k.fld FT_MASTER_CLASS = cls ∧
        k.fld FT_MASTER_ID_HI = m.clock / 2 ^ 32 ∧ k.fld FT_MASTER_ID_LO = m.clock % 2 ^ 32 ∧ counts FT_CNT_ANNOUNCE k ∧
        Hub.oneMore 186 s.hub k ∧ Hub.oneMore 184 s.hub k ∧ Framed (inBlocks [10]) (.ft :: eventParts) s.hub k) ∧
    (∀ t1 corr ns, ptp → mine → -4 ≤ m.logInterval → m.logInterval ≤ 1 →
      (Completes (.sync m false t1 corr ns) s fun k =>
        k.ft = { s.hub.ft with sync := some (t1, corr, at_ ns), waiting := none } ∧ counts FT_CNT_SYNC k ∧
        Framed (among [FT_CNT_W0]) [.ft] s.hub k) ∧
      (Completes (.sync m true t1 corr ns) s fun k =>
        k.ft = { s.hub.ft with waiting := some { seq := m.seq, lt := at_ ns, corr := corr } } ∧
        Framed (fun _ => False) [.ft] s.hub k)) ∧
    (∀ t1 corr w, ptp → mine → -4 ≤ m.logInterval → m.logInterval ≤ 1 → s.hub.ft.waiting = some w → w.seq = m.seq → Completes (.followUp m t1 corr) s fun k =>
      k.ft = { s.hub.ft with sync := some (t1, corr + w.corr, w.lt), waiting := none } ∧ counts FT_CNT_SYNC k ∧
      Framed (among [FT_CNT_W0]) [.ft] s.hub k) ∧
    (∀ ns, s.hub.ft.selected ≠ none → Completes (.delayReq ns) s fun k =>
      let stamp := if s.hub.flag FT_STAT_FT_VALID then s.hub.ftNs (at_ ns) else at_ ns
      k.ft = { s.hub.ft with
        request := some (s.hub.ft.reqSeq, at_ ns, stamp)
        delayOut := some { dest := if s.hub.flag FT_CFG_DST then 0x0180C200000E else 0x011B19000000, source := s.hub.macAddress
                           tag := s.hub.vlanTag, seq := s.hub.ft.reqSeq, origin := stamp }
        reqSeq := (s.hub.ft.reqSeq + 1) % 65536 } ∧
      counts FT_CNT_DELAY_REQ k ∧ Framed (among [FT_CNT_W1]) [.ft] s.hub k) ∧
    (∀ a b t corr ns, (ptp ∧ ¬ mine) ∨ (¬ ptp ∧ m.dest = s.hub.macAddress) → ∀ c ∈ [Instr.sync m a t corr ns, .followUp m t corr, .delayResp m t b], Completes c s fun k =>
      counts FT_CNT_IGNORED k ∧ Framed (among [FT_CNT_W4]) [] s.hub k)

/-- A Delay_Resp completes an exchange (R307, R313, R314, R316). -/
def Obligations.Exchanges : Prop :=
  ∀ (s : State) (m : PtpHdr) (t4 corr t1 cs : Int) (lt2 lt3 stamp : Nat), s.hub.awake → s.hub.ptpOn = true →
    m.dest = Hub.ptpForwardable ∨ m.dest = Hub.ptpLocal →
    m.domain = s.hub.fld FT_CFG_DOMAIN → m.sdo = 0 → s.hub.ft.selected = some (m.clock, m.port) → -4 ≤ m.logInterval →
    m.logInterval ≤ 4 → s.hub.ft.request = some (m.seq, lt3, stamp) → s.hub.ft.sync = some (t1, cs, lt2) → s.hub.boot.stalled = false →
    let ps : Int := 1000000000
    let ms := s.hub.ftAt lt2 - (t1 + cs) * ps
    let sm := (t4 - corr) * ps - s.hub.ftAt lt3
    let mpd := ratioOr (ms + sm) 2000000000
    let o := ratioOr (ms - sm - 2 * s.hub.sfld (FT_ASYM_PS 0) * ps) 2000000000
    let far := 1000 * s.hub.fld FT_JUMP_CFG_THRESH < (mpd - s.hub.ft.dref).natAbs
    let answered (k : Hub) : Prop := k.ft.request = none ∧ k.ft.sync = some (t1, cs, lt2) ∧
      k.fld FT_CNT_DELAY_RESP = satAdd (2 ^ 32 - 1) (s.hub.fld FT_CNT_DELAY_RESP) 1 ∧
      Framed (inBlocks [10]) (.ft :: eventParts) s.hub k
    (s.hub.fld FT_STAT_STATE = 1 → s.hub.ft.gathered.length + 1 < s.hub.fld FT_SERVO_ACQ_N →
      Completes (.delayResp m t4 corr) s fun k => answered k ∧ k.ft.gathered = s.hub.ft.gathered ++ [o] ∧
        k.fld FT_STAT_STATE = 1 ∧ k.flag FT_STAT_FT_VALID = s.hub.flag FT_STAT_FT_VALID ∧ ∀ lt, k.ftAt lt = s.hub.ftAt lt) ∧
    (s.hub.fld FT_STAT_STATE = 1 → s.hub.fld FT_SERVO_ACQ_N ≤ s.hub.ft.gathered.length + 1 →
      Completes (.delayResp m t4 corr) s fun k => answered k ∧ k.flag FT_STAT_FT_VALID = true ∧ k.fld FT_STAT_STATE = 2 ∧
        k.ft.stepDue = true ∧ (∀ lt, k.ftAt lt = s.hub.ftAt lt - median (s.hub.ft.gathered ++ [o]) * ps) ∧
        Hub.oneMore 185 s.hub k ∧ Hub.oneMore 184 s.hub k) ∧
    (s.hub.fld FT_STAT_STATE = 2 → far → s.hub.ft.jumps = [] → 2 ≤ s.hub.fld FT_JUMP_CFG_PERSIST →
      Completes (.delayResp m t4 corr) s fun k => answered k ∧ k.fld FT_STAT_STATE = 3 ∧ k.flag FT_STAT_ASYM_SUSPECT = true ∧
        k.ft.jumps = [(mpd, o)] ∧ k.ft.y = s.hub.ft.y ∧ k.ft.dref = s.hub.ft.dref ∧ Hub.oneMore 187 s.hub k ∧ Hub.oneMore 184 s.hub k) ∧
    (s.hub.fld FT_STAT_STATE = 2 → ¬ far →
      Completes (.delayResp m t4 corr) s fun k => answered k ∧ k.fld FT_STAT_STATE = 2 ∧
        k.ft.delays = (mpd :: s.hub.ft.delays).take 16 ∧ k.ft.dref = mean ((mpd :: s.hub.ft.delays).take 16))

/-- After the step FT changes only by its rate (R306, R307, R314). -/
def Obligations.TimeIsNeverSteppedTwice : Prop :=
  ∀ (s : State) (m : PtpHdr) (a v : Bool) (t corr : Int) (ns cls : Nat) (ds : List Nat) (p : Path), s.hub.awake →
    s.hub.flag FT_STAT_FT_VALID = true → 2 ≤ s.hub.fld FT_STAT_STATE → s.hub.fld FT_STAT_STATE ≤ 4 →
    ∀ c ∈ [Instr.sync m a t corr ns, .followUp m t corr, .delayReq ns, .delayResp m t corr, .announce m cls ds t v, .lossIntervals,
        .qualifiedMasterLoss, .jumpRampEnd, .asymAck p, .xchkRebase p, .summary, .ethLink a],
      Completes c s fun k => k.flag FT_STAT_FT_VALID = true ∧ 2 ≤ k.fld FT_STAT_STATE ∧ k.fld FT_STAT_STATE ≤ 4 ∧
        k.fld FT_STAT_SESSION = s.hub.fld FT_STAT_SESSION ∧ k.ftAt k.ft.at_ = s.hub.ftAt k.ft.at_

/-- Losses, the end of a ramp and the commands of Facility Time (R314, R317, R318). -/
def Obligations.FacilityTimeStates : Prop :=
  ∀ s : State, s.hub.awake →
    (s.hub.fld FT_STAT_STATE = 2 ∨ s.hub.fld FT_STAT_STATE = 3 → Completes .lossIntervals s fun k =>
      k.fld FT_STAT_STATE = 4 ∧ k.ft = { s.hub.ft with jumps := [] } ∧ Hub.oneMore 184 s.hub k ∧
      Framed (among [FT_STAT]) (.ft :: eventParts) s.hub k) ∧
    (s.hub.ft.selected ≠ none → 1 ≤ s.hub.fld FT_STAT_STATE → s.hub.fld FT_STAT_STATE ≤ 4 →
      Completes .qualifiedMasterLoss s fun k =>
        k.fld FT_STAT_STATE = (if s.hub.fld FT_STAT_STATE = 1 then 0 else 4) ∧ k.ft.selected = none ∧ k.ft.gathered = [] ∧
        k.ft.y = s.hub.ft.y ∧ k.flag FT_STAT_FT_VALID = s.hub.flag FT_STAT_FT_VALID ∧ k.reg FT_MASTER_W0 = 0 ∧
        k.reg FT_MASTER_W1 = 0 ∧ k.reg FT_MASTER_W2 = 0 ∧
        Framed (among [FT_STAT, FT_PATH_DELAY, FT_MASTER_W0, FT_MASTER_W1, FT_MASTER_W2]) (.ft :: eventParts) s.hub k) ∧
    (s.hub.boot.stalled = true → Completes .jumpRampEnd s fun k => Framed (fun _ => False) [] s.hub k) ∧
    (∀ a e dy, s.hub.boot.stalled = false → s.hub.ft.ramp = some (a, e, dy) → Completes .jumpRampEnd s fun k =>
      k.ft.ramp = none ∧ k.ft.y = s.hub.ft.freq ∧ k.ftAt e = s.hub.ftAt e ∧ Framed (among [FT_RATE]) [.ft] s.hub k) ∧
    (∀ p, s.hub.livePath p →
      (Completes (.asymAck p) s fun k =>
        if s.hub.fld FT_STAT_STATE = 3 then k.ft = s.hub.ft ∧ Framed (fun _ => False) [] s.hub k
        else k.flag FT_STAT_ASYM_SUSPECT = false ∧ k.ft = { s.hub.ft with kept := false } ∧ Framed (among [FT_STAT]) [.ft] s.hub k) ∧
      (Completes (.xchkRebase p) s fun k => k.ft = { s.hub.ft with rebase := true } ∧ Framed (fun _ => False) [.ft] s.hub k))

/-- Time-correspondence records and the frames of the Ethernet port (R309, R310, R319, R320, R321, R322, R323). -/
def Obligations.TimeRecordsAndFrames : Prop :=
  ∀ s : State, s.hub.awake →
    (∀ ns t, ns < 10 → s.hub.recordTurn = some t → t * s.hub.spt ≤ s.hub.now → s.hub.ringSize 0 ≠ 0 → (s.hub.ring 0).open? = none →
      s.hub.flag FT_XCHK_EN = false →
      Completes (.timeCorrespondence ns) s fun k =>
        let lt := s.hub.passTime.lt / 10 * 10 + ns
        let w (i : Nat) : Nat := (k.ft.record.getD i 0).toNat
        k.ft.record.length = 8 ∧ bits (w 0) 31 28 = 14 ∧ bits (w 0) 27 24 = 1 ∧ bit (w 0) 23 = s.hub.flag FT_STAT_FT_VALID ∧
        bit (w 0) 22 = (s.hub.fld FT_STAT_STATE == 2) ∧ bit (w 0) 19 = s.hub.ft.stepDue ∧ bit (w 0) 17 = s.hub.ft.acceptedDue ∧
        bits (w 0) 15 8 = s.hub.fld FT_STAT_SESSION ∧ [w 1, w 2] = wide s.hub.mtNow.pack ∧
        [w 3, w 4] = wide (if s.hub.flag FT_STAT_FT_VALID then s.hub.ftNs lt else 0) ∧ [w 5, w 6] = wide lt ∧
        (∃ p, (k.ring 0).open? = some p ∧ p.conts = k.ft.record.map Cont.word) ∧ k.ft.lastTurn = some t ∧
        k.ft.stepDue = false ∧ k.ft.acceptedDue = false ∧ Framed (fun _ => False) [.ft, .cis, .pmc] s.hub k) ∧
    (s.hub.ethUp = true → s.hub.fld FT_ETH_CFG_SUMMARY_MS ≠ 0 → Completes .summary s fun k =>
      (∃ o, k.ft.summary = some o ∧ o.dest = (if s.hub.peer = 0 then 2 ^ 48 - 1 else s.hub.peer) ∧ o.source = s.hub.macAddress) ∧
      Framed (fun _ => False) [.ft] s.hub k) ∧
    (∀ f : EthFrame, s.hub.ethUp = true →
      (f.fcsOk = false → Completes (.command f) s fun k =>
        k.fld FT_ETH_STAT_FCS = satAdd (2 ^ 32 - 1) (s.hub.fld FT_ETH_STAT_FCS) 1 ∧ Framed (among [FT_ETH_STAT_W1]) [] s.hub k) ∧
      (f.fcsOk = true → s.hub.accepts f.dest = false → Completes (.command f) s fun k => Framed (fun _ => False) [] s.hub k) ∧
      (f.fcsOk = true → s.hub.accepts f.dest = true → s.hub.peer ≠ 0 → f.source ≠ s.hub.peer → Completes (.command f) s fun k =>
        k.fld FT_ETH_STAT_FOREIGN = satAdd (2 ^ 32 - 1) (s.hub.fld FT_ETH_STAT_FOREIGN) 1 ∧
        Framed (among [FT_ETH_STAT_W2]) [] s.hub k) ∧
      (f.fcsOk = true → s.hub.accepts f.dest = true → s.hub.peer = 0 ∨ f.source = s.hub.peer →
        (f.magic ≠ 0x4A ∨ f.version ≠ 1 ∨ f.kind ≠ 0 ∨ f.lengthOk = false → Completes (.command f) s fun k =>
          (∃ o, k.ft.reply = some o ∧ o.dest = f.source ∧ o.words = Hub.padNops [replyNak 0 0x0B (f.seq % 65536) 0]) ∧
          Framed (inBlocks [9]) ([.ft, .wl] ++ eventParts) s.hub k) ∧
        (∀ tag a v h, f.magic = 0x4A → f.version = 1 → f.kind = 0 → f.lengthOk = true → tag < 256 → a < 2 ^ 32 →
          f.words = [BitVec.ofNat 64 (6 * 2 ^ 56 + tag * 2 ^ 48 + a)] → replay s.hub.ft.cache tag a = none →
          s.hub.passTime.readAny .ethernet a = (.done, v, h) → Completes (.command f) s fun k =>
            (∃ o, k.ft.reply = some o ∧ o.dest = f.source ∧ o.words = Hub.padNops [replyRead tag v.toNat]) ∧
            Framed (fun _ => False) [.ft, .latch] s.hub k))) ∧
    (∀ up : Bool, s.hub.flag FT_ETH_STAT_LINK ≠ up → Completes (.ethLink up) s fun k =>
      k.flag FT_ETH_STAT_LINK = up ∧ k.flag FT_STAT_ETH_LINK = up ∧ k.flag FT_ETH_STAT_AN_DONE = up ∧ Hub.oneMore 191 s.hub k ∧
      Framed (among [FT_ETH_STAT_W0, FT_STAT]) eventParts s.hub k)

/-- The scrubber's passes, errors and row repair (R327, R328, R329, R350). -/
def Obligations.ScrubAndRepair : Prop :=
  ∀ s : State, s.hub.awake →
    (Completes (.scrubPass []) s fun k => k.fld DMA_SCRUB_PASSES = satAdd (2 ^ 32 - 1) (s.hub.fld DMA_SCRUB_PASSES) 1 ∧
      k.mem.seenRows = s.hub.mem.seenRows ∧ k.mem.bytes = s.hub.mem.bytes ∧ Hub.oneMore 244 s.hub k ∧
      Framed (among [DMA_SCRUB]) eventParts s.hub k) ∧
    (∀ f : EccFind, f.mem < 22 → f.mem ≠ 18 → f.fatal = false → s.hub.memOn f.mem = true → memOf f.addr = some f.mem →
      s.hub.mem.copying = [] → Completes (.scrubPass [f]) s fun k =>
        k.fld (DMA_MEM_STAT_CORRECTED f.mem) = satAdd (2 ^ 32 - 1) (s.hub.fld (DMA_MEM_STAT_CORRECTED f.mem)) 1 ∧
        (f.mem, f.row) ∈ k.mem.seenRows ∧ f.mem ∈ k.mem.eccSec ∧ k.mem.bytes = s.hub.mem.bytes ∧
        k.mem.copying = (if (f.mem, f.row) ∈ s.hub.mem.seenRows ∧ 0 < s.hub.sparesIn f.mem f.row then [(f.mem, f.row, 0)] else [])) ∧
    (∀ f : EccFind, f.mem = 21 → f.fatal = true → memOf f.addr = some 21 → 0 < s.hub.sparesIn 21 f.row → s.hub.mem.copying = [] →
      Completes (.scrubPass [f]) s fun k => f.addr / 8 * 8 ∈ k.mem.poison ∧ k.mem.copying = [(21, f.row, 1)] ∧
        k.fld (DMA_MEM_STAT_UNCORR 21) = satAdd 65535 (s.hub.fld (DMA_MEM_STAT_UNCORR 21)) 1 ∧ Hub.oneMore 241 s.hub k ∧
        k.mem.bytes = s.hub.mem.bytes) ∧
    (∀ m row cause, m < 32 → row < 16384 → cause < 2 → s.hub.mem.copying = [(m, row, cause)] → Completes (.rowRepaired m row) s fun k =>
      k.mem.copying = [] ∧ k.mem.repaired = s.hub.mem.repaired ++ [(m, row)] ∧
      k.reg (DMA_REPAIR_LOG 0) = BitVec.ofNat 32 (m * 2 ^ 27 + 2 ^ 26 + cause * 2 ^ 25 + row) ∧
      (∀ i < 15, k.reg (DMA_REPAIR_LOG (i + 1)) = s.hub.reg (DMA_REPAIR_LOG i)) ∧ Hub.oneMore 242 s.hub k ∧
      k.mem.bytes = s.hub.mem.bytes) ∧
    (s.hub.mem.eccSec ≠ [] → Completes .eccCorrected s fun k => k.mem = { s.hub.mem with eccSec := [], paceDue := k.mem.paceDue } ∧
      Hub.oneMore 240 s.hub k ∧ Framed (fun _ => False) (.mem :: eventParts) s.hub k) ∧
    (∀ m, m ∈ s.hub.mem.filling → Completes (.fillDone m) s fun k =>
      k.mem.filling = s.hub.mem.filling.filter (fun x => x != m) ∧ k.mem.bytes = s.hub.mem.bytes ∧ Hub.oneMore 246 s.hub k ∧
      Framed (fun _ => False) (.mem :: eventParts) s.hub k)

/-- DMA channels start, are paced and aborted (R337, R339, R340, R341, R356). -/
def Obligations.DmaStartsAndAborts : Prop :=
  ∀ (s : State) (p : Path) (n : Nat), s.hub.awake → n < 32 → s.hub.livePath p →
    let mine := p = .mc ∨ (24 ≤ n ∧ n ≤ 27)
    let i := s.hub.fld (DMA_CH_CFG_HEAD n)
    let d := s.hub.desc i
    let idle := s.hub.fld (DMA_CH_STAT_STATE n) < 2
    let startable := s.hub.flag (DMA_CH_CFG_EN n) = true ∧ idle ∧ s.hub.boot.stalled = false ∧ d.own = true ∧ d.repeats = false ∧
      s.hub.poisoned (Hub.descAt i) 8 = false ∧ s.hub.checkDesc n d = 0
    let active (k : Hub) : Prop := k.fld (DMA_CH_STAT_STATE n) = 2 ∧ k.fld (DMA_CH_STAT_CUR n) = i ∧
      k.mem.bytes = s.hub.mem.bytes ∧ Framed (among [DMA_CH_STAT n]) [.mem, .paces] s.hub k
    (mine → startable → Completes (.start p n none) s active) ∧
    (mine → s.hub.flag (DMA_CH_CFG_EN n) = true → ¬ idle → ∀ head, Completes (.start p n head) s fun k =>
      k.fld (DMA_CH_STAT_PACE_MISSED n) = satAdd 255 (s.hub.fld (DMA_CH_STAT_PACE_MISSED n)) 1 ∧
      k.fld (DMA_CH_STAT_STATE n) = s.hub.fld (DMA_CH_STAT_STATE n) ∧ k.mem.bytes = s.hub.mem.bytes) ∧
    (¬ mine → ∀ head, ∀ c ∈ [Instr.start p n head, .abort p n, .paceIgnore p n, .paceAccept p n], Completes c s fun k =>
      Framed (inBlocks [9]) (.wl :: eventParts) s.hub k) ∧
    (mine → (Completes (.paceIgnore p n) s fun k => (k.chan n).ignorePace = true ∧ (∀ m, m ≠ n → k.chan m = s.hub.chan m) ∧
        Framed (fun _ => False) [.mem] s.hub k) ∧
      (Completes (.paceAccept p n) s fun k => (k.chan n).ignorePace = false ∧ (∀ m, m ≠ n → k.chan m = s.hub.chan m) ∧
        Framed (fun _ => False) [.mem] s.hub k)) ∧
    (s.hub.mem.paceDue = [n] →
      ((s.hub.chan n).ignorePace = true → Completes (.pace n) s fun k => k.mem.paceDue = [] ∧
        Framed (fun _ => False) [.paces] s.hub k) ∧
      ((s.hub.chan n).ignorePace = false → startable → Completes (.pace n) s fun k => active k ∧ k.mem.paceDue = [])) ∧
    (mine → s.hub.fld (DMA_CH_STAT_STATE n) = 2 → Completes (.abort p n) s fun k => k.fld (DMA_CH_STAT_STATE n) = 3 ∧
      Framed (among [DMA_CH_STAT n]) [] s.hub k) ∧
    (∀ b, s.hub.fld (DMA_CH_STAT_STATE n) = 3 → s.hub.fld (DMA_CH_STAT_CUR n) = i → b < (burstOrderOf s.hub n).length →
      d.last = true → s.hub.checkDesc n d = 0 → i < 2048 → Completes (.aborted n b) s fun k =>
        (k.desc i).w6 = 0x20000000 ∧ (k.desc i).w7 = d.residue (Hub.wordsOf ((burstOrderOf s.hub n).take b)) % 2 ^ 32 ∧
        (k.desc i).own = false ∧ k.fld (DMA_CH_STAT_LAST_STATUS n) = 2 ∧ k.fld (DMA_CH_STAT_STATE n) < 2 ∧
        Hub.oneMore (112 + n) s.hub k)

/-- A completed line holds what its source held (R338, R340). -/
def Obligations.DmaCopies : Prop :=
  ∀ (s : State) (n : Nat), s.hub.awake → n < 32 → s.hub.fld (DMA_CH_STAT_STATE n) = 2 → s.hub.mem.poison = [] →
    let i := s.hub.fld (DMA_CH_STAT_CUR n)
    let d := s.hub.desc i
    let plain (a : Nat) : Prop := ∀ b < 4 * d.lineWords, regionOf (a + b) = some .captures ∨ regionOf (a + b) = some .snapshot
    i < 2048 → d.toStream = false → d.last = true → d.lines = 1 → s.hub.checkDesc n d = 0 → plain d.src → plain d.dst →
    Completes (.complete n) s fun k =>
      (∀ w < d.lineWords, k.memWord (d.dst + 4 * w) = s.hub.memWord (d.src + 4 * w)) ∧
      (∀ a, a < d.dst ∨ d.dst + 4 * d.lineWords ≤ a → a < Hub.descAt i ∨ Hub.descAt i + 32 ≤ a →
        k.plainByte a = s.hub.plainByte a) ∧
      (k.desc i).w6 = 0x10000000 ∧ (k.desc i).w7 = 0 ∧ (k.desc i).own = false ∧ k.fld (DMA_CH_STAT_LAST_STATUS n) = 1 ∧
      k.fld (DMA_CH_STAT_STATE n) < 2 ∧ (d.evt = true → Hub.oneMore (112 + n) s.hub k)

/-- Service dumps, event records and the firmware's entries; counter windows and samples (R343, R346, R351, R354, R355, R357). -/
def Obligations.DumpsAndRecords : Prop :=
  (
  ∀ s : State, s.hub.awake →
    (∀ p a w, s.hub.livePath p → a < 2 ^ 32 → 1 ≤ w → w ≤ 65536 →
      (s.hub.flag DMA_DUMP_BUSY = false → Completes (.dump p a w) s fun k =>
        k.flag DMA_DUMP_BUSY = true ∧ (k.reg DMA_DUMP_W0).toNat = a ∧ k.fld DMA_DUMP_WORDS_M1 = w - 1 ∧
        k.mem.dump = some (a, w, s.hub.mtNow) ∧ Hub.oneMore 143 s.hub k ∧
        Framed (among [DMA_DUMP_W0, DMA_DUMP_W1]) (.mem :: eventParts) s.hub k) ∧
      (s.hub.flag DMA_DUMP_BUSY = true → p = .mc → Completes (.dump p a w) s fun k => Hub.oneMore 251 s.hub k ∧
        Framed (fun _ => False) eventParts s.hub k)) ∧
    (∀ a w mt, s.hub.mem.dump = some (a, w, mt) →
      (Completes .dumpDone s fun k => k.mem.dump = none ∧ k.flag DMA_DUMP_BUSY = false ∧ Hub.oneMore 143 s.hub k ∧
        k.mem.bytes = s.hub.mem.bytes) ∧
      (a % 4 ≠ 0 → Completes .dumpDone s fun k => Framed (among [DMA_DUMP_W1]) (.mem :: eventParts) s.hub k)) ∧
    (∀ r rest, s.hub.evt.queue = r :: rest → s.hub.evt.spill = [] → s.hub.ringSize 0 ≠ 0 → (s.hub.ring 0).open? = none → r.length < 64 →
      Completes .eventRecord s fun k => k.evt = { s.hub.evt with queue := rest } ∧
        (∃ p, (k.ring 0).open? = some p ∧ p.fmt = fmtRecords ∧ p.conts = r.map Cont.word) ∧
        (∀ m, m ≠ 0 → k.ring m = s.hub.ring m) ∧ Framed (among [SIP_STREAM_STAT 0]) [.evt, .cis, .pmc] s.hub k) ∧
    (s.hub.evt.mergedNew ≠ 0 → Completes .evtMerged s fun k => k.evt.mergedNew = 0 ∧ Hub.oneMore 249 s.hub k ∧
      Framed (fun _ => False) eventParts s.hub k) ∧
    (∀ (m : Word) (w : Nat), w < 8 → s.hub.livePath .mc → Completes (.pendClear .mc w m) s fun k =>
      (∀ n < 256, k.evt.pend.getLsbD n = (s.hub.evt.pend.getLsbD n && !(n / 32 == w && m.getLsbD (n % 32)))) ∧
      (∀ n < 256, n / 32 = w → m.getLsbD (n % 32) = true → SMap.find? k.evt.extra n = none) ∧
      k.evt.queue = s.hub.evt.queue ∧ k.evt.total = s.hub.evt.total ∧ Framed (fun _ => False) [.evt] s.hub k) ∧
    (∀ (p : Path) (m : Word) (w : Nat), w < 8 → s.hub.livePath p → p ≠ .mc → Completes (.pendClear p w m) s fun k =>
      (∀ n < 256, n ≠ 252 → k.evt.pend.getLsbD n = s.hub.evt.pend.getLsbD n) ∧
      Framed (inBlocks [9]) (.wl :: eventParts) s.hub k)
  ) ∧
  (
  ∀ s : State, s.hub.awake →
    (∀ cs : List Nat, Completes (.pmcWindow cs) s fun k =>
      (∀ i < 68, k.perf i = (s.hub.perf i + cs.getD i 0) % 2 ^ 48 ∧ k.counted i = 0) ∧ k.evt = s.hub.evt ∧
      Framed (inBlocks [13]) [.pmc] s.hub k) ∧
    (∀ r st kn,
      (s.hub.flag PMC_SAMPLE_CFG_EN = true → s.hub.evt.sampleAt = none → Completes (.counterSample r st kn) s fun k =>
        k.evt.sampleAt = some k.lt ∧ Hub.oneMore 248 s.hub k ∧ Framed (fun _ => False) eventParts s.hub k) ∧
      (s.hub.flag PMC_SAMPLE_CFG_EN = false → Completes (.counterSample r st kn) s fun k =>
        k.evt = s.hub.evt ∧ Framed (fun _ => False) [] s.hub k))
  )

/-- Visits fall due, start and wait (R362, R365, R384). -/
def Obligations.CalibrationVisits : Prop :=
  ∀ (s : State) (c : Nat), s.hub.awake → c < 512 →
    let g := c / 16
    let r := s.hub.rotation g
    (s.hub.visitable c = true → s.hub.flag CAL_CTRL_EN = true → c ∉ r.queue → r.visit ≠ none →
      Completes (.visitDue c) s fun k => k.rotation g = { r with queue := r.queue ++ [c] } ∧
        (∀ m, m ≠ g → k.rotation m = s.hub.rotation m) ∧ Framed (fun _ => False) [.cal] s.hub k) ∧
    (s.hub.visitable c = true → s.hub.flag CAL_CTRL_EN = true → r.queue = [] → r.visit = none →
      s.hub.fld (CNV_SPARE_STAT_STATE g) = 0 → s.hub.spareVisits g = true → s.hub.afePowered g = true → s.hub.boot.stalled = false →
      Completes (.visitDue c) s fun k =>
        (k.rotation g).visit = some c ∧ (k.rotation g).queue = [] ∧ k.fld (CAL_GRP_STAT_STATE g) = 2 ∧
        k.fld (CAL_GRP_STAT_INPUT g) = c % 16 ∧ k.fld (CNV_SPARE_STAT_STATE g) = 1 ∧ k.fld (CNV_SPARE_STAT_REASON g) = 1 ∧
        k.fld (CNV_SPARE_STAT_INPUT g) = c % 16) ∧
    (∀ p, s.hub.livePath p → s.hub.visitable c = true → Completes (.calVisit p c) s fun k =>
      k.cal = { s.hub.cal with visitDue := s.hub.cal.visitDue ++ [c] } ∧ Framed (fun _ => False) [.cal] s.hub k) ∧
    (s.hub.visitable c = true → s.hub.cal.visitDue = [c] → r.visit ≠ none →
      (∀ m, m ≠ g → s.hub.applyVisits.rotation m = s.hub.rotation m) ∧ s.hub.applyVisits.cal.visitDue = [] ∧
      (r.first = none → s.hub.applyVisits.rotation g = { r with queue := c :: r.queue.filter (fun x => x != c) }) ∧
      (∀ d m, d ≠ c → r.first = some (d, m) → r.queue.head? = some d →
        s.hub.applyVisits.rotation g = { r with queue := d :: c :: (r.queue.filter fun x => x != c).drop 1 })) ∧
    (s.hub.livePath .mc → s.hub.visitable c = false → Completes (.calVisit .mc c) s fun k => Hub.oneMore 251 s.hub k ∧
      Framed (fun _ => False) eventParts s.hub k)

/-- What a visit measures, and what comes into force (R82, R362, R367, R368, R369, R370, R375, R376). -/
def Obligations.VisitsMeasureAndApply : Prop :=
  ∀ (s : State) (g c : Nat) (m : CellMeas), s.hub.awake → g < 32 → c < 512 → c / 16 = g → s.hub.boot.stalled = false →
    let n := 17 * g + c % 16
    let r := s.hub.rotation g
    let key := Hub.coefKey n (s.hub.mode c) (s.hub.setting c)
    let set (h : Hub) (x : Nat) : Coef := SMap.get (fun _ => ({} : Coef)) h.cal.sets x
    let near (o : Int) (a : Nat) (d e : Nat) := (m.offset - o).natAbs ≤ d ∧ ((m.gain : Int) - a).natAbs ≤ e
    let old := s.hub.coef n (s.hub.mode c) (s.hub.setting c)
    (r.visit = some c → s.hub.fld (CNV_SPARE_STAT_STATE g) = 2 → s.hub.fld (CNV_SPARE_STAT_REASON g) = 1 → 3072 ≤ r.convs →
      (Hub.measFailure m.offset m.gain 0 = 0 → -16 ≤ m.trimHi → m.trimHi ≤ 15 → -16 ≤ m.trimLo → m.trimLo ≤ 15 → m.tap ≤ 63 →
        (r.first = none → Completes (.measurementEnd g (.visit m 0)) s fun k =>
          k.rotation g = (if near old.offset old.gain 65536 16384 then { r with result := some m, measured := true }
            else { r with first := some (c, m), queue := c :: r.queue.filter (fun x => x != c) }) ∧
          k.fld (CNV_SPARE_STAT_STATE g) = 3 ∧ k.fld (CAL_GRP_STAT_STATE g) = 4 ∧
          Framed (among [CNV_SPARE_STAT g, CAL_GRP_STAT g]) [.cal, .afe] s.hub k) ∧
        (∀ f, r.first = some (c, f) → Completes (.measurementEnd g (.visit m 0)) s fun k =>
          k.rotation g = (if near f.offset f.gain 4096 1024
            then { r with result := some m, first := none, large := true, measured := true }
            else { r with result := none, first := none, large := false, measured := true }) ∧
          k.fld (CNV_SPARE_STAT_STATE g) = 3 ∧ Hub.oneMore 209 s.hub k)) ∧
      (∀ code, 1 ≤ code → code ≤ 6 → Completes (.measurementEnd g (.visit m code)) s fun k =>
          k.flag (CAL_CELL_STAT_FAILED n) = true ∧ k.fld (CAL_CELL_STAT_CODE n) = code ∧ Hub.oneMore 210 s.hub k)) ∧
    (r.visit = some c → s.hub.fld (CNV_SPARE_STAT_STATE g) = 3 → r.result = some m → r.measured = true →
      s.hub.mt.lastEdge = some s.hub.now → s.hub.handoverReady g = true →
      Completes (.calApplied g 0) s fun k =>
        (set k key).offset = m.offset ∧ (set k key).gain = m.gain ∧
        (∀ x, x ≠ key → (∀ md < 8, ∀ st < 8, x ≠ Hub.coefKey (17 * g + 16) md st) → set k x = set s.hub x) ∧
        k.fld (CAL_GRP_STAT_VISITS g) = satAdd 65535 (s.hub.fld (CAL_GRP_STAT_VISITS g)) 1) ∧
    (∀ count offset gain qr, r.place = some (c, count) → 512 ≤ count → s.hub.visitable c = true → s.hub.spareVisits g = false →
      s.hub.flag CAL_CTRL_EN = true → s.hub.afePowered g = true → Hub.measFailure offset gain 0 = 0 →
      Completes (.measurementEnd g (.inPlace c offset gain qr 0)) s fun k =>
        k.rotation g = { r with place := none, placeFrame := none, queue := r.queue.erase c, fallbackAt := s.hub.now,
                                fallback := some (c, { offset := offset, gain := gain, qr := qr }) } ∧
        Framed (fun _ => False) [.cal] s.hub k) ∧
    (∀ f, r.fallback = some (c, f) → s.hub.servingCell c = n → s.hub.mt.lastEdge = some s.hub.now →
      s.hub.flag CAL_CTRL_FB_AT = false ∨ s.hub.laterWindow r.fallbackAt = true → Completes (.calApplied g 1) s fun k =>
      (set k key).offset = f.offset ∧ (set k key).gain = f.gain ∧ (∀ x, x ≠ key → set k x = set s.hub x) ∧
      k.flag (CAL_CELL_STAT_FALLBACK n) = true ∧ (k.rotation g).fallback = none ∧ k.flag (AFE_CELL_STAT_SETTLING c) = true ∧
      ∀ cv ∈ k.cnv.convs, cv.input = c → cv.frame + 1 = s.hub.cnv.taken → cv.urgent = false → cv.calStep = true ∧ cv.settling = true) ∧
    (∀ t : Int, s.hub.quietRoom g = true →
      (Completes (.measurementEnd g (.ref t)) s fun k => k.rotation g = { r with refNext := some t, refAt := s.hub.now } ∧
        Framed (fun _ => False) [.cal] s.hub k) ∧
      (Completes (.measurementEnd g (.exc t)) s fun k => k.rotation g = { r with excNext := some t, excAt := s.hub.now } ∧
        Framed (fun _ => False) [.cal] s.hub k)) ∧
    (∀ uv, s.hub.quietRoom g = true → s.hub.flag (AFE_EXC_CFG_EN g) = true → s.hub.hasRes g = true →
      Completes (.measurementEnd g (.rref uv)) s fun k => (k.group g).baseline = some uv ∧ Hub.oneMore 208 s.hub k) ∧
    (∀ t, s.hub.mt.lastEdge = some s.hub.now →
      (r.refNext = some t → r.excNext = none → s.hub.laterWindow r.refAt = true → Completes (.calApplied g 2) s fun k =>
        k.cal.refs.getD g 0 = t ∧ (k.rotation g).refNext = none ∧ Hub.oneMore 208 s.hub k) ∧
      (r.excNext = some t → r.refNext = none → s.hub.laterWindow r.excAt = true → Completes (.calApplied g 2) s fun k =>
        k.cal.excs.getD g 0 = t ∧ (k.rotation g).excNext = none ∧ k.cal.refs = s.hub.cal.refs ∧ Hub.oneMore 208 s.hub k))

/-- Stages, ages and the fibre items (R361, R371, R372, R374, R375). -/
def Obligations.OtherCalibration : Prop :=
  ∀ s : State, s.hub.awake → s.hub.boot.stalled = false →
    (∀ a trims, a < 16 → s.hub.flag (CNV_ADC_STAT_IN_SERVICE a) = true →
      (1024 ≤ SMap.get (fun _ => 0) s.hub.cal.stages a → Completes (.adcStageUpdate a 0 trims) s fun k =>
        k.flag (CAL_ADC_STAT_TRIMMED a) = true ∧
        k.fld (CAL_ADC_STAT_UPDATES a) = satAdd (2 ^ 23 - 1) (s.hub.fld (CAL_ADC_STAT_UPDATES a)) 1 ∧
        k.flag (CNV_ADC_STAT_IN_SERVICE a) = true) ∧
      (∀ code, 1 ≤ code → code ≤ 6 → Completes (.adcStageUpdate a code trims) s fun k =>
        k.flag (CNV_ADC_STAT_IN_SERVICE a) = false ∧ k.fld (CAL_ADC_STAT_CODE a) = code ∧ Hub.oneMore 210 s.hub k ∧
        Hub.oneMore (32 + a) s.hub k)) ∧
    (∀ item index, Hub.aged item index = true → Hub.ageKey item index ∉ s.hub.cal.stale → item ≠ itemCoef →
      Completes (.calStale item index false) s fun k => k.cal = { s.hub.cal with stale := s.hub.cal.stale ++ [Hub.ageKey item index] } ∧
        Hub.oneMore 211 s.hub k ∧ Framed (fun _ => False) (.cal :: eventParts) s.hub k) ∧
    (∀ n < 544, Hub.ageKey itemCoef n ∉ s.hub.cal.stale → Completes (.calStale itemCoef n true) s fun k =>
      k.flag (CAL_CELL_STAT_STALE n) = true ∧ Hub.oneMore 211 s.hub k ∧
      (s.hub.spareVisits (n / 17) = false → Hub.oneMore 215 s.hub k) ∧
      (s.hub.spareVisits (n / 17) = true → k.occurrences 215 = s.hub.occurrences 215) ∧
      Framed (among [CAL_CELL_STAT n]) (.cal :: eventParts) s.hub k) ∧
    (∀ item index b, Hub.ageKey item index ∈ s.hub.cal.stale → Completes (.calStale item index b) s fun k =>
      Framed (fun _ => False) [] s.hub k) ∧
    (∀ cause t, s.hub.cal.pass = some (cause, t) → s.hub.allVisited t = true → Completes .calPassDone s fun k =>
      k.cal = { s.hub.cal with pass := none } ∧ Hub.oneMore 212 s.hub k ∧ Framed (fun _ => False) (.cal :: eventParts) s.hub k) ∧
    (s.hub.fiaOn = true →
      (∀ i tap, i < 4 → tap < 64 → Completes (.fadcSkewMeasurement i tap 0) s fun k =>
        (0, i, tap) ∈ k.fi.calDue ∧ Hub.ageKey itemSkew i ∉ k.cal.stale ∧ Framed (fun _ => False) [.fi, .cal, .mem] s.hub k) ∧
      (∀ i tap code, i < 4 → 1 ≤ code → code ≤ 6 → bit (s.hub.fld FI_STAT_FADC_OK) i = true →
        Completes (.fadcSkewMeasurement i tap code) s fun k => bit (k.fld FI_STAT_FADC_OK) i = false ∧ Hub.oneMore 210 s.hub k ∧
          Hub.oneMore (68 + i) s.hub k) ∧
      (∀ (q : Nat) (w0 w1 : Word), q < 2 → SMap.get (fun _ => 0) s.hub.fi.iqAt q + 1024 ≤ s.hub.fi.group0 →
        Completes (.iqUpdate q w0 w1) s fun k =>
        (1, q, w0.toNat * 2 ^ 32 + w1.toNat) ∈ k.fi.calDue ∧ Hub.ageKey itemIq q ∉ k.cal.stale ∧
        Framed (fun _ => False) [.fi, .cal, .mem] s.hub k) ∧
      (∀ das dts, das < 1024 → dts < 256 → s.hub.fi.rangeAt + 65536 ≤ s.hub.fi.group0 → 8 * 65536 ≤ s.hub.fi.group0 →
        Completes (.rangeZeroUpdate das dts) s fun k =>
        (2, 0, das) ∈ k.fi.calDue ∧ (3, 0, dts) ∈ k.fi.calDue ∧ k.flag CAL_FIBRE_STAT_RZ_PENDING = true ∧
        k.fld CAL_FIBRE_STAT_DAS_TAP = das ∧ k.fld CAL_FIBRE_STAT_DTS_TAP = dts ∧
        Framed (among [CAL_FIBRE_STAT_W2]) [.fi, .mem] s.hub k))

/-- RESET_N and power-on reset (R398, R445, R448, R306, R307). -/
def Obligations.ResetAndPowerOn : Prop :=
  ∀ s : State,
    (∀ edges < 100, Completes (.resetN edges) s fun k => Framed (fun _ => False) [] s.hub k) ∧
    (∀ edges ≥ 100, s.hub.pwr.por = false → s.hub.pwr.cut = false → s.hub.pwr.shutdown = false →
      Completes (.resetN edges) s fun k => k.fld DEV_STATE_STEP = 0 ∧
        (∀ a, a ∉ [DEV_STATE, PWR_FEED_STAT, PWR_RAIL_STAT, PWR_TEMP] → k.reg a = regReset a) ∧
        (∀ a ∈ [PWR_FEED_STAT, PWR_RAIL_STAT, PWR_TEMP], k.reg a = s.hub.reg a) ∧
        (∀ p : Part, p ∉ [.boot, .pwr] → p.same {} k) ∧
        k.boot = { fuses := s.hub.boot.fuses, nvm := s.hub.boot.nvm, tap := s.hub.boot.tap, cause := 1, lcFrom := s.hub.boot.lcFrom,
                   sessions := s.hub.boot.sessions } ∧
        k.pwr = { isolated := s.hub.pwr.isolated }) ∧
    (∀ va vb, s.hub.pwr.por = true → feedInRange va = true ∨ feedInRange vb = true → va < 4096 → vb < 4096 →
      Completes (.powerOnReset va vb) s fun k => k.fld DEV_STATE_STEP = 0 ∧ k.lt = 0 ∧ k.pwr = {} ∧
        k.fld PWR_FEED_STAT_SEL = (if feedInRange va then 0 else 1) ∧ k.fld PWR_FEED_STAT_VA = va ∧ k.fld PWR_FEED_STAT_VB = vb ∧
        k.flag PWR_FEED_STAT_A_OK = feedGood va ∧ k.flag PWR_FEED_STAT_B_OK = feedGood vb ∧
        (∀ a, a ∉ [DEV_STATE, PWR_FEED_STAT, PWR_RAIL_STAT, PWR_TEMP] → k.reg a = regReset a) ∧
        (∀ p : Part, p ∉ [.boot, .pwr] → p.same {} k) ∧
        k.boot = { fuses := s.hub.boot.fuses, nvm := s.hub.boot.nvm, tap := s.hub.boot.tap })

/-- How a boot ends (R394, R395, R399, R400, R402, R409, R412). -/
def Obligations.BootEnds : Prop :=
  ∀ (s : State) (unit : Bool) (us nvmUs : Nat), us < 2 ^ 20 → nvmUs < 2 ^ 20 → s.hub.awake →
    let f := s.hub.boot.fuses
    let halted (cause : Nat) (k : Hub) := k.fld DEV_STATE_STEP = 7 ∧ k.fld DEV_STATE_HALT_CAUSE = cause ∧ k.fld DEV_STATE_LC = lcOf f ∧
      k.fld BOOT_TIME_TOTAL_US = us ∧ k.fld BOOT_TIME_NVM_US = nvmUs ∧ k.linkState = 1 ∧ k.fld DEV_RESET_CAUSE_CAUSE = s.hub.boot.cause % 16 ∧
      k.fld FT_ETH_CFG_MAC_W0 = 0x02000000 + f.serial.toNat / 2 ^ 16 % 2 ^ 24 ∧ k.fld FT_ETH_CFG_MAC_W1 = f.serial.toNat % 2 ^ 16
    (s.hub.fld DEV_STATE_STEP = 0 ∨ s.hub.fld DEV_STATE_STEP = 9 →
      Completes (.boot false unit us nvmUs) s (halted 4) ∧
      (f.burned = 0 → f.retired = false → Completes (.boot true unit us nvmUs) s (halted 1)) ∧
      (f.retired = true → Completes (.boot true unit us nvmUs) s (halted 2)) ∧
      (f.burned ≠ 0 → f.burned ≤ 64 → f.retired = false →
        let h := s.hub.passTime.atBanks unit us
        Completes (.boot true unit us nvmUs) s fun k =>
          match (h.tryBanks h.candidates).2.1 with
          | none => k.fld DEV_STATE_STEP = 7 ∧ k.fld DEV_STATE_HALT_CAUSE = 3
          | some (b, img, _) => k.fld DEV_STATE_STEP = 6 ∧ k.fld DEV_STATE_BANK = b ∧ k.flag DEV_STATE_BANK_VALID = true ∧
              k.flag DEV_STATE_SIGNED = img.signed ∧ k.flag DEV_STATE_FALLBACK = decide (h.candidates.head?.map Prod.fst ≠ some b))) ∧
    (s.hub.fld DEV_STATE_STEP ∉ [0, 9] → ∀ ok, Completes (.boot ok unit us nvmUs) s fun k => Framed (fun _ => False) [] s.hub k)

/-- The commands of the update window (R405, R406, R407). -/
def Obligations.UpdateWindow : Prop :=
  ∀ (s : State) (p : Path) (bank : Bool), s.hub.awake → s.hub.livePath p → s.hub.boot.stalled = false → s.hub.fld BOOT_UPD_STAT_STATE ≤ 6 →
    let b := s.hub.updTarget bank
    let st := s.hub.fld BOOT_UPD_STAT_STATE
    let off := s.hub.fld BOOT_UPD_OFFSET_OFFSET
    let target := s.hub.fld BOOT_UPD_STAT_BANK
    let ends (state result : Nat) (k : Hub) := k.fld BOOT_UPD_STAT_STATE = state ∧ k.fld BOOT_UPD_STAT_RESULT = result ∧ Hub.oneMore 219 s.hub k
    let byte (h : Hub) (a : Nat) := h.nvmByte a
    (st ∈ [0, 2, 5, 6] → Completes (.begin p bank) s fun k => ends 1 0 k ∧ k.fld BOOT_UPD_STAT_BANK = b ∧ k.fld BOOT_UPD_STAT_PAGES = 0 ∧
      k.boot.pages = [] ∧ ∀ a, byte k a = if Hub.lastSector b ≤ a ∧ a < Hub.lastSector b + 0x10000 then 0xFF else byte s.hub a) ∧
    (st = 1 → Completes .eraseComplete s fun k => ends 2 0 k ∧
      ∀ a, byte k a = if bankAt target ≤ a ∧ a < bankAt target + 0x1000000 then 0xFF else byte s.hub a) ∧
    (st = 2 → off % 256 = 0 → off < 0x00FF0000 → off ∉ s.hub.boot.pages → Completes (.program p bank) s fun k => ends 3 0 k ∧
      k.boot.page = some (off, beBytes ((List.range 64).map fun i => s.hub.reg (BOOT_UPD_PAGE i))) ∧ k.boot.nvm = s.hub.boot.nvm) ∧
    (st = 2 → off % 256 ≠ 0 ∨ 0x00FF0000 ≤ off → Completes (.program p bank) s fun k => ends 2 3 k ∧
      Framed (among [BOOT_UPD_STAT]) eventParts s.hub k) ∧
    (st = 2 → off % 256 = 0 → off < 0x00FF0000 → off ∈ s.hub.boot.pages → Completes (.program p bank) s fun k => ends 2 4 k) ∧
    (∀ at_ bytes, st = 3 → s.hub.boot.page = some (at_, bytes) → bytes.length = 256 →
      (Completes (.programComplete []) s fun k => ends 2 0 k ∧ at_ ∈ k.boot.pages ∧
        ∀ a, byte k a = if bankAt target + at_ ≤ a ∧ a < bankAt target + at_ + 256 then bytes.getD (a - (bankAt target + at_)) 0
          else byte s.hub a) ∧
      (∀ i x, i < 256 → bytes[i]? ≠ some x → Completes (.programComplete [(i, x)]) s fun k => ends 6 5 k ∧ Hub.oneMore 222 s.hub k)) ∧
    (st = 2 → Completes (.commit p bank) s fun k => ends 4 0 k ∧ k.fld BOOT_UPD_STAT_BANK = b ∧ k.boot = s.hub.boot) ∧
    (st = 4 → Completes .updCommitted s fun k =>
      match s.hub.passTime.dryRun target with
      | (some (gen, tr), []) =>
        if gen ≤ s.hub.rivalGeneration target then ends 2 7 k ∧ k.boot.nvm = s.hub.boot.nvm
        else ends 5 0 k ∧ Hub.oneMore 220 s.hub k ∧
          k.boot.nvm = (s.hub.nvmWrite (bankAt target + 0xFFFF00) (commitBytes gen tr)).boot.nvm
      | (_, rs) => ends 2 6 k ∧ k.boot.nvm = s.hub.boot.nvm ∧ k.fld (BOOT_BANK_STAT_CODE target) = (rs.headD {}).code % 256) ∧
    (st ≠ 0 → Completes (.updAbort p bank) s fun k => ends 0 0 k ∧ k.boot.page = none ∧
      ∀ a, byte k a = if Hub.lastSector b ≤ a ∧ a < Hub.lastSector b + 0x10000 then 0xFF else byte s.hub a) ∧
    (let refused (result : Nat) (k : Hub) := ends st result k ∧ Framed (among [BOOT_UPD_STAT]) eventParts s.hub k
     (st ∈ [1, 3, 4] → Completes (.begin p bank) s (refused 1) ∧ Completes (.program p bank) s (refused 1) ∧
       Completes (.commit p bank) s (refused 1)) ∧
     (st ∈ [0, 5, 6] → Completes (.program p bank) s (refused 2) ∧ Completes (.commit p bank) s (refused 2)) ∧
     (st = 0 → Completes (.updAbort p bank) s (refused 2)))

/-- Life-cycle requests, the restart of the management core, and the access port (R404, R410, R411, R414, R475). -/
def Obligations.LifeCycleAndPort : Prop :=
  ∀ s : State, s.hub.awake →
    let t := s.hub.boot.tap
    let f := s.hub.boot.fuses
    (∀ v p, s.hub.livePath p → s.hub.lcAllowed v = true →
      (Completes (.lcReq p v true) s fun k => k.fld DEV_STATE_STEP = 9 ∧ k.boot.lcFrom = some s.hub.lc ∧ k.boot.cause = 2 ∧
        k.boot.fuses = (if v.toNat / 2 ^ 28 = 4 then { f with retired := true } else { f with burned := f.burned + 1 }) ∧
        k.boot.nvm = s.hub.boot.nvm ∧ ∀ p : Part, p ∉ [.boot, .pwr] → p.same {} k) ∧
      (Completes (.lcReq p v false) s fun k => k.boot.fuses = f ∧ k.fld DEV_STATE_STEP = 9 ∧ Hub.occurrences k 222 = 1)) ∧
    (∀ v, s.hub.livePath .mc → s.hub.lcAllowed v = false → Completes (.lcReq .mc v true) s fun k => Hub.oneMore 251 s.hub k ∧
      Framed (fun _ => False) eventParts s.hub k) ∧
    (s.hub.fld DEV_STATE_STEP ∈ [1, 2, 3, 4, 5, 6, 7] → Completes .mcRestart s fun k => k.boot = { s.hub.boot with stalled := true } ∧
      k.fld DEV_MC_STAT_RESTARTS = satAdd 65535 (s.hub.fld DEV_MC_STAT_RESTARTS) 1 ∧ Hub.oneMore 223 s.hub k) ∧
    (s.hub.boot.stalled = true → s.hub.cal.journalDue = [] → s.hub.fld BOOT_UPD_STAT_STATE ≠ 1 →
      (s.hub.boot.eraseDue = none → Completes .managementPlaneResume s fun k => k.boot = { s.hub.boot with stalled := false } ∧
        k.se.shadowDue = []) ∧
      (∀ b < 2, s.hub.boot.eraseDue = some b → Completes .managementPlaneResume s fun k => k.boot.stalled = false ∧ k.boot.eraseDue = none ∧
        ∀ a, k.nvmByte a = if Hub.lastSector b ≤ a ∧ a < Hub.lastSector b + 0x10000 then 0xFF else s.hub.nvmByte a)) ∧
    (Completes .idcode s fun k => k.boot = { s.hub.boot with tap := { t with ir := 2, captured := 0x151204B5 } } ∧
      Framed (fun _ => False) [.boot] s.hub k) ∧
    (Completes .bypass s fun k => k.boot = { s.hub.boot with tap := { t with ir := 0xFF, captured := 0 } } ∧
      Framed (fun _ => False) [.boot] s.hub k) ∧
    (s.hub.lc = 2 ∨ s.hub.lc = 4 →
      let bypassed (k : Hub) := k.boot = { s.hub.boot with tap := { t with ir := 0xFF, captured := 0 } } ∧
        Framed (fun _ => False) [.boot] s.hub k
      Completes .extest s bypassed ∧ (∀ bs, Completes (.samplePreload bs) s bypassed) ∧
        ∀ w a v, Completes (.regAccess w a v) s bypassed) ∧
    (∀ bs, s.hub.lc ≠ 2 → s.hub.lc ≠ 4 →
      (Completes .extest s fun k => k.boot = { s.hub.boot with tap := { t with ir := 0 } } ∧ Framed (fun _ => False) [.boot] s.hub k) ∧
      (Completes (.samplePreload bs) s fun k => k.boot = { s.hub.boot with tap := { t with ir := 1, boundary := bs } } ∧
        Framed (fun _ => False) [.boot] s.hub k) ∧
      (∀ v, s.hub.fld DEV_STATE_STEP ∉ [0, 9] → Completes (.regAccess false DEV_ID v) s fun k => k.boot.tap.ir = 0x10 ∧ k.boot.tap.status = 0 ∧ k.boot.tap.addr = DEV_ID ∧
        k.boot.tap.data = s.hub.reg DEV_ID ∧ Framed (fun _ => False) [.boot] s.hub k))

/-- Heartbeats, HELLO, ALIVE and the start of the pair (R420, R422, R423, R424, R425, R431, R437). -/
def Obligations.PairSignals : Prop :=
  ∀ s : State, s.hub.awake → s.hub.paired = true →
    let role := s.hub.fld TWN_STAT_ROLE
    let unit := s.hub.fld TWN_STAT_UNIT
    let beat (r st : Nat) (u : Bool) (ep ck mt lt back : Nat) : Instr :=
      .heartbeat r st u ep ck mt lt ⟨back, twinCrc (heartbeatBlocks r st u ep ck mt lt)⟩
    let greet (serial : Nat) (digest : List Word) : Instr := .hello serial ⟨digest, twinCrc (helloBlocks serial digest)⟩
    let is (r mirror cause : Nat) (k : Hub) := k.fld TWN_STAT_ROLE = r ∧ k.fld TWN_STAT_MIRROR = mirror ∧ k.fld TWN_STAT_MM_CAUSE = cause
    (∀ r st u ep ck mt lt back eof, twinCrc (heartbeatBlocks r st u ep ck mt lt) ≠ eof →
      Completes (.heartbeat r st u ep ck mt lt ⟨back, eof⟩) s fun k =>
        k.fld TWN_LINK_STAT_BAD_CRC = satAdd 65535 (s.hub.fld TWN_LINK_STAT_BAD_CRC) 1 ∧ Framed (among [TWN_LINK_STAT]) [] s.hub k) ∧
    (∀ r st u ep ck mt lt back, role = 2 → r < 8 →
      (ofBool u = unit → Completes (beat r st u ep ck mt lt back) s (is 2 0 3)) ∧
      (ofBool u ≠ unit → r = 3 ∨ r = 4 ∨ r = 6 → ep < 2 ^ 32 → ep ≠ s.hub.fld TWN_EPOCH_EPOCH →
        Completes (beat r st u ep ck mt lt back) s fun k => k.fld TWN_STAT_ROLE = 2 ∧ k.fld TWN_EPOCH_EPOCH = ep ∧ k.twn.slices = [] ∧
          k.fld (CIS_SEQ_NEXT 0) = 0 ∧ (k.ring 0).epochDue = true)) ∧
    (∀ r st u ep ck mt lt back, role = 1 → s.hub.twn.duty ≠ some true →
      (r = 3 ∨ r = 4 → Completes (beat r st u ep ck mt lt back) s fun k => is 2 0 1 k ∧ k.fld TWN_STAT_PARTNER_ROLE = r) ∧
      (r = 1 → ofBool u = unit → s.hub.fld TWN_STAT_MM_CAUSE ≠ 3 →
        Completes (beat r st u ep ck mt lt back) s fun k => is 1 0 3 k ∧ Hub.oneMore 231 s.hub k) ∧
      ((r = 1 ∧ ofBool u ≠ unit) ∨ r = 2 → Completes (beat r st u ep ck mt lt back) s fun k =>
        if unit = 0 then k.fld TWN_STAT_ROLE = 4 ∧ k.fld TWN_EPOCH_EPOCH = 1 else k.fld TWN_STAT_ROLE = 2)) ∧
    (role = 1 → s.hub.twn.beats = 0 → s.hub.flag TWN_STAT_ALIVE_OK = false → Completes .startWaitMs s fun k =>
      k.fld TWN_STAT_ROLE = 4 ∧ k.fld TWN_EPOCH_EPOCH = 1) ∧
    (role = 1 → s.hub.twn.beats = 0 → s.hub.flag TWN_STAT_ALIVE_OK = true → s.hub.twn.duty = some false → unit = 1 →
      Completes .startWaitMs s fun k => Framed (fun _ => False) [] s.hub k) ∧
    (role = 1 → s.hub.twn.beats = 0 → s.hub.flag TWN_STAT_ALIVE_OK = true → s.hub.twn.duty = some false → unit = 0 →
      Completes .startWaitMs s fun k => k.fld TWN_STAT_ROLE = 4 ∧ k.fld TWN_EPOCH_EPOCH = 1) ∧
    (∀ r st u ep ck mt lt back, role = 4 → r < 8 → s.hub.flag TWN_STAT_LINK_UP = false →
      Completes (beat r st u ep ck mt lt back) s fun k =>
        k.flag TWN_STAT_LINK_UP = decide (9 ≤ s.hub.twn.beats) ∧ k.twn.beats = s.hub.twn.beats + 1 ∧ k.fld TWN_STAT_ROLE = 4 ∧
        k.fld TWN_STAT_PARTNER_ROLE = r ∧ Framed (among [TWN_STAT, TWN_LINK_STAT, FT_TWIN_LT_OFS]) (.twn :: eventParts) s.hub k) ∧
    (∀ serial digest, role = 4 → serial < 2 ^ 64 → Completes (greet serial digest) s fun k =>
      k.flag TWN_STAT_DIGEST_MATCH = decide (digest = (List.range 8).map fun i => s.hub.reg (BOOT_DIGEST i)) ∧
      (k.reg TWN_PARTNER_W0).toNat + 2 ^ 32 * (k.reg TWN_PARTNER_W1).toNat = serial ∧
      Framed (among [TWN_STAT, TWN_PARTNER_W0, TWN_PARTNER_W1]) [] s.hub k) ∧
    (∀ serial digest, role = 2 → digest ≠ (List.range 8).map (fun i => s.hub.reg (BOOT_DIGEST i)) →
      Completes (greet serial digest) s fun k => is 2 0 2 k) ∧
    (role = 4 → s.hub.flag TWN_STAT_LINK_UP = true → s.hub.twn.swap.held = false → Completes .twinLink s fun k =>
      k.flag TWN_STAT_LINK_UP = false ∧ k.fld TWN_CNT_LINK_DOWNS = satAdd (2 ^ 32 - 1) (s.hub.fld TWN_CNT_LINK_DOWNS) 1 ∧
      Hub.oneMore 226 s.hub k ∧ k.fld TWN_STAT_ROLE = 4 ∧
      Framed (among [TWN_STAT, TWN_LINK_STAT, TWN_CNT_W2]) (.twn :: eventParts) s.hub k) ∧
    (role = 2 → s.hub.flag TWN_STAT_ALIVE_OK = true → s.hub.fld TWN_STAT_MIRROR = 2 → s.hub.twn.swap.held = false →
      Completes .twinLink s (is 2 1 0)) ∧
    (role = 4 → s.hub.flag TWN_STAT_ALIVE_OK = true → Completes .alive s fun k => k.flag TWN_STAT_ALIVE_OK = false ∧
      k.fld TWN_CNT_ALIVE_LOSSES = satAdd (2 ^ 32 - 1) (s.hub.fld TWN_CNT_ALIVE_LOSSES) 1 ∧ Hub.oneMore 227 s.hub k ∧
      k.fld TWN_STAT_ROLE = 4 ∧ Framed (among [TWN_STAT, TWN_CNT_W3]) (.twn :: eventParts) s.hub k) ∧
    (role = 4 → s.hub.flag TWN_STAT_ALIVE_OK = false → Completes (.aliveRestored false) s fun k => k.flag TWN_STAT_ALIVE_OK = true ∧
      Hub.oneMore 227 s.hub k ∧ Framed (among [TWN_STAT]) (.twn :: eventParts) s.hub k) ∧
    (role = 4 → unit = 0 → Completes (.aliveRestored true) s fun k => k.fld TWN_STAT_ROLE = 4) ∧
    (role = 4 → unit = 1 → s.hub.twn.swap.held = false →
      (Completes .pairConflict s fun k => is 2 0 4 k ∧ Hub.oneMore 231 s.hub k) ∧
      (Completes (.aliveRestored true) s fun k => is 2 0 4 k ∧ Hub.oneMore 231 s.hub k))

/-- Checkpoints are captured, received and acknowledged (R427, R428, R429, R431, R443). -/
def Obligations.Checkpoints : Prop :=
  ∀ s : State, s.hub.awake → s.hub.paired = true → s.hub.boot.stalled = false → s.hub.twn.buffer ≤ 1 →
    let role := s.hub.fld TWN_STAT_ROLE
    let base := 0x44000000 + 0x10000 * (1 - s.hub.twn.buffer)
    let ack (n result : Nat) : Instr := .ckptAck n ⟨result, twinCrc (ackBlocks n result)⟩
    let seg (slice : Bool) (n off : Nat) (content : List Byte) : Instr :=
      .ckptSeg slice n off ⟨content, twinCrc (segBlocks slice n off content)⟩
    let last (n size crc m slice : Nat) : Instr := .ckptEnd n size crc m ⟨slice, twinCrc (endBlocks n size crc m slice)⟩
    (role = 4 → s.hub.twn.swap.past = false →
      (s.hub.passTime.stillSending = false → Completes .checkpointCapture s fun k => ∃ c, k.twn.sending = some c ∧
        c.number = (s.hub.twn.number + 1) % 2 ^ 31 ∧ k.twn.number = c.number ∧ c.epoch = s.hub.fld TWN_EPOCH_EPOCH ∧ c.mt = s.hub.mtNow ∧
        c.charge = s.hub.afe.cells.map (fun p => (p.1, (p.2.qacc, p.2.inexact))) ∧
        c.entries = s.hub.tt.entries.map (fun p => (p.1, (p.2.enable, p.2.done, p.2.base))) ∧
        c.armed.toNat = s.hub.fld TRG_STAT_ARMED ∧ Framed (among [TWN_CKPT_STAT_W3]) [.twn] s.hub k) ∧
      (s.hub.passTime.stillSending = true → Completes .checkpointCapture s fun k => k.twn.sending = s.hub.twn.sending ∧
        k.fld TWN_CKPT_STAT_SKIPPED = satAdd 65535 (s.hub.fld TWN_CKPT_STAT_SKIPPED) 1 ∧ k.twn.skipped = s.hub.twn.skipped + 1 ∧
        Framed (among [TWN_CKPT_STAT_W2]) [.twn] s.hub k)) ∧
    (∀ c, s.hub.twn.sending = some c → c.number < 2 ^ 31 →
      (Completes (ack c.number 0) s fun k => k.twn.sending = none ∧ k.fld TWN_CKPT_STAT_NUMBER = c.number) ∧
      (∀ r, r ≠ 0 → Completes (ack c.number r) s fun k => k.twn.sending = none ∧ Framed (fun _ => False) [.twn] s.hub k) ∧
      (∀ n r, n ≠ c.number → Completes (ack n r) s fun k => Framed (fun _ => False) [] s.hub k)) ∧
    (role = 2 →
      (∀ n off content, off + content.length ≤ 0x10000 → Completes (seg false n off content) s fun k =>
        k.twn.arriving = some n ∧ k.twn.mirror = s.hub.twn.mirror ∧
        (∀ a, k.plainByte a = if base + off ≤ a ∧ a < base + off + content.length then content.getD (a - (base + off)) 0
          else s.hub.plainByte a) ∧ Framed (fun _ => False) [.twn, .mem] s.hub k) ∧
      (∀ n off content, off + content.length ≤ 0x20000 → Completes (seg true n off content) s fun k =>
        k.twn.arriving = s.hub.twn.arriving ∧ k.twn.got = s.hub.twn.got ∧
        (∀ a, k.plainByte a = if 0x44020000 + off ≤ a ∧ a < 0x44020000 + off + content.length
          then content.getD (a - (0x44020000 + off)) 0 else s.hub.plainByte a) ∧ Framed (fun _ => False) [.twn, .mem] s.hub k) ∧
      (∀ slice n off content, (if slice then 0x20000 else 0x10000) < off + content.length →
        Completes (seg slice n off content) s fun k => Framed (fun _ => False) [] s.hub k) ∧
      (∀ n size crc m, s.hub.twn.swap.held = false →
        let bytes := (List.range size).map fun i => s.hub.plainByte (base + i)
        let whole := s.hub.twn.arriving = some n ∧ covers s.hub.twn.got size = true
        (whole → crc32c bytes = crc → n < 2 ^ 31 → Completes (last n size crc m 0xFFFF) s fun k => k.twn.acked = some (n, 0) ∧
          k.twn.buffer = 1 - s.hub.twn.buffer ∧ k.twn.mirror.map (fun c => (c.number, c.mt)) = some (n, MT.unpack m) ∧
          k.fld TWN_CKPT_STAT_NUMBER = n ∧
          k.fld TWN_STAT_MIRROR = (if ((Config.readCore bytes).getD {}).epoch = s.hub.fld TWN_EPOCH_EPOCH ∧ s.hub.flag TWN_STAT_DIGEST_MATCH
            ∧ s.hub.fld TWN_STAT_MM_CAUSE ≠ 2 ∧ s.hub.fld TWN_STAT_MM_CAUSE ≠ 3 then 2 else s.hub.fld TWN_STAT_MIRROR)) ∧
        (¬ whole ∨ crc32c bytes ≠ crc → Completes (last n size crc m 0xFFFF) s fun k => k.twn.mirror = s.hub.twn.mirror ∧
          k.twn.buffer = s.hub.twn.buffer ∧ (∃ r ∈ [1, 2], k.twn.acked = some (n, r)) ∧
          k.fld TWN_CKPT_STAT_BAD = satAdd 65535 (s.hub.fld TWN_CKPT_STAT_BAD) 1 ∧
          Framed (among [TWN_CKPT_STAT_W2]) [.twn] s.hub k)) ∧
      (s.hub.fld TWN_STAT_MIRROR = 2 → Completes .mirror s fun k => k.fld TWN_STAT_MIRROR = 1 ∧ k.fld TWN_STAT_MM_CAUSE = 0 ∧
        Hub.oneMore 228 s.hub k ∧ Framed (among [TWN_STAT]) eventParts s.hub k)) ∧
    (s.hub.twn.skipped + s.hub.twn.bad ≠ 0 → Completes .ckptSummary s fun k => k.twn = { s.hub.twn with skipped := 0, bad := 0 } ∧
      Hub.oneMore 229 s.hub k ∧ Framed (fun _ => False) (.twn :: eventParts) s.hub k)

/-- A standby takes over (R250, R432, R433, R435, R436). -/
def Obligations.Takeovers : Prop :=
  ∀ s : State, s.hub.awake → s.hub.paired = true →
    let role := s.hub.fld TWN_STAT_ROLE
    let m := s.hub.fld TWN_STAT_MIRROR
    let c := s.hub.twn.mirror.getD {}
    let r := s.hub.boundaryAt (s.hub.now + s.hub.slotsOfMs 6)
    (role = 2 → s.hub.twn.beats = 0 → s.hub.flag TWN_STAT_ALIVE_OK = true →
      (m ≠ 0 → Completes .alive s fun k => k.fld TWN_STAT_ROLE = 3 ∧ Hub.oneMore 225 s.hub k ∧ Hub.oneMore 227 s.hub k ∧
        k.fld TWN_EPOCH_EPOCH = (if m = 2 then c.epoch else c.epoch + 1) % 2 ^ 32 ∧
        k.fld TWN_CNT_TAKEOVERS = satAdd (2 ^ 32 - 1) (s.hub.fld TWN_CNT_TAKEOVERS) 1 ∧
        ∃ lt, k.twn.takeover = some (s.hub.now, lt, r, m == 2)) ∧
      (m = 0 → Completes .alive s fun k => k.fld TWN_STAT_ROLE = 2 ∧ k.fld TWN_STAT_MIRROR = 0 ∧ Hub.oneMore 228 s.hub k ∧
        Framed (among [TWN_STAT, TWN_CNT_W3]) (.twn :: eventParts) s.hub k)) ∧
    (0 < s.hub.spt → s.hub.now + s.hub.slotsOfMs 6 ≤ r ∧ r < s.hub.now + s.hub.slotsOfMs 6 + s.hub.spt ∧ r % (s.hub.spt : Int) = 0) ∧
    (∀ d lt at_ current, role = 3 → s.hub.twn.takeover = some (d, lt, at_, current) → Completes .takeoverDone s fun k =>
      k.fld TWN_STAT_ROLE = 4 ∧ k.twn.takeover = none ∧ Hub.oneMore 225 s.hub k ∧
      ∀ n ∈ s.hub.pairStreams,
        let st := (SMap.find? c.streams n).getD {}
        if current then k.fld (CIS_SEQ_NEXT n) = (st.next + if st.running then 2 ^ 24 else 0) % 2 ^ 32
        else k.fld (CIS_SEQ_NEXT n) = 0 ∧ (k.ring n).epochDue = true)

/-- The planned role swap, step by step (R424, R440, R441, R442). -/
def Obligations.PlannedSwap : Prop :=
  ∀ s : State, s.hub.awake → s.hub.paired = true → s.hub.boot.stalled = false →
    let role := s.hub.fld TWN_STAT_ROLE
    let w := s.hub.twn.swap
    let shows (r st cause : Nat) (k : Hub) := k.fld TWN_STAT_ROLE = r ∧ k.fld TWN_SWAP_STAT_STATE = st ∧ k.fld TWN_SWAP_STAT_CAUSE = cause
    (∀ p, s.hub.livePath p → role = 4 → w.held = false →
      (s.hub.twn.partnerMirror = 2 → s.hub.flag TWN_STAT_DIGEST_MATCH = true → s.hub.flag TWN_STAT_LINK_UP = true →
        Completes (.twnSwapGo p) s fun k => shows 6 1 0 k ∧ k.twn.sent = some (0, 0, {}) ∧ Hub.oneMore 230 s.hub k ∧ Hub.oneMore 224 s.hub k ∧
          Framed (among [TWN_STAT, TWN_SWAP_STAT]) (.twn :: eventParts) s.hub k) ∧
      (∀ cause, (s.hub.twn.partnerMirror ≠ 2 ∧ cause = 2) ∨
          (s.hub.twn.partnerMirror = 2 ∧ s.hub.flag TWN_STAT_DIGEST_MATCH = false ∧ cause = 3) ∨
          (s.hub.twn.partnerMirror = 2 ∧ s.hub.flag TWN_STAT_DIGEST_MATCH = true ∧ s.hub.flag TWN_STAT_LINK_UP = false ∧ cause = 4) →
        Completes (.twnSwapGo p) s fun k => shows 4 5 cause k ∧ Hub.oneMore 230 s.hub k ∧
          Framed (among [TWN_SWAP_STAT]) eventParts s.hub k)) ∧
    (role = 2 → s.hub.fld TWN_STAT_MIRROR = 2 → s.hub.twn.mirror.isSome = true → Completes .swapRequest s (shows 5 1 0)) ∧
    (role = 5 → s.hub.fld TWN_SWAP_STAT_STATE = 1 →
      (s.hub.unitsSound = true → Completes (.prepare true) s fun k => shows 5 2 0 k ∧ k.twn.sent = some (1, 0, {}) ∧ k.twn.swap = { w with prepared := true } ∧
        Framed (among [TWN_SWAP_STAT]) (.twn :: .cal :: eventParts) s.hub k) ∧
      (∀ ok, w.past = false → ok = false ∨ s.hub.unitsSound = false →
        Completes (.prepare ok) s fun k => shows 2 5 5 k ∧ k.twn.sent = some (2, 5, {}))) ∧
    (role = 6 → s.hub.fld TWN_SWAP_STAT_STATE = 1 → 0 < s.hub.spt → Completes .swapReady s fun k => shows 6 3 0 k ∧
      ∃ t : Int, k.twn.swap = { w with h := some t } ∧ t % (s.hub.spt : Int) = 0 ∧ s.hub.now + s.hub.slotsOfMs 2 ≤ t ∧
        t < s.hub.now + s.hub.slotsOfMs 2 + s.hub.spt ∧ k.twn.sent = some (3, 0, s.hub.mtAt t)) ∧
    (∀ m, role = 5 → w.prepared = true → Completes (.swapSchedule ⟨m, twinCrc (swapBlocks 3 0 m)⟩) s fun k => shows 5 3 0 k ∧
      k.twn.swap = { w with h := some (s.hub.slotOf (MT.unpack m)) }) ∧
    (∀ cause < 32, w.past = false → role = 6 ∨ role = 5 →
      let back := if role = 6 then 4 else 2
      Completes (.swapFail ⟨cause, twinCrc (swapBlocks 2 cause 0)⟩) s (shows back 5 cause) ∧ 
      Completes (.swapAbort ⟨cause, twinCrc (swapBlocks 4 cause 0)⟩) s (shows back 6 cause) ∧
      ∀ p, s.hub.livePath p → Completes (.twnSwapAbort p) s fun k => shows back 6 7 k ∧ k.twn.sent = some (4, 7, {})) ∧
    (∀ t : Int, w.h = some t → w.past = false → s.hub.now ≤ t →
      (role = 6 → Completes .handoverPoint s fun k => k.fld TWN_STAT_ROLE = 6 ∧ k.twn.handed.isSome = true ∧ k.twn.swap.past = true ∧
        ∀ n < 16, k.flag (TRG_TRIP_STAT_DRIVEN n) = false) ∧
      (role = 5 → Completes .handoverPoint s fun k => k.fld TWN_STAT_ROLE = 4 ∧ k.twn.swap.past = true ∧ k.twn.swap.held = true)) ∧
    (∀ latches m, s.hub.noneWaits → role = 4 → w.past = true → w.held = true → Completes (.handover latches ⟨m, twinCrc (handoverBlocks latches m)⟩) s fun k => ∀ n < 16,
      k.flag (TRG_TRIP_STAT_DRIVEN n) = true ∧ k.flag (TRG_TRIP_STAT_LATCHED n) =
        (s.hub.flag (TRG_TRIP_CFG_EN n) && (s.hub.flag (TRG_TRIP_STAT_LATCHED n) || bit latches n))) ∧
    (role = 6 → w.past = true → Completes .finalCheckpoint s fun k => shows 2 4 0 k ∧ k.fld TWN_STAT_MIRROR = 0 ∧
      k.fld TWN_STAT_MM_CAUSE = 1 ∧ k.fld TWN_CNT_SWAPS = satAdd (2 ^ 32 - 1) (s.hub.fld TWN_CNT_SWAPS) 1 ∧
      ∃ c, k.twn.sending = some c ∧ c.number = (s.hub.twn.number + 1) % 2 ^ 31)

/-- Feeds, the feed test, rails and power domains (R445, R446, R448, R449, R450, R451, R453). -/
def Obligations.FeedsAndRails : Prop :=
  ∀ s : State, s.hub.pwr.por = false →
    let sel := s.hub.fld PWR_FEED_STAT_SEL
    let test := s.hub.flag PWR_FEED_STAT_TEST
    let browned (k : Hub) := k.pwr.por = true ∧ k.fld DEV_STATE_STEP = 0 ∧ ∀ a, a ∉ [DEV_STATE, PWR_FEED_STAT, PWR_RAIL_STAT, PWR_TEMP] →
      k.reg a = regReset a
    (∀ mv other, feedFailed mv = true → mv < 4096 → other < 4096 →
      (feedGood other = true → bit s.hub.pwr.isolated (1 - sel) = false → Completes (.feedSwitch mv other) s fun k =>
        k.fld PWR_FEED_STAT_SEL = 1 - sel ∧ Hub.oneMore 232 s.hub k ∧ k.flag PWR_FEED_STAT_TEST = false ∧
        (if test then k.fld PWR_FEED_TEST_STAT_RESULT = 2 ∧ k.fld PWR_FEED_TEST_STAT_VB_MIN = mv ∧ Hub.oneMore 234 s.hub k
          else Framed (among [PWR_FEED_STAT]) (.pwr :: eventParts) s.hub k)) ∧
      (feedGood other = false ∨ bit s.hub.pwr.isolated (1 - sel) = true → Completes (.feedSwitch mv other) s browned)) ∧
    (∀ mv, sel = 1 → test = false → feedInRange mv = true → Completes (.feedRevert mv) s fun k => k.fld PWR_FEED_STAT_SEL = 0 ∧
      k.fld PWR_FEED_STAT_VA = mv ∧ k.flag PWR_FEED_STAT_A_OK = true ∧ Hub.oneMore 232 s.hub k ∧
      Framed (among [PWR_FEED_STAT]) (.pwr :: eventParts) s.hub k) ∧
    (∀ va vb, va < 4096 → vb < 4096 → Completes (.feedBState ⟨va, vb⟩) s fun k => k.fld PWR_FEED_STAT_VB = vb ∧ k.fld PWR_FEED_STAT_VA = va ∧
      k.fld PWR_FEED_STAT_SEL = sel ∧ (feedInRange va = true → k.feedOk 0 = true) ∧ (feedInRange vb = true → k.feedOk 1 = true) ∧
      (if feedInRange vb = feedInRange (s.hub.fld PWR_FEED_STAT_VB) then k.occurrences 233 = s.hub.occurrences 233 else Hub.oneMore 233 s.hub k) ∧
      Framed (among [PWR_FEED_STAT]) (.pwr :: eventParts) s.hub k) ∧
    (∀ feed mv other, feed < 2 → feed ≠ sel → 3800 < mv → mv < 4096 → Completes (.feedOvervoltage feed mv other) s fun k =>
      bit k.pwr.isolated feed = true ∧ k.feedOk feed = false ∧ k.fld PWR_FEED_STAT_SEL = sel ∧
      Framed (among [PWR_FEED_STAT]) (.pwr :: eventParts) s.hub k) ∧
    (∀ mv other, 3800 < mv → mv < 4096 → feedGood other = true → bit s.hub.pwr.isolated (1 - sel) = false →
      Completes (.feedOvervoltage sel mv other) s fun k => bit k.pwr.isolated sel = true ∧ k.fld PWR_FEED_STAT_SEL = 1 - sel ∧
        Hub.oneMore 232 s.hub k) ∧
    (∀ p ms, s.hub.awake → s.hub.livePath p → ms < 65536 →
      let may := sel = 0 ∧ s.hub.feedOk 0 = true ∧ s.hub.feedOk 1 = true ∧ test = false ∧ s.hub.fld DEV_STATE_STEP = 6
      (may → Completes (.feedTest p ms) s fun k => k.fld PWR_FEED_STAT_SEL = 1 ∧ k.flag PWR_FEED_STAT_TEST = true ∧
        k.fld PWR_FEED_TEST_TEST_MS = ms ∧ Framed (among [PWR_FEED_STAT, PWR_FEED_TEST]) [] s.hub k) ∧
      (¬ may → Completes (.feedTest p ms) s fun k => k.fld PWR_FEED_TEST_STAT_RESULT = 3 ∧ Hub.oneMore 234 s.hub k ∧
        Framed (among [PWR_FEED_TEST_STAT, PWR_FEED_TEST]) eventParts s.hub k)) ∧
    (∀ v < 4096, test = true → Completes (.feedTestEnd v) s fun k => k.fld PWR_FEED_STAT_SEL = (if s.hub.feedOk 0 then 0 else sel) ∧
      k.flag PWR_FEED_STAT_TEST = false ∧ k.fld PWR_FEED_TEST_STAT_RESULT = 1 ∧ k.fld PWR_FEED_TEST_STAT_VB_MIN = v ∧ Hub.oneMore 234 s.hub k ∧
      Framed (among [PWR_FEED_STAT, PWR_FEED_TEST_STAT]) eventParts s.hub k) ∧
    (∀ rail < 2, Completes (.railFault rail) s browned) ∧
    (∀ rail, 2 ≤ rail → rail < 6 → bit s.hub.pwr.faulted rail = false → Completes (.railFault rail) s fun k =>
      bit (k.fld PWR_RAIL_STAT_GOOD) rail = false ∧ bit k.pwr.faulted rail = true ∧ Hub.oneMore 235 s.hub k ∧
      (rail = 3 ∨ rail = 4 → ∀ g < 32, k.afePowered g = false) ∧ (rail = 5 → k.fiaOn = false)) ∧
    (∀ p v word, s.hub.awake → s.hub.livePath p → word < 2 →
      (s.hub.cnv.series.isSome = true → s.hub.gateRefused word v = false → Completes (.domCtl p word v) s fun k =>
        k.written (PWR_DOM_CTL_W0 + 4 * word) = (if word = 1 then v &&& 0x3FFFF else v) ∧
        Framed (fun _ => False) [.staged] s.hub k) ∧
      (s.hub.cnv.series = none → s.hub.mt.anchored = false → s.hub.gateRefused word v = false → Completes (.domCtl p word v) s fun k =>
        k.pwr = { s.hub.pwr with domDue := s.hub.pwr.domDue ++ [(word, if word = 1 then v &&& 0x3FFFF else v)] } ∧
        Framed (fun _ => False) [.pwr] s.hub k) ∧
      (s.hub.cnv.series = none → s.hub.mt.anchored = true → s.hub.noneWaits → s.hub.fld TWN_STAT_ROLE = 0 → s.hub.pwr.faulted = 0 →
        Completes (.domCtl p 0 v) s fun k => k.reg PWR_DOM_CTL_W0 = v ∧ ∀ g < 32, k.afePowered g = bit v.toNat g)) ∧
    (∀ v, s.hub.mt.anchored = true → s.hub.pwr.domDue = [(0, v)] → s.hub.fld TWN_STAT_ROLE = 0 → s.hub.pwr.faulted = 0 →
      s.hub.applyDomCtl.reg PWR_DOM_CTL_W0 = v ∧ (∀ g < 32, s.hub.applyDomCtl.afePowered g = bit v.toNat g) ∧
        s.hub.applyDomCtl.pwr.domDue = []) ∧
    (∀ v, s.hub.awake → s.hub.livePath .mc → s.hub.gateRefused 1 v = true → Completes (.domCtl .mc 1 v) s fun k =>
      Hub.oneMore 251 s.hub k ∧ Framed (fun _ => False) eventParts s.hub k)

/-- The Quiescent state and the thermal limits (R454, R455, R457, R458). -/
def Obligations.QuiescentAndThermal : Prop :=
  ∀ s : State,
    let asks (go : Bool) := go = true ∧ s.hub.fld DEV_STATE_STEP = 6 ∧
      ¬ ((s.hub.fld TWN_STAT_ROLE = 4 ∨ s.hub.fld TWN_STAT_ROLE ≥ 6) ∧ s.hub.fld TWN_STAT_PARTNER_ROLE = 2)
    (s.hub.awake →
      (∀ p, s.hub.livePath p → asks true → Completes (.quiesce p 0x51 true) s fun k => k.pwr = { s.hub.pwr with quiesceDue := true } ∧
        Framed (fun _ => False) [.pwr] s.hub k) ∧
      (∀ key go, s.hub.livePath .mc → key % 256 ≠ 0x51 ∨ ¬ asks go → Completes (.quiesce .mc key go) s fun k => Hub.oneMore 251 s.hub k ∧
        Framed (fun _ => False) eventParts s.hub k) ∧
      (s.hub.pwr.quiesceDue = true → s.hub.fld DEV_STATE_STEP = 6 → s.hub.pwr.draining = false → s.hub.noneWaits → 0 < s.hub.spt →
        Completes .quiescentEntry s fun k => k.pwr.draining = true ∧ k.pwr.quiesceDue = false ∧ k.tt.carried = [] ∧
          Hub.oneMore 239 s.hub k ∧ (∀ n < 16, k.flag (TRG_TRIP_STAT_PERMIT n) = false) ∧
          (s.hub.mt.anchored = true → s.hub.mt.slot < s.hub.spt → k.mt.turn = s.hub.mt.turn + 1 ∧ k.mt.slot = 0)) ∧
      (s.hub.pwr.draining = true → Completes .drainEnd s fun k => k.fld DEV_STATE_STEP = 8 ∧ k.pwr.draining = false ∧ k.linkState = 0 ∧
        (∀ code, 2 ≤ code → code < 52 → k.domainOn code = false) ∧
        (∀ n < 16, k.flag (TRG_TRIP_STAT_DRIVEN n) = false) ∧
        ∀ n < 128, (s.hub.ring n).packets = [] → (s.hub.ring n).open? = none → (k.ring n).packets = [])) ∧
    (s.hub.pwr.por = false → s.hub.pwr.cut = false → s.hub.pwr.shutdown = false →
      (∀ timer, s.hub.fld DEV_STATE_STEP = 8 → timer = false ∨ s.hub.fld PWR_WAKE_S_S ≠ 0 → s.hub.flag TWN_CFG_EN = false →
        Completes (.wake timer) s fun k => k.fld DEV_STATE_STEP = 6 ∧ k.pwr.woke = true ∧ k.fld MT_STATE_STATE = 0 ∧ k.mt.anchored = false ∧
          k.linkState = 1 ∧ Hub.oneMore 239 s.hub k ∧ ∀ n < 128, k.fld (CIS_SEQ_NEXT n) = s.hub.fld (CIS_SEQ_NEXT n)) ∧
      (∀ timer, s.hub.fld DEV_STATE_STEP ≠ 8 → Completes (.wake timer) s fun k => Framed (fun _ => False) [] s.hub k) ∧
      (∀ tj : Int, 1150 ≤ tj → tj < 1250 → Completes (.thermalShutdown tj) s fun k => k.pwr.shutdown = true ∧ Hub.oneMore 238 s.hub k ∧
        ∀ n < 16, k.flag (TRG_TRIP_STAT_PERMIT n) = false) ∧
      Completes .thermalRecovery s fun k => Framed (fun _ => False) [] s.hub k) ∧
    (∀ tj : Int, -500 ≤ tj → tj < 1150 →
      let warn : Int := s.hub.fld PWR_THERM_CFG_WARN
      Completes (.thermalWarn tj) s fun k => k.sfld PWR_TEMP_TJ = tj ∧ k.sfld PWR_TEMP_PEAK = max tj (s.hub.sfld PWR_TEMP_PEAK) ∧
        k.pwr.warned = (if s.hub.pwr.warned then decide (warn - 50 ≤ tj) else decide (warn < tj)) ∧
        (if k.pwr.warned = s.hub.pwr.warned then k.occurrences 237 = s.hub.occurrences 237 else Hub.oneMore 237 s.hub k) ∧
        Framed (among [PWR_TEMP]) (.pwr :: eventParts) s.hub k) ∧
    (s.hub.pwr.por = false → Completes .hardwareCut s fun k => k.pwr.cut = true ∧ k.fld DEV_STATE_STEP = 0 ∧ k.evt = {} ∧
      ∀ a, a ∉ [DEV_STATE, PWR_FEED_STAT, PWR_RAIL_STAT, PWR_TEMP] → k.reg a = regReset a) ∧
    (s.hub.pwr.shutdown = true ∨ s.hub.pwr.cut = true → Completes .thermalRecovery s fun k => k.pwr.shutdown = false ∧ k.pwr.cut = false ∧
      k.boot.cause = 3 ∧ k.fld DEV_STATE_STEP = 0)

/-- A step runs the command at the front of the queue; on an empty queue the block idles (the model's choice, log entry 1) (R295, R413). -/
def Obligations.StepRunsFront : Prop :=
  (∀ (s : State) (c : Instr) (rest : List Instr), s.pending = c :: rest → step s = exec c { s with pending := rest }) ∧
  ∀ s : State, s.pending = [] → step s = .next s

/-- The state after reset (R306, R398, R399). -/
def Obligations.ResetState : Prop :=
  State.reset.pending = [] ∧ State.reset.hub.lt = 0 ∧ (∀ a, State.reset.hub.reg a = regReset a) ∧
  State.reset.hub.fld DEV_STATE_STEP = 0 ∧ State.reset.hub.boot.fuses = {} ∧ State.reset.hub.mt.anchored = false ∧
  State.reset.hub.cnv.series = none ∧ (∀ n, (State.reset.hub.ring n).packets = []) ∧ queueOk State.reset

/-- Every step takes the front command alone, and keeps the queue and the time well formed (R306). -/
def Obligations.QueueInvariant : Prop :=
  ∀ s : State, queueOk s → ∃ t, step s = .next t ∧ t.pending = s.pending.tail ∧ queueOk t

/-- On a dark hub nothing but the always-on domain acts (R448, R452, R454, R457, R458). -/
def Obligations.DarkHub : Prop :=
  ∀ (s : State) (c : Instr), s.hub.passTime.dark = true → c.alwaysOn = false →
    Completes c s fun k => Framed (fun _ => False) [] s.hub k

/-- What an occurrence of an event does (R344, R346, R347). -/
def Obligations.EventRouting : Prop :=
  ∀ (h : Hub) (m : MT) (src cause : Nat) (d : List Nat), src < 256 → cause < 256 → d.length ≤ 8 → h.lt < 2 ^ 64 → m.pack < 2 ^ 64 →
    let k := h.raiseAt m src cause d
    let rec' := h.flag (EVT_ROUTE_REC src)
    let fw := h.flag (EVT_ROUTE_FW src)
    let word (r : List Word) (i : Nat) : Nat := (r.getD i 0).toNat
    Hub.oneMore src h k ∧ (∀ n, n ≠ src → k.occurrences n = h.occurrences n) ∧
    (rec' = true → h.evt.queue.length < 512 → h.evt.spill = [] → ∃ r, k.evt.queue = h.evt.queue ++ [r] ∧ k.evt.spill = [] ∧
      r.length = 5 + d.length ∧ bits (word r 0) 31 28 = 15 ∧ bits (word r 0) 27 20 = src ∧ bits (word r 0) 19 12 = cause ∧
      bits (word r 0) 11 4 = 0 ∧ bits (word r 0) 3 0 = d.length ∧ word r 1 * 2 ^ 32 + word r 2 = m.pack ∧
      word r 3 * 2 ^ 32 + word r 4 = h.lt ∧ r.drop 5 = d.map (BitVec.ofNat 32)) ∧
    (rec' = true → ∀ w ws rest, h.evt.spill = (src, w :: ws) :: rest → (∀ p ∈ rest, p.1 ≠ src) → bits w.toNat 11 4 < 255 →
      k.evt.queue = h.evt.queue ∧ k.evt.spill = (src, (w + 16) :: ws) :: rest ∧ bits (w + 16).toNat 11 4 = bits w.toNat 11 4 + 1) ∧
    (rec' = false → k.evt.queue = h.evt.queue ∧ k.evt.spill = h.evt.spill) ∧
    (fw = true → k.evt.pend.getLsbD src = true ∧ ((SMap.get (fun _ => 0) k.evt.extra src) = if h.evt.pend.getLsbD src then
      satAdd 255 (SMap.get (fun _ => 0) h.evt.extra src) 1 else SMap.get (fun _ => 0) h.evt.extra src)) ∧
    (∀ n < 256, n ≠ src ∨ fw = false → k.evt.pend.getLsbD n = h.evt.pend.getLsbD n) ∧
    (k.tt.actions = if h.flag (EVT_ROUTE_TT src) ∧ h.mt.anchored then h.tt.actions ++ h.tt.entries.filterMap (fun p =>
      if p.2.type = 11 ∧ p.2.enable ∧ p.2.code = h.fld (EVT_ROUTE_CODE src) then
        some { entry := p.1, code := h.fld (EVT_ROUTE_CODE src), arg := 0, due := h.now + 2 } else none) else h.tt.actions) ∧
    (k.mem.paceDue = if h.flag (EVT_ROUTE_DMA src) then h.mem.paceDue ++ [h.fld (EVT_ROUTE_CHANNEL src)] else h.mem.paceDue) ∧
    Framed (fun _ => False) eventParts h k

/-- Register writes: stored, held for the tick, refused (R3, R4, R11, R12, R410). -/
def Obligations.RegisterWrites : Prop :=
  ∀ (s : State) (a : Nat) (v : Word), s.hub.awake →
    (∀ p c, s.hub.livePath p → cardOf a = some c → s.hub.writeMask c ≠ 0 →
      (a / 0x10000 = 1 ∧ a ≠ MT_TT_COMMIT) ∨ (a / 0x10000 = 8 ∧ a ≠ SIP_HIST_COMMIT) ∨
        (a / 0x10000 = 15 ∧ a ≠ BOOT_UPD_CTRL) → s.hub.staged = [] →
      Completes (.registerWrite p a v) s fun k =>
        (∀ i < 32, (k.reg a).getLsbD i = if bit (s.hub.writeMask c) i then v.getLsbD i else (s.hub.reg a).getLsbD i) ∧
        Framed (among [a]) [] s.hub k) ∧
    (∀ p c, s.hub.livePath p → cardOf a = some c → s.hub.writeMask c ≠ 0 →
      (a / 0x10000 = 13 ∧ Hub.pmcRefused a v = false) ∨ (a / 0x10000 = 14 ∧ a ≠ CAL_VISIT) ∨ (∃ g < 32, a = AFE_EXC_CFG g) →
      s.hub.staged = [] → Completes (.registerWrite p a v) s fun k =>
        (∀ i < 32, (k.written a).getLsbD i = if bit (s.hub.writeMask c) i then v.getLsbD i else (s.hub.reg a).getLsbD i) ∧
        Framed (fun _ => False) [.staged] s.hub k) ∧
    (s.hub.livePath .mc → a / 0x10000 = 13 → ∀ c, cardOf a = some c → s.hub.writeMask c ≠ 0 → Hub.pmcRefused a v = true →
      Completes (.registerWrite .mc a v) s fun k => Hub.oneMore 251 s.hub k ∧ Framed (fun _ => False) eventParts s.hub k) ∧
    (s.hub.pathWrites .mc = .done →
      (∀ c, cardOf a = some c → s.hub.writeMask c = 0 → a < 0x40000000 → Completes (.registerWrite .mc a v) s fun k =>
        Hub.oneMore 251 s.hub k ∧ Framed (fun _ => False) eventParts s.hub k) ∧
      (cardOf a = none → a < 0x40000000 → Completes (.registerWrite .mc a v) s fun k =>
        Hub.oneMore 250 s.hub k ∧ Framed (fun _ => False) eventParts s.hub k)) ∧
    (s.hub.lc = 4 → ∀ c, cardOf a = some c → s.hub.writeMask c = 0) ∧
    (s.hub.boot.stalled = true → Completes (.registerWrite .mc a v) s fun k => Framed (fun _ => False) [] s.hub k)
end

