-- ==== Sys2Proof/Laws/Tables.lean ====
section
/-!
SUPPORT. The laws of sparse tables: a read after a write, and that every table operation keeps the canonical form.
-/

namespace Sys2Proof.Machine.SMap

variable {α : Type}

@[simp] theorem find?_nil (k : Nat) : find? ([] : SMap α) k = none := rfl

theorem find?_insert_self (m : SMap α) (k : Nat) (v : α) : find? (insert m k v) k = some v := by
  induction m with
  | nil => simp [insert, find?]
  | cons p m ih =>
    obtain ⟨k', v'⟩ := p
    unfold insert
    split_ifs with h1 h2
    · simp [find?]
    · simp [find?]
    · have : ¬ k' = k := fun h => h2 h.symm
      simp [find?, this, ih]

theorem find?_insert_ne (m : SMap α) {k j : Nat} (v : α) (h : j ≠ k) : find? (insert m k v) j = find? m j := by
  induction m with
  | nil => simp [insert, find?, h.symm]
  | cons p m ih =>
    obtain ⟨k', v'⟩ := p
    unfold insert
    split_ifs with h1 h2
    · simp [find?, h.symm]
    · subst h2; simp [find?, h.symm]
    · simp [find?, ih]

theorem find?_erase_self (m : SMap α) (k : Nat) : find? (erase m k) k = none := by
  induction m with
  | nil => rfl
  | cons p m ih =>
    by_cases h : p.1 = k
    · simpa [erase, h] using ih
    · simpa [erase, h, find?] using ih

theorem find?_erase_ne (m : SMap α) {k j : Nat} (h : j ≠ k) : find? (erase m k) j = find? m j := by
  induction m with
  | nil => rfl
  | cons p m ih =>
    by_cases h' : p.1 = k
    · have : ¬ p.1 = j := fun e => h (e.symm.trans h')
      simpa [erase, h', find?, this, h.symm] using ih
    · have ih' : find? (List.filter (fun p => !decide (p.1 = k)) m) j = find? m j := by simpa [erase] using ih
      simp [erase, h', find?, ih']

/-- A read of the key just written gives the value written. -/
@[simp] theorem get_set_self [DecidableEq α] (d : Nat → α) (m : SMap α) (k : Nat) (v : α) : get d (set d m k v) k = v := by
  unfold get set
  split_ifs with h
  · simp [find?_erase_self, h]
  · simp [find?_insert_self]

/-- A write leaves every other key alone. -/
theorem get_set_ne [DecidableEq α] (d : Nat → α) (m : SMap α) {k j : Nat} (v : α) (h : j ≠ k) :
    get d (set d m k v) j = get d m j := by
  unfold get set
  split_ifs
  · simp [find?_erase_ne m h]
  · simp [find?_insert_ne m v h]

/-- A read after a write, both cases at once. -/
theorem get_set [DecidableEq α] (d : Nat → α) (m : SMap α) (k j : Nat) (v : α) :
    get d (set d m k v) j = if j = k then v else get d m j := by
  split_ifs with h
  · subst h; simp
  · exact get_set_ne d m v h

@[simp] theorem get_nil (d : Nat → α) (k : Nat) : get d ([] : SMap α) k = d k := rfl

theorem rising_mono {m : SMap α} {a b : Nat} (hab : a ≤ b) (h : rising b m = true) : rising a m = true := by
  cases m with
  | nil => rfl
  | cons p m =>
    simp only [rising, Bool.and_eq_true, decide_eq_true_eq] at *
    exact ⟨le_trans hab h.1, h.2⟩

theorem rising_insert {m : SMap α} {lo k : Nat} (v : α) (hk : lo ≤ k) (h : rising lo m = true) :
    rising lo (insert m k v) = true := by
  induction m generalizing lo with
  | nil => simp [insert, rising, hk]
  | cons p m ih =>
    obtain ⟨k', v'⟩ := p
    simp only [rising, Bool.and_eq_true, decide_eq_true_eq] at h
    unfold insert
    split_ifs with h1 h2
    · simp only [rising, Bool.and_eq_true, decide_eq_true_eq]
      exact ⟨hk, by omega, h.2⟩
    · subst h2; simp only [rising, Bool.and_eq_true, decide_eq_true_eq]; exact ⟨hk, h.2⟩
    · simp only [rising, Bool.and_eq_true, decide_eq_true_eq]
      exact ⟨h.1, ih (by omega) h.2⟩

theorem rising_filter {m : SMap α} {lo : Nat} (p : Nat × α → Bool) (h : rising lo m = true) :
    rising lo (m.filter p) = true := by
  induction m generalizing lo with
  | nil => rfl
  | cons q m ih =>
    obtain ⟨k', v'⟩ := q
    simp only [rising, Bool.and_eq_true, decide_eq_true_eq] at h
    rw [List.filter_cons]
    split_ifs
    · simp only [rising, Bool.and_eq_true, decide_eq_true_eq]; exact ⟨h.1, ih h.2⟩
    · exact rising_mono (by omega) (ih h.2)

theorem rising_map {m : SMap α} {lo : Nat} (f : Nat → α → α) (h : rising lo m = true) :
    rising lo (m.map fun p => (p.1, f p.1 p.2)) = true := by
  induction m generalizing lo with
  | nil => rfl
  | cons q m ih =>
    simp only [List.map_cons, rising, Bool.and_eq_true, decide_eq_true_eq] at *
    exact ⟨h.1, ih h.2⟩

theorem mem_insert {m : SMap α} {k : Nat} {v : α} {q : Nat × α} (h : q ∈ insert m k v) : q = (k, v) ∨ q ∈ m := by
  induction m with
  | nil => simpa [insert] using h
  | cons p m ih =>
    obtain ⟨k', v'⟩ := p
    unfold insert at h
    split_ifs at h with h1 h2
    · simpa using h
    · rcases List.mem_cons.1 h with h | h
      · exact .inl h
      · exact .inr (List.mem_cons_of_mem _ h)
    · rcases List.mem_cons.1 h with h | h
      · exact .inr (h ▸ List.mem_cons_self)
      · exact (ih h).imp id (List.mem_cons_of_mem _)

/-- Erasing keeps the canonical form. -/
theorem wf_erase [DecidableEq α] {d : Nat → α} {m : SMap α} (k : Nat) (h : wf d m = true) : wf d (erase m k) = true := by
  simp only [wf, Bool.and_eq_true, List.all_eq_true] at *
  exact ⟨rising_filter _ h.1, fun q hq => h.2 q (List.mem_of_mem_filter hq)⟩

/-- A write keeps the canonical form. -/
theorem wf_set [DecidableEq α] {d : Nat → α} {m : SMap α} (k : Nat) (v : α) (h : wf d m = true) : wf d (set d m k v) = true := by
  unfold set
  split_ifs with hv
  · exact wf_erase k h
  · simp only [wf, Bool.and_eq_true, List.all_eq_true] at *
    refine ⟨rising_insert v (Nat.zero_le _) h.1, fun q hq => ?_⟩
    rcases mem_insert hq with rfl | hq
    · simpa using hv
    · exact h.2 q hq

/-- A change of every listed value keeps the canonical form. -/
theorem wf_update [DecidableEq α] {d : Nat → α} {m : SMap α} (f : Nat → α → α) (h : wf d m = true) : wf d (update d f m) = true := by
  simp only [wf, Bool.and_eq_true, List.all_eq_true] at *
  exact ⟨rising_filter _ (rising_map f h.1), fun q hq => (List.mem_filter.1 hq).2⟩

end Sys2Proof.Machine.SMap
end

