-- ==== Sys2Proof/Laws/State.lean ====
section
/-!
SUPPORT. One lemma for each field and each named update of the hub that leaves it alone, and what the forms of the meanings
answer: later proofs unfold no record update.
-/

namespace Sys2Proof.Machine

@[simp] theorem State.onAon_eq (f : Hub → Hub) (s : State) :
    s.onAon f = .next { s with hub := (f s.hub.passTime).wrapTime } := rfl

theorem State.onHub_eq (f : Hub → Hub) (s : State) :
    s.onHub f = .next { s with hub := (if s.hub.passTime.dark then s.hub.passTime else f s.hub.passTime).wrapTime } := rfl

/-- A meaning on a hub that is not dark answers what it does there. -/
theorem State.onHub_lit (f : Hub → Hub) (s : State) (h : s.hub.passTime.dark = false) :
    s.onHub f = .next { s with hub := (f s.hub.passTime).wrapTime } := by
  simp [State.onHub_eq, h]

/-- A dark hub does nothing. -/
theorem State.onHub_dark (f : Hub → Hub) (s : State) (h : s.hub.passTime.dark = true) :
    s.onHub f = .next { s with hub := s.hub.passTime.wrapTime } := by
  simp [State.onHub_eq, h]

namespace Hub

@[simp] theorem setReg_staged (h : Hub) (a : Nat) (v : Word) : (h.setReg a v).staged = h.staged := rfl
@[simp] theorem setReg_latch (h : Hub) (a : Nat) (v : Word) : (h.setReg a v).latch = h.latch := rfl
@[simp] theorem setReg_snap (h : Hub) (a : Nat) (v : Word) : (h.setReg a v).snap = h.snap := rfl
@[simp] theorem setReg_lt (h : Hub) (a : Nat) (v : Word) : (h.setReg a v).lt = h.lt := rfl
@[simp] theorem setReg_mt (h : Hub) (a : Nat) (v : Word) : (h.setReg a v).mt = h.mt := rfl
@[simp] theorem setReg_tt (h : Hub) (a : Nat) (v : Word) : (h.setReg a v).tt = h.tt := rfl
@[simp] theorem setReg_cis (h : Hub) (a : Nat) (v : Word) : (h.setReg a v).cis = h.cis := rfl
@[simp] theorem setReg_evt (h : Hub) (a : Nat) (v : Word) : (h.setReg a v).evt = h.evt := rfl
@[simp] theorem setReg_mem (h : Hub) (a : Nat) (v : Word) : (h.setReg a v).mem = h.mem := rfl
@[simp] theorem setReg_pmc (h : Hub) (a : Nat) (v : Word) : (h.setReg a v).pmc = h.pmc := rfl
@[simp] theorem setReg_afe (h : Hub) (a : Nat) (v : Word) : (h.setReg a v).afe = h.afe := rfl
@[simp] theorem setReg_cnv (h : Hub) (a : Nat) (v : Word) : (h.setReg a v).cnv = h.cnv := rfl
@[simp] theorem setReg_se (h : Hub) (a : Nat) (v : Word) : (h.setReg a v).se = h.se := rfl
@[simp] theorem setReg_trg (h : Hub) (a : Nat) (v : Word) : (h.setReg a v).trg = h.trg := rfl
@[simp] theorem setReg_sp (h : Hub) (a : Nat) (v : Word) : (h.setReg a v).sp = h.sp := rfl
@[simp] theorem setReg_cal (h : Hub) (a : Nat) (v : Word) : (h.setReg a v).cal = h.cal := rfl
@[simp] theorem setReg_twn (h : Hub) (a : Nat) (v : Word) : (h.setReg a v).twn = h.twn := rfl
@[simp] theorem setReg_wl (h : Hub) (a : Nat) (v : Word) : (h.setReg a v).wl = h.wl := rfl
@[simp] theorem setReg_fi (h : Hub) (a : Nat) (v : Word) : (h.setReg a v).fi = h.fi := rfl
@[simp] theorem setReg_pwr (h : Hub) (a : Nat) (v : Word) : (h.setReg a v).pwr = h.pwr := rfl
@[simp] theorem setReg_ft (h : Hub) (a : Nat) (v : Word) : (h.setReg a v).ft = h.ft := rfl
@[simp] theorem setReg_boot (h : Hub) (a : Nat) (v : Word) : (h.setReg a v).boot = h.boot := rfl
@[simp] theorem setReg_fresh (h : Hub) (a : Nat) (v : Word) : (h.setReg a v).fresh = h.fresh := rfl

@[simp] theorem put_staged (h : Hub) (f : Fld) (v : Nat) : (h.put f v).staged = h.staged := rfl
@[simp] theorem put_latch (h : Hub) (f : Fld) (v : Nat) : (h.put f v).latch = h.latch := rfl
@[simp] theorem put_snap (h : Hub) (f : Fld) (v : Nat) : (h.put f v).snap = h.snap := rfl
@[simp] theorem put_lt (h : Hub) (f : Fld) (v : Nat) : (h.put f v).lt = h.lt := rfl
@[simp] theorem put_mt (h : Hub) (f : Fld) (v : Nat) : (h.put f v).mt = h.mt := rfl
@[simp] theorem put_tt (h : Hub) (f : Fld) (v : Nat) : (h.put f v).tt = h.tt := rfl
@[simp] theorem put_cis (h : Hub) (f : Fld) (v : Nat) : (h.put f v).cis = h.cis := rfl
@[simp] theorem put_evt (h : Hub) (f : Fld) (v : Nat) : (h.put f v).evt = h.evt := rfl
@[simp] theorem put_mem (h : Hub) (f : Fld) (v : Nat) : (h.put f v).mem = h.mem := rfl
@[simp] theorem put_pmc (h : Hub) (f : Fld) (v : Nat) : (h.put f v).pmc = h.pmc := rfl
@[simp] theorem put_afe (h : Hub) (f : Fld) (v : Nat) : (h.put f v).afe = h.afe := rfl
@[simp] theorem put_cnv (h : Hub) (f : Fld) (v : Nat) : (h.put f v).cnv = h.cnv := rfl
@[simp] theorem put_se (h : Hub) (f : Fld) (v : Nat) : (h.put f v).se = h.se := rfl
@[simp] theorem put_trg (h : Hub) (f : Fld) (v : Nat) : (h.put f v).trg = h.trg := rfl
@[simp] theorem put_sp (h : Hub) (f : Fld) (v : Nat) : (h.put f v).sp = h.sp := rfl
@[simp] theorem put_cal (h : Hub) (f : Fld) (v : Nat) : (h.put f v).cal = h.cal := rfl
@[simp] theorem put_twn (h : Hub) (f : Fld) (v : Nat) : (h.put f v).twn = h.twn := rfl
@[simp] theorem put_wl (h : Hub) (f : Fld) (v : Nat) : (h.put f v).wl = h.wl := rfl
@[simp] theorem put_fi (h : Hub) (f : Fld) (v : Nat) : (h.put f v).fi = h.fi := rfl
@[simp] theorem put_pwr (h : Hub) (f : Fld) (v : Nat) : (h.put f v).pwr = h.pwr := rfl
@[simp] theorem put_ft (h : Hub) (f : Fld) (v : Nat) : (h.put f v).ft = h.ft := rfl
@[simp] theorem put_boot (h : Hub) (f : Fld) (v : Nat) : (h.put f v).boot = h.boot := rfl
@[simp] theorem put_fresh (h : Hub) (f : Fld) (v : Nat) : (h.put f v).fresh = h.fresh := rfl

@[simp] theorem sput_staged (h : Hub) (f : Fld) (v : Int) : (h.sput f v).staged = h.staged := rfl
@[simp] theorem sput_latch (h : Hub) (f : Fld) (v : Int) : (h.sput f v).latch = h.latch := rfl
@[simp] theorem sput_snap (h : Hub) (f : Fld) (v : Int) : (h.sput f v).snap = h.snap := rfl
@[simp] theorem sput_lt (h : Hub) (f : Fld) (v : Int) : (h.sput f v).lt = h.lt := rfl
@[simp] theorem sput_mt (h : Hub) (f : Fld) (v : Int) : (h.sput f v).mt = h.mt := rfl
@[simp] theorem sput_tt (h : Hub) (f : Fld) (v : Int) : (h.sput f v).tt = h.tt := rfl
@[simp] theorem sput_cis (h : Hub) (f : Fld) (v : Int) : (h.sput f v).cis = h.cis := rfl
@[simp] theorem sput_evt (h : Hub) (f : Fld) (v : Int) : (h.sput f v).evt = h.evt := rfl
@[simp] theorem sput_mem (h : Hub) (f : Fld) (v : Int) : (h.sput f v).mem = h.mem := rfl
@[simp] theorem sput_pmc (h : Hub) (f : Fld) (v : Int) : (h.sput f v).pmc = h.pmc := rfl
@[simp] theorem sput_afe (h : Hub) (f : Fld) (v : Int) : (h.sput f v).afe = h.afe := rfl
@[simp] theorem sput_cnv (h : Hub) (f : Fld) (v : Int) : (h.sput f v).cnv = h.cnv := rfl
@[simp] theorem sput_se (h : Hub) (f : Fld) (v : Int) : (h.sput f v).se = h.se := rfl
@[simp] theorem sput_trg (h : Hub) (f : Fld) (v : Int) : (h.sput f v).trg = h.trg := rfl
@[simp] theorem sput_sp (h : Hub) (f : Fld) (v : Int) : (h.sput f v).sp = h.sp := rfl
@[simp] theorem sput_cal (h : Hub) (f : Fld) (v : Int) : (h.sput f v).cal = h.cal := rfl
@[simp] theorem sput_twn (h : Hub) (f : Fld) (v : Int) : (h.sput f v).twn = h.twn := rfl
@[simp] theorem sput_wl (h : Hub) (f : Fld) (v : Int) : (h.sput f v).wl = h.wl := rfl
@[simp] theorem sput_fi (h : Hub) (f : Fld) (v : Int) : (h.sput f v).fi = h.fi := rfl
@[simp] theorem sput_pwr (h : Hub) (f : Fld) (v : Int) : (h.sput f v).pwr = h.pwr := rfl
@[simp] theorem sput_ft (h : Hub) (f : Fld) (v : Int) : (h.sput f v).ft = h.ft := rfl
@[simp] theorem sput_boot (h : Hub) (f : Fld) (v : Int) : (h.sput f v).boot = h.boot := rfl
@[simp] theorem sput_fresh (h : Hub) (f : Fld) (v : Int) : (h.sput f v).fresh = h.fresh := rfl

@[simp] theorem bump_staged (h : Hub) (f : Fld) (n : Nat) : (h.bump f n).staged = h.staged := rfl
@[simp] theorem bump_latch (h : Hub) (f : Fld) (n : Nat) : (h.bump f n).latch = h.latch := rfl
@[simp] theorem bump_snap (h : Hub) (f : Fld) (n : Nat) : (h.bump f n).snap = h.snap := rfl
@[simp] theorem bump_lt (h : Hub) (f : Fld) (n : Nat) : (h.bump f n).lt = h.lt := rfl
@[simp] theorem bump_mt (h : Hub) (f : Fld) (n : Nat) : (h.bump f n).mt = h.mt := rfl
@[simp] theorem bump_tt (h : Hub) (f : Fld) (n : Nat) : (h.bump f n).tt = h.tt := rfl
@[simp] theorem bump_cis (h : Hub) (f : Fld) (n : Nat) : (h.bump f n).cis = h.cis := rfl
@[simp] theorem bump_evt (h : Hub) (f : Fld) (n : Nat) : (h.bump f n).evt = h.evt := rfl
@[simp] theorem bump_mem (h : Hub) (f : Fld) (n : Nat) : (h.bump f n).mem = h.mem := rfl
@[simp] theorem bump_pmc (h : Hub) (f : Fld) (n : Nat) : (h.bump f n).pmc = h.pmc := rfl
@[simp] theorem bump_afe (h : Hub) (f : Fld) (n : Nat) : (h.bump f n).afe = h.afe := rfl
@[simp] theorem bump_cnv (h : Hub) (f : Fld) (n : Nat) : (h.bump f n).cnv = h.cnv := rfl
@[simp] theorem bump_se (h : Hub) (f : Fld) (n : Nat) : (h.bump f n).se = h.se := rfl
@[simp] theorem bump_trg (h : Hub) (f : Fld) (n : Nat) : (h.bump f n).trg = h.trg := rfl
@[simp] theorem bump_sp (h : Hub) (f : Fld) (n : Nat) : (h.bump f n).sp = h.sp := rfl
@[simp] theorem bump_cal (h : Hub) (f : Fld) (n : Nat) : (h.bump f n).cal = h.cal := rfl
@[simp] theorem bump_twn (h : Hub) (f : Fld) (n : Nat) : (h.bump f n).twn = h.twn := rfl
@[simp] theorem bump_wl (h : Hub) (f : Fld) (n : Nat) : (h.bump f n).wl = h.wl := rfl
@[simp] theorem bump_fi (h : Hub) (f : Fld) (n : Nat) : (h.bump f n).fi = h.fi := rfl
@[simp] theorem bump_pwr (h : Hub) (f : Fld) (n : Nat) : (h.bump f n).pwr = h.pwr := rfl
@[simp] theorem bump_ft (h : Hub) (f : Fld) (n : Nat) : (h.bump f n).ft = h.ft := rfl
@[simp] theorem bump_boot (h : Hub) (f : Fld) (n : Nat) : (h.bump f n).boot = h.boot := rfl
@[simp] theorem bump_fresh (h : Hub) (f : Fld) (n : Nat) : (h.bump f n).fresh = h.fresh := rfl

@[simp] theorem bumpMod_staged (h : Hub) (f : Fld) (n : Nat) : (h.bumpMod f n).staged = h.staged := rfl
@[simp] theorem bumpMod_latch (h : Hub) (f : Fld) (n : Nat) : (h.bumpMod f n).latch = h.latch := rfl
@[simp] theorem bumpMod_snap (h : Hub) (f : Fld) (n : Nat) : (h.bumpMod f n).snap = h.snap := rfl
@[simp] theorem bumpMod_lt (h : Hub) (f : Fld) (n : Nat) : (h.bumpMod f n).lt = h.lt := rfl
@[simp] theorem bumpMod_mt (h : Hub) (f : Fld) (n : Nat) : (h.bumpMod f n).mt = h.mt := rfl
@[simp] theorem bumpMod_tt (h : Hub) (f : Fld) (n : Nat) : (h.bumpMod f n).tt = h.tt := rfl
@[simp] theorem bumpMod_cis (h : Hub) (f : Fld) (n : Nat) : (h.bumpMod f n).cis = h.cis := rfl
@[simp] theorem bumpMod_evt (h : Hub) (f : Fld) (n : Nat) : (h.bumpMod f n).evt = h.evt := rfl
@[simp] theorem bumpMod_mem (h : Hub) (f : Fld) (n : Nat) : (h.bumpMod f n).mem = h.mem := rfl
@[simp] theorem bumpMod_pmc (h : Hub) (f : Fld) (n : Nat) : (h.bumpMod f n).pmc = h.pmc := rfl
@[simp] theorem bumpMod_afe (h : Hub) (f : Fld) (n : Nat) : (h.bumpMod f n).afe = h.afe := rfl
@[simp] theorem bumpMod_cnv (h : Hub) (f : Fld) (n : Nat) : (h.bumpMod f n).cnv = h.cnv := rfl
@[simp] theorem bumpMod_se (h : Hub) (f : Fld) (n : Nat) : (h.bumpMod f n).se = h.se := rfl
@[simp] theorem bumpMod_trg (h : Hub) (f : Fld) (n : Nat) : (h.bumpMod f n).trg = h.trg := rfl
@[simp] theorem bumpMod_sp (h : Hub) (f : Fld) (n : Nat) : (h.bumpMod f n).sp = h.sp := rfl
@[simp] theorem bumpMod_cal (h : Hub) (f : Fld) (n : Nat) : (h.bumpMod f n).cal = h.cal := rfl
@[simp] theorem bumpMod_twn (h : Hub) (f : Fld) (n : Nat) : (h.bumpMod f n).twn = h.twn := rfl
@[simp] theorem bumpMod_wl (h : Hub) (f : Fld) (n : Nat) : (h.bumpMod f n).wl = h.wl := rfl
@[simp] theorem bumpMod_fi (h : Hub) (f : Fld) (n : Nat) : (h.bumpMod f n).fi = h.fi := rfl
@[simp] theorem bumpMod_pwr (h : Hub) (f : Fld) (n : Nat) : (h.bumpMod f n).pwr = h.pwr := rfl
@[simp] theorem bumpMod_ft (h : Hub) (f : Fld) (n : Nat) : (h.bumpMod f n).ft = h.ft := rfl
@[simp] theorem bumpMod_boot (h : Hub) (f : Fld) (n : Nat) : (h.bumpMod f n).boot = h.boot := rfl
@[simp] theorem bumpMod_fresh (h : Hub) (f : Fld) (n : Nat) : (h.bumpMod f n).fresh = h.fresh := rfl

@[simp] theorem tally_regs (h : Hub) (i n : Nat) : (h.tally i n).regs = h.regs := rfl
@[simp] theorem tally_staged (h : Hub) (i n : Nat) : (h.tally i n).staged = h.staged := rfl
@[simp] theorem tally_latch (h : Hub) (i n : Nat) : (h.tally i n).latch = h.latch := rfl
@[simp] theorem tally_snap (h : Hub) (i n : Nat) : (h.tally i n).snap = h.snap := rfl
@[simp] theorem tally_lt (h : Hub) (i n : Nat) : (h.tally i n).lt = h.lt := rfl
@[simp] theorem tally_mt (h : Hub) (i n : Nat) : (h.tally i n).mt = h.mt := rfl
@[simp] theorem tally_tt (h : Hub) (i n : Nat) : (h.tally i n).tt = h.tt := rfl
@[simp] theorem tally_cis (h : Hub) (i n : Nat) : (h.tally i n).cis = h.cis := rfl
@[simp] theorem tally_evt (h : Hub) (i n : Nat) : (h.tally i n).evt = h.evt := rfl
@[simp] theorem tally_mem (h : Hub) (i n : Nat) : (h.tally i n).mem = h.mem := rfl
@[simp] theorem tally_afe (h : Hub) (i n : Nat) : (h.tally i n).afe = h.afe := rfl
@[simp] theorem tally_cnv (h : Hub) (i n : Nat) : (h.tally i n).cnv = h.cnv := rfl
@[simp] theorem tally_se (h : Hub) (i n : Nat) : (h.tally i n).se = h.se := rfl
@[simp] theorem tally_trg (h : Hub) (i n : Nat) : (h.tally i n).trg = h.trg := rfl
@[simp] theorem tally_sp (h : Hub) (i n : Nat) : (h.tally i n).sp = h.sp := rfl
@[simp] theorem tally_cal (h : Hub) (i n : Nat) : (h.tally i n).cal = h.cal := rfl
@[simp] theorem tally_twn (h : Hub) (i n : Nat) : (h.tally i n).twn = h.twn := rfl
@[simp] theorem tally_wl (h : Hub) (i n : Nat) : (h.tally i n).wl = h.wl := rfl
@[simp] theorem tally_fi (h : Hub) (i n : Nat) : (h.tally i n).fi = h.fi := rfl
@[simp] theorem tally_pwr (h : Hub) (i n : Nat) : (h.tally i n).pwr = h.pwr := rfl
@[simp] theorem tally_ft (h : Hub) (i n : Nat) : (h.tally i n).ft = h.ft := rfl
@[simp] theorem tally_boot (h : Hub) (i n : Nat) : (h.tally i n).boot = h.boot := rfl
@[simp] theorem tally_fresh (h : Hub) (i n : Nat) : (h.tally i n).fresh = h.fresh := rfl

@[simp] theorem tick_regs (h : Hub) : (h.tick).regs = h.regs := rfl
@[simp] theorem tick_staged (h : Hub) : (h.tick).staged = h.staged := rfl
@[simp] theorem tick_latch (h : Hub) : (h.tick).latch = h.latch := rfl
@[simp] theorem tick_snap (h : Hub) : (h.tick).snap = h.snap := rfl
@[simp] theorem tick_lt (h : Hub) : (h.tick).lt = h.lt := rfl
@[simp] theorem tick_mt (h : Hub) : (h.tick).mt = h.mt := rfl
@[simp] theorem tick_tt (h : Hub) : (h.tick).tt = h.tt := rfl
@[simp] theorem tick_cis (h : Hub) : (h.tick).cis = h.cis := rfl
@[simp] theorem tick_evt (h : Hub) : (h.tick).evt = h.evt := rfl
@[simp] theorem tick_mem (h : Hub) : (h.tick).mem = h.mem := rfl
@[simp] theorem tick_pmc (h : Hub) : (h.tick).pmc = h.pmc := rfl
@[simp] theorem tick_afe (h : Hub) : (h.tick).afe = h.afe := rfl
@[simp] theorem tick_cnv (h : Hub) : (h.tick).cnv = h.cnv := rfl
@[simp] theorem tick_se (h : Hub) : (h.tick).se = h.se := rfl
@[simp] theorem tick_trg (h : Hub) : (h.tick).trg = h.trg := rfl
@[simp] theorem tick_sp (h : Hub) : (h.tick).sp = h.sp := rfl
@[simp] theorem tick_cal (h : Hub) : (h.tick).cal = h.cal := rfl
@[simp] theorem tick_twn (h : Hub) : (h.tick).twn = h.twn := rfl
@[simp] theorem tick_wl (h : Hub) : (h.tick).wl = h.wl := rfl
@[simp] theorem tick_fi (h : Hub) : (h.tick).fi = h.fi := rfl
@[simp] theorem tick_pwr (h : Hub) : (h.tick).pwr = h.pwr := rfl
@[simp] theorem tick_ft (h : Hub) : (h.tick).ft = h.ft := rfl
@[simp] theorem tick_boot (h : Hub) : (h.tick).boot = h.boot := rfl

@[simp] theorem passTime_regs (h : Hub) : (h.passTime).regs = h.regs := rfl
@[simp] theorem passTime_staged (h : Hub) : (h.passTime).staged = h.staged := rfl
@[simp] theorem passTime_latch (h : Hub) : (h.passTime).latch = h.latch := rfl
@[simp] theorem passTime_snap (h : Hub) : (h.passTime).snap = h.snap := rfl
@[simp] theorem passTime_mt (h : Hub) : (h.passTime).mt = h.mt := rfl
@[simp] theorem passTime_tt (h : Hub) : (h.passTime).tt = h.tt := rfl
@[simp] theorem passTime_cis (h : Hub) : (h.passTime).cis = h.cis := rfl
@[simp] theorem passTime_evt (h : Hub) : (h.passTime).evt = h.evt := rfl
@[simp] theorem passTime_mem (h : Hub) : (h.passTime).mem = h.mem := rfl
@[simp] theorem passTime_pmc (h : Hub) : (h.passTime).pmc = h.pmc := rfl
@[simp] theorem passTime_afe (h : Hub) : (h.passTime).afe = h.afe := rfl
@[simp] theorem passTime_cnv (h : Hub) : (h.passTime).cnv = h.cnv := rfl
@[simp] theorem passTime_se (h : Hub) : (h.passTime).se = h.se := rfl
@[simp] theorem passTime_trg (h : Hub) : (h.passTime).trg = h.trg := rfl
@[simp] theorem passTime_sp (h : Hub) : (h.passTime).sp = h.sp := rfl
@[simp] theorem passTime_cal (h : Hub) : (h.passTime).cal = h.cal := rfl
@[simp] theorem passTime_twn (h : Hub) : (h.passTime).twn = h.twn := rfl
@[simp] theorem passTime_wl (h : Hub) : (h.passTime).wl = h.wl := rfl
@[simp] theorem passTime_fi (h : Hub) : (h.passTime).fi = h.fi := rfl
@[simp] theorem passTime_pwr (h : Hub) : (h.passTime).pwr = h.pwr := rfl
@[simp] theorem passTime_ft (h : Hub) : (h.passTime).ft = h.ft := rfl
@[simp] theorem passTime_boot (h : Hub) : (h.passTime).boot = h.boot := rfl

@[simp] theorem wrapTime_regs (h : Hub) : (h.wrapTime).regs = h.regs := rfl
@[simp] theorem wrapTime_staged (h : Hub) : (h.wrapTime).staged = h.staged := rfl
@[simp] theorem wrapTime_latch (h : Hub) : (h.wrapTime).latch = h.latch := rfl
@[simp] theorem wrapTime_snap (h : Hub) : (h.wrapTime).snap = h.snap := rfl
@[simp] theorem wrapTime_mt (h : Hub) : (h.wrapTime).mt = h.mt := rfl
@[simp] theorem wrapTime_tt (h : Hub) : (h.wrapTime).tt = h.tt := rfl
@[simp] theorem wrapTime_cis (h : Hub) : (h.wrapTime).cis = h.cis := rfl
@[simp] theorem wrapTime_evt (h : Hub) : (h.wrapTime).evt = h.evt := rfl
@[simp] theorem wrapTime_mem (h : Hub) : (h.wrapTime).mem = h.mem := rfl
@[simp] theorem wrapTime_pmc (h : Hub) : (h.wrapTime).pmc = h.pmc := rfl
@[simp] theorem wrapTime_afe (h : Hub) : (h.wrapTime).afe = h.afe := rfl
@[simp] theorem wrapTime_cnv (h : Hub) : (h.wrapTime).cnv = h.cnv := rfl
@[simp] theorem wrapTime_se (h : Hub) : (h.wrapTime).se = h.se := rfl
@[simp] theorem wrapTime_trg (h : Hub) : (h.wrapTime).trg = h.trg := rfl
@[simp] theorem wrapTime_sp (h : Hub) : (h.wrapTime).sp = h.sp := rfl
@[simp] theorem wrapTime_cal (h : Hub) : (h.wrapTime).cal = h.cal := rfl
@[simp] theorem wrapTime_twn (h : Hub) : (h.wrapTime).twn = h.twn := rfl
@[simp] theorem wrapTime_wl (h : Hub) : (h.wrapTime).wl = h.wl := rfl
@[simp] theorem wrapTime_fi (h : Hub) : (h.wrapTime).fi = h.fi := rfl
@[simp] theorem wrapTime_pwr (h : Hub) : (h.wrapTime).pwr = h.pwr := rfl
@[simp] theorem wrapTime_ft (h : Hub) : (h.wrapTime).ft = h.ft := rfl
@[simp] theorem wrapTime_boot (h : Hub) : (h.wrapTime).boot = h.boot := rfl
@[simp] theorem wrapTime_fresh (h : Hub) : (h.wrapTime).fresh = h.fresh := rfl

@[simp] theorem setEntry_regs (h : Hub) (i : Nat) (e : TtEntry) : (h.setEntry i e).regs = h.regs := rfl
@[simp] theorem setEntry_staged (h : Hub) (i : Nat) (e : TtEntry) : (h.setEntry i e).staged = h.staged := rfl
@[simp] theorem setEntry_latch (h : Hub) (i : Nat) (e : TtEntry) : (h.setEntry i e).latch = h.latch := rfl
@[simp] theorem setEntry_snap (h : Hub) (i : Nat) (e : TtEntry) : (h.setEntry i e).snap = h.snap := rfl
@[simp] theorem setEntry_lt (h : Hub) (i : Nat) (e : TtEntry) : (h.setEntry i e).lt = h.lt := rfl
@[simp] theorem setEntry_mt (h : Hub) (i : Nat) (e : TtEntry) : (h.setEntry i e).mt = h.mt := rfl
@[simp] theorem setEntry_cis (h : Hub) (i : Nat) (e : TtEntry) : (h.setEntry i e).cis = h.cis := rfl
@[simp] theorem setEntry_evt (h : Hub) (i : Nat) (e : TtEntry) : (h.setEntry i e).evt = h.evt := rfl
@[simp] theorem setEntry_mem (h : Hub) (i : Nat) (e : TtEntry) : (h.setEntry i e).mem = h.mem := rfl
@[simp] theorem setEntry_pmc (h : Hub) (i : Nat) (e : TtEntry) : (h.setEntry i e).pmc = h.pmc := rfl
@[simp] theorem setEntry_afe (h : Hub) (i : Nat) (e : TtEntry) : (h.setEntry i e).afe = h.afe := rfl
@[simp] theorem setEntry_cnv (h : Hub) (i : Nat) (e : TtEntry) : (h.setEntry i e).cnv = h.cnv := rfl
@[simp] theorem setEntry_se (h : Hub) (i : Nat) (e : TtEntry) : (h.setEntry i e).se = h.se := rfl
@[simp] theorem setEntry_trg (h : Hub) (i : Nat) (e : TtEntry) : (h.setEntry i e).trg = h.trg := rfl
@[simp] theorem setEntry_sp (h : Hub) (i : Nat) (e : TtEntry) : (h.setEntry i e).sp = h.sp := rfl
@[simp] theorem setEntry_cal (h : Hub) (i : Nat) (e : TtEntry) : (h.setEntry i e).cal = h.cal := rfl
@[simp] theorem setEntry_twn (h : Hub) (i : Nat) (e : TtEntry) : (h.setEntry i e).twn = h.twn := rfl
@[simp] theorem setEntry_wl (h : Hub) (i : Nat) (e : TtEntry) : (h.setEntry i e).wl = h.wl := rfl
@[simp] theorem setEntry_fi (h : Hub) (i : Nat) (e : TtEntry) : (h.setEntry i e).fi = h.fi := rfl
@[simp] theorem setEntry_pwr (h : Hub) (i : Nat) (e : TtEntry) : (h.setEntry i e).pwr = h.pwr := rfl
@[simp] theorem setEntry_ft (h : Hub) (i : Nat) (e : TtEntry) : (h.setEntry i e).ft = h.ft := rfl
@[simp] theorem setEntry_boot (h : Hub) (i : Nat) (e : TtEntry) : (h.setEntry i e).boot = h.boot := rfl
@[simp] theorem setEntry_fresh (h : Hub) (i : Nat) (e : TtEntry) : (h.setEntry i e).fresh = h.fresh := rfl

@[simp] theorem scheduleCode_regs (h : Hub) (code arg : Nat) (a : Int) : (h.scheduleCode code arg a).regs = h.regs := by unfold scheduleCode; split_ifs <;> rfl
@[simp] theorem scheduleCode_staged (h : Hub) (code arg : Nat) (a : Int) : (h.scheduleCode code arg a).staged = h.staged := by unfold scheduleCode; split_ifs <;> rfl
@[simp] theorem scheduleCode_latch (h : Hub) (code arg : Nat) (a : Int) : (h.scheduleCode code arg a).latch = h.latch := by unfold scheduleCode; split_ifs <;> rfl
@[simp] theorem scheduleCode_snap (h : Hub) (code arg : Nat) (a : Int) : (h.scheduleCode code arg a).snap = h.snap := by unfold scheduleCode; split_ifs <;> rfl
@[simp] theorem scheduleCode_lt (h : Hub) (code arg : Nat) (a : Int) : (h.scheduleCode code arg a).lt = h.lt := by unfold scheduleCode; split_ifs <;> rfl
@[simp] theorem scheduleCode_mt (h : Hub) (code arg : Nat) (a : Int) : (h.scheduleCode code arg a).mt = h.mt := by unfold scheduleCode; split_ifs <;> rfl
@[simp] theorem scheduleCode_cis (h : Hub) (code arg : Nat) (a : Int) : (h.scheduleCode code arg a).cis = h.cis := by unfold scheduleCode; split_ifs <;> rfl
@[simp] theorem scheduleCode_evt (h : Hub) (code arg : Nat) (a : Int) : (h.scheduleCode code arg a).evt = h.evt := by unfold scheduleCode; split_ifs <;> rfl
@[simp] theorem scheduleCode_mem (h : Hub) (code arg : Nat) (a : Int) : (h.scheduleCode code arg a).mem = h.mem := by unfold scheduleCode; split_ifs <;> rfl
@[simp] theorem scheduleCode_pmc (h : Hub) (code arg : Nat) (a : Int) : (h.scheduleCode code arg a).pmc = h.pmc := by unfold scheduleCode; split_ifs <;> rfl
@[simp] theorem scheduleCode_afe (h : Hub) (code arg : Nat) (a : Int) : (h.scheduleCode code arg a).afe = h.afe := by unfold scheduleCode; split_ifs <;> rfl
@[simp] theorem scheduleCode_cnv (h : Hub) (code arg : Nat) (a : Int) : (h.scheduleCode code arg a).cnv = h.cnv := by unfold scheduleCode; split_ifs <;> rfl
@[simp] theorem scheduleCode_se (h : Hub) (code arg : Nat) (a : Int) : (h.scheduleCode code arg a).se = h.se := by unfold scheduleCode; split_ifs <;> rfl
@[simp] theorem scheduleCode_trg (h : Hub) (code arg : Nat) (a : Int) : (h.scheduleCode code arg a).trg = h.trg := by unfold scheduleCode; split_ifs <;> rfl
@[simp] theorem scheduleCode_sp (h : Hub) (code arg : Nat) (a : Int) : (h.scheduleCode code arg a).sp = h.sp := by unfold scheduleCode; split_ifs <;> rfl
@[simp] theorem scheduleCode_cal (h : Hub) (code arg : Nat) (a : Int) : (h.scheduleCode code arg a).cal = h.cal := by unfold scheduleCode; split_ifs <;> rfl
@[simp] theorem scheduleCode_twn (h : Hub) (code arg : Nat) (a : Int) : (h.scheduleCode code arg a).twn = h.twn := by unfold scheduleCode; split_ifs <;> rfl
@[simp] theorem scheduleCode_wl (h : Hub) (code arg : Nat) (a : Int) : (h.scheduleCode code arg a).wl = h.wl := by unfold scheduleCode; split_ifs <;> rfl
@[simp] theorem scheduleCode_fi (h : Hub) (code arg : Nat) (a : Int) : (h.scheduleCode code arg a).fi = h.fi := by unfold scheduleCode; split_ifs <;> rfl
@[simp] theorem scheduleCode_pwr (h : Hub) (code arg : Nat) (a : Int) : (h.scheduleCode code arg a).pwr = h.pwr := by unfold scheduleCode; split_ifs <;> rfl
@[simp] theorem scheduleCode_ft (h : Hub) (code arg : Nat) (a : Int) : (h.scheduleCode code arg a).ft = h.ft := by unfold scheduleCode; split_ifs <;> rfl
@[simp] theorem scheduleCode_boot (h : Hub) (code arg : Nat) (a : Int) : (h.scheduleCode code arg a).boot = h.boot := by unfold scheduleCode; split_ifs <;> rfl
@[simp] theorem scheduleCode_fresh (h : Hub) (code arg : Nat) (a : Int) : (h.scheduleCode code arg a).fresh = h.fresh := by unfold scheduleCode; split_ifs <;> rfl

@[simp] theorem routeTt_regs (h : Hub) (src : Nat) : (h.routeTt src).regs = h.regs := by unfold routeTt; split_ifs <;> simp
@[simp] theorem routeTt_staged (h : Hub) (src : Nat) : (h.routeTt src).staged = h.staged := by unfold routeTt; split_ifs <;> simp
@[simp] theorem routeTt_latch (h : Hub) (src : Nat) : (h.routeTt src).latch = h.latch := by unfold routeTt; split_ifs <;> simp
@[simp] theorem routeTt_snap (h : Hub) (src : Nat) : (h.routeTt src).snap = h.snap := by unfold routeTt; split_ifs <;> simp
@[simp] theorem routeTt_lt (h : Hub) (src : Nat) : (h.routeTt src).lt = h.lt := by unfold routeTt; split_ifs <;> simp
@[simp] theorem routeTt_mt (h : Hub) (src : Nat) : (h.routeTt src).mt = h.mt := by unfold routeTt; split_ifs <;> simp
@[simp] theorem routeTt_cis (h : Hub) (src : Nat) : (h.routeTt src).cis = h.cis := by unfold routeTt; split_ifs <;> simp
@[simp] theorem routeTt_evt (h : Hub) (src : Nat) : (h.routeTt src).evt = h.evt := by unfold routeTt; split_ifs <;> simp
@[simp] theorem routeTt_mem (h : Hub) (src : Nat) : (h.routeTt src).mem = h.mem := by unfold routeTt; split_ifs <;> simp
@[simp] theorem routeTt_pmc (h : Hub) (src : Nat) : (h.routeTt src).pmc = h.pmc := by unfold routeTt; split_ifs <;> simp
@[simp] theorem routeTt_afe (h : Hub) (src : Nat) : (h.routeTt src).afe = h.afe := by unfold routeTt; split_ifs <;> simp
@[simp] theorem routeTt_cnv (h : Hub) (src : Nat) : (h.routeTt src).cnv = h.cnv := by unfold routeTt; split_ifs <;> simp
@[simp] theorem routeTt_se (h : Hub) (src : Nat) : (h.routeTt src).se = h.se := by unfold routeTt; split_ifs <;> simp
@[simp] theorem routeTt_trg (h : Hub) (src : Nat) : (h.routeTt src).trg = h.trg := by unfold routeTt; split_ifs <;> simp
@[simp] theorem routeTt_sp (h : Hub) (src : Nat) : (h.routeTt src).sp = h.sp := by unfold routeTt; split_ifs <;> simp
@[simp] theorem routeTt_cal (h : Hub) (src : Nat) : (h.routeTt src).cal = h.cal := by unfold routeTt; split_ifs <;> simp
@[simp] theorem routeTt_twn (h : Hub) (src : Nat) : (h.routeTt src).twn = h.twn := by unfold routeTt; split_ifs <;> simp
@[simp] theorem routeTt_wl (h : Hub) (src : Nat) : (h.routeTt src).wl = h.wl := by unfold routeTt; split_ifs <;> simp
@[simp] theorem routeTt_fi (h : Hub) (src : Nat) : (h.routeTt src).fi = h.fi := by unfold routeTt; split_ifs <;> simp
@[simp] theorem routeTt_pwr (h : Hub) (src : Nat) : (h.routeTt src).pwr = h.pwr := by unfold routeTt; split_ifs <;> simp
@[simp] theorem routeTt_ft (h : Hub) (src : Nat) : (h.routeTt src).ft = h.ft := by unfold routeTt; split_ifs <;> simp
@[simp] theorem routeTt_boot (h : Hub) (src : Nat) : (h.routeTt src).boot = h.boot := by unfold routeTt; split_ifs <;> simp
@[simp] theorem routeTt_fresh (h : Hub) (src : Nat) : (h.routeTt src).fresh = h.fresh := by unfold routeTt; split_ifs <;> simp

@[simp] theorem routeDma_regs (h : Hub) (src : Nat) : (h.routeDma src).regs = h.regs := rfl
@[simp] theorem routeDma_staged (h : Hub) (src : Nat) : (h.routeDma src).staged = h.staged := rfl
@[simp] theorem routeDma_latch (h : Hub) (src : Nat) : (h.routeDma src).latch = h.latch := rfl
@[simp] theorem routeDma_snap (h : Hub) (src : Nat) : (h.routeDma src).snap = h.snap := rfl
@[simp] theorem routeDma_lt (h : Hub) (src : Nat) : (h.routeDma src).lt = h.lt := rfl
@[simp] theorem routeDma_mt (h : Hub) (src : Nat) : (h.routeDma src).mt = h.mt := rfl
@[simp] theorem routeDma_tt (h : Hub) (src : Nat) : (h.routeDma src).tt = h.tt := rfl
@[simp] theorem routeDma_cis (h : Hub) (src : Nat) : (h.routeDma src).cis = h.cis := rfl
@[simp] theorem routeDma_evt (h : Hub) (src : Nat) : (h.routeDma src).evt = h.evt := rfl
@[simp] theorem routeDma_pmc (h : Hub) (src : Nat) : (h.routeDma src).pmc = h.pmc := rfl
@[simp] theorem routeDma_afe (h : Hub) (src : Nat) : (h.routeDma src).afe = h.afe := rfl
@[simp] theorem routeDma_cnv (h : Hub) (src : Nat) : (h.routeDma src).cnv = h.cnv := rfl
@[simp] theorem routeDma_se (h : Hub) (src : Nat) : (h.routeDma src).se = h.se := rfl
@[simp] theorem routeDma_trg (h : Hub) (src : Nat) : (h.routeDma src).trg = h.trg := rfl
@[simp] theorem routeDma_sp (h : Hub) (src : Nat) : (h.routeDma src).sp = h.sp := rfl
@[simp] theorem routeDma_cal (h : Hub) (src : Nat) : (h.routeDma src).cal = h.cal := rfl
@[simp] theorem routeDma_twn (h : Hub) (src : Nat) : (h.routeDma src).twn = h.twn := rfl
@[simp] theorem routeDma_wl (h : Hub) (src : Nat) : (h.routeDma src).wl = h.wl := rfl
@[simp] theorem routeDma_fi (h : Hub) (src : Nat) : (h.routeDma src).fi = h.fi := rfl
@[simp] theorem routeDma_pwr (h : Hub) (src : Nat) : (h.routeDma src).pwr = h.pwr := rfl
@[simp] theorem routeDma_ft (h : Hub) (src : Nat) : (h.routeDma src).ft = h.ft := rfl
@[simp] theorem routeDma_boot (h : Hub) (src : Nat) : (h.routeDma src).boot = h.boot := rfl
@[simp] theorem routeDma_fresh (h : Hub) (src : Nat) : (h.routeDma src).fresh = h.fresh := rfl

@[simp] theorem raiseAt_regs (h : Hub) (m : MT) (src cause : Nat) (detail : List Nat) : (h.raiseAt m src cause detail).regs = h.regs := by simp [raiseAt]
@[simp] theorem raiseAt_staged (h : Hub) (m : MT) (src cause : Nat) (detail : List Nat) : (h.raiseAt m src cause detail).staged = h.staged := by simp [raiseAt]
@[simp] theorem raiseAt_latch (h : Hub) (m : MT) (src cause : Nat) (detail : List Nat) : (h.raiseAt m src cause detail).latch = h.latch := by simp [raiseAt]
@[simp] theorem raiseAt_snap (h : Hub) (m : MT) (src cause : Nat) (detail : List Nat) : (h.raiseAt m src cause detail).snap = h.snap := by simp [raiseAt]
@[simp] theorem raiseAt_lt (h : Hub) (m : MT) (src cause : Nat) (detail : List Nat) : (h.raiseAt m src cause detail).lt = h.lt := by simp [raiseAt]
@[simp] theorem raiseAt_mt (h : Hub) (m : MT) (src cause : Nat) (detail : List Nat) : (h.raiseAt m src cause detail).mt = h.mt := by simp [raiseAt]
@[simp] theorem raiseAt_cis (h : Hub) (m : MT) (src cause : Nat) (detail : List Nat) : (h.raiseAt m src cause detail).cis = h.cis := by simp [raiseAt]
@[simp] theorem raiseAt_afe (h : Hub) (m : MT) (src cause : Nat) (detail : List Nat) : (h.raiseAt m src cause detail).afe = h.afe := by simp [raiseAt]
@[simp] theorem raiseAt_cnv (h : Hub) (m : MT) (src cause : Nat) (detail : List Nat) : (h.raiseAt m src cause detail).cnv = h.cnv := by simp [raiseAt]
@[simp] theorem raiseAt_se (h : Hub) (m : MT) (src cause : Nat) (detail : List Nat) : (h.raiseAt m src cause detail).se = h.se := by simp [raiseAt]
@[simp] theorem raiseAt_trg (h : Hub) (m : MT) (src cause : Nat) (detail : List Nat) : (h.raiseAt m src cause detail).trg = h.trg := by simp [raiseAt]
@[simp] theorem raiseAt_sp (h : Hub) (m : MT) (src cause : Nat) (detail : List Nat) : (h.raiseAt m src cause detail).sp = h.sp := by simp [raiseAt]
@[simp] theorem raiseAt_cal (h : Hub) (m : MT) (src cause : Nat) (detail : List Nat) : (h.raiseAt m src cause detail).cal = h.cal := by simp [raiseAt]
@[simp] theorem raiseAt_twn (h : Hub) (m : MT) (src cause : Nat) (detail : List Nat) : (h.raiseAt m src cause detail).twn = h.twn := by simp [raiseAt]
@[simp] theorem raiseAt_wl (h : Hub) (m : MT) (src cause : Nat) (detail : List Nat) : (h.raiseAt m src cause detail).wl = h.wl := by simp [raiseAt]
@[simp] theorem raiseAt_fi (h : Hub) (m : MT) (src cause : Nat) (detail : List Nat) : (h.raiseAt m src cause detail).fi = h.fi := by simp [raiseAt]
@[simp] theorem raiseAt_pwr (h : Hub) (m : MT) (src cause : Nat) (detail : List Nat) : (h.raiseAt m src cause detail).pwr = h.pwr := by simp [raiseAt]
@[simp] theorem raiseAt_ft (h : Hub) (m : MT) (src cause : Nat) (detail : List Nat) : (h.raiseAt m src cause detail).ft = h.ft := by simp [raiseAt]
@[simp] theorem raiseAt_boot (h : Hub) (m : MT) (src cause : Nat) (detail : List Nat) : (h.raiseAt m src cause detail).boot = h.boot := by simp [raiseAt]
@[simp] theorem raiseAt_fresh (h : Hub) (m : MT) (src cause : Nat) (detail : List Nat) : (h.raiseAt m src cause detail).fresh = h.fresh := by simp [raiseAt]

@[simp] theorem raise_regs (h : Hub) (src cause : Nat) (detail : List Nat) : (h.raise src cause detail).regs = h.regs := raiseAt_regs ..
@[simp] theorem raise_staged (h : Hub) (src cause : Nat) (detail : List Nat) : (h.raise src cause detail).staged = h.staged := raiseAt_staged ..
@[simp] theorem raise_latch (h : Hub) (src cause : Nat) (detail : List Nat) : (h.raise src cause detail).latch = h.latch := raiseAt_latch ..
@[simp] theorem raise_snap (h : Hub) (src cause : Nat) (detail : List Nat) : (h.raise src cause detail).snap = h.snap := raiseAt_snap ..
@[simp] theorem raise_lt (h : Hub) (src cause : Nat) (detail : List Nat) : (h.raise src cause detail).lt = h.lt := raiseAt_lt ..
@[simp] theorem raise_mt (h : Hub) (src cause : Nat) (detail : List Nat) : (h.raise src cause detail).mt = h.mt := raiseAt_mt ..
@[simp] theorem raise_cis (h : Hub) (src cause : Nat) (detail : List Nat) : (h.raise src cause detail).cis = h.cis := raiseAt_cis ..
@[simp] theorem raise_afe (h : Hub) (src cause : Nat) (detail : List Nat) : (h.raise src cause detail).afe = h.afe := raiseAt_afe ..
@[simp] theorem raise_cnv (h : Hub) (src cause : Nat) (detail : List Nat) : (h.raise src cause detail).cnv = h.cnv := raiseAt_cnv ..
@[simp] theorem raise_se (h : Hub) (src cause : Nat) (detail : List Nat) : (h.raise src cause detail).se = h.se := raiseAt_se ..
@[simp] theorem raise_trg (h : Hub) (src cause : Nat) (detail : List Nat) : (h.raise src cause detail).trg = h.trg := raiseAt_trg ..
@[simp] theorem raise_sp (h : Hub) (src cause : Nat) (detail : List Nat) : (h.raise src cause detail).sp = h.sp := raiseAt_sp ..
@[simp] theorem raise_cal (h : Hub) (src cause : Nat) (detail : List Nat) : (h.raise src cause detail).cal = h.cal := raiseAt_cal ..
@[simp] theorem raise_twn (h : Hub) (src cause : Nat) (detail : List Nat) : (h.raise src cause detail).twn = h.twn := raiseAt_twn ..
@[simp] theorem raise_wl (h : Hub) (src cause : Nat) (detail : List Nat) : (h.raise src cause detail).wl = h.wl := raiseAt_wl ..
@[simp] theorem raise_fi (h : Hub) (src cause : Nat) (detail : List Nat) : (h.raise src cause detail).fi = h.fi := raiseAt_fi ..
@[simp] theorem raise_pwr (h : Hub) (src cause : Nat) (detail : List Nat) : (h.raise src cause detail).pwr = h.pwr := raiseAt_pwr ..
@[simp] theorem raise_ft (h : Hub) (src cause : Nat) (detail : List Nat) : (h.raise src cause detail).ft = h.ft := raiseAt_ft ..
@[simp] theorem raise_boot (h : Hub) (src cause : Nat) (detail : List Nat) : (h.raise src cause detail).boot = h.boot := raiseAt_boot ..
@[simp] theorem raise_fresh (h : Hub) (src cause : Nat) (detail : List Nat) : (h.raise src cause detail).fresh = h.fresh := raiseAt_fresh ..

@[simp] theorem scheduleCode_tt_entries (h : Hub) (code arg : Nat) (a : Int) :
    (h.scheduleCode code arg a).tt.entries = h.tt.entries := by unfold scheduleCode; split_ifs <;> rfl

@[simp] theorem routeTt_tt_entries (h : Hub) (src : Nat) : (h.routeTt src).tt.entries = h.tt.entries := by
  unfold routeTt; split_ifs <;> simp

/-- Raising an event schedules actions, and leaves the rest of the Timetable alone. -/
@[simp] theorem raiseAt_tt_entries (h : Hub) (m : MT) (src cause : Nat) (detail : List Nat) :
    (h.raiseAt m src cause detail).tt.entries = h.tt.entries := by
  simp [raiseAt]

@[simp] theorem raise_tt_entries (h : Hub) (src cause : Nat) (detail : List Nat) :
    (h.raise src cause detail).tt.entries = h.tt.entries := raiseAt_tt_entries ..

@[simp] theorem wrapTime_lt (h : Hub) : h.wrapTime.lt = h.lt % 2 ^ 64 := rfl

/-- A time of 64 bits stays as it is. -/
theorem wrapTime_of_lt (h : Hub) (hl : h.lt < 2 ^ 64) : h.wrapTime = h := by
  cases h; simp_all [wrapTime, Nat.mod_eq_of_lt]

theorem passTime_lt_lt (h : Hub) : h.passTime.lt < 2 ^ 64 := Nat.mod_lt _ (by norm_num)

end Hub

end Sys2Proof.Machine
end

