-- ==== Sys2Proof/Laws/Memory.lean ====
section
/-!
SUPPORT. The memories and the flash: what a byte reads as after each operation, and that each operation keeps the canonical
form.
-/

namespace Sys2Proof.Machine

namespace SMap

variable {α : Type}

/-- Unlisting every key of a set keeps the canonical form. -/
theorem wf_filter [DecidableEq α] {d : Nat → α} {m : SMap α} (p : Nat × α → Bool) (h : wf d m = true) : wf d (m.filter p) = true := by
  simp only [wf, Bool.and_eq_true, List.all_eq_true] at *
  exact ⟨rising_filter _ h.1, fun q hq => h.2 q (List.mem_of_mem_filter hq)⟩

/-- After unlisting every key that `p` drops, those keys read as unlisted and the others as before. -/
theorem get_filter (d : Nat → α) (m : SMap α) (p : Nat → Bool) (k : Nat) :
    get d (m.filter fun q => p q.1) k = if p k then get d m k else d k := by
  unfold get
  induction m with
  | nil => simp
  | cons q m ih =>
    obtain ⟨k', v'⟩ := q
    rw [List.filter_cons]
    by_cases e : k' = k
    · subst e
      by_cases hp : p k' = true
      · simp [hp, find?]
      · simp only [hp] at ih ⊢
        simpa using ih
    · by_cases hp : p k' = true
      · simpa [hp, find?, e] using ih
      · simpa [hp, find?, e] using ih

/-- Writes one after the other keep the canonical form. -/
theorem wf_foldl_set [DecidableEq α] {d : Nat → α} {β : Type} (key : β → Nat) (val : β → α) (l : List β) {m : SMap α}
    (h : wf d m = true) : wf d (l.foldl (fun m p => set d m (key p) (val p)) m) = true := by
  induction l generalizing m with
  | nil => exact h
  | cons p l ih => exact ih (wf_set _ _ h)

end SMap

namespace Hub

/-! ### Plain bytes -/

@[simp] theorem plainByte_setByte_self (h : Hub) (a : Nat) (b : Byte) : (h.setByte a b).plainByte a = b := SMap.get_set_self ..

theorem plainByte_setByte_ne (h : Hub) {a c : Nat} (b : Byte) (hc : c ≠ a) : (h.setByte a b).plainByte c = h.plainByte c :=
  SMap.get_set_ne _ _ _ hc

theorem plainByte_setByte (h : Hub) (a c : Nat) (b : Byte) : (h.setByte a b).plainByte c = if c = a then b else h.plainByte c :=
  SMap.get_set ..

/-- A stored word leaves every byte but its four alone. -/
theorem plainByte_setMemWord_ne (h : Hub) {a c : Nat} (w : Word) (hc : c < a ∨ a + 4 ≤ c) :
    (h.setMemWord a w).plainByte c = h.plainByte c := by
  unfold setMemWord
  rw [plainByte_setByte_ne, plainByte_setByte_ne, plainByte_setByte_ne, plainByte_setByte_ne] <;> omega

/-- The four bytes of a stored word. -/
theorem plainByte_setMemWord (h : Hub) (a : Nat) (w : Word) (i : Nat) (hi : i < 4) :
    (h.setMemWord a w).plainByte (a + i) = leByte w.toNat i := by
  unfold setMemWord
  obtain rfl | rfl | rfl | rfl : i = 0 ∨ i = 1 ∨ i = 2 ∨ i = 3 := by omega
  all_goals simp [plainByte_setByte]

/-- A fill makes every byte of the memory's window read 0, and leaves every other byte alone. -/
theorem plainByte_fillMemory (h : Hub) (m a : Nat) :
    (h.fillMemory m).plainByte a =
      if (memWindow m).1 ≤ a ∧ a < (memWindow m).1 + (memWindow m).2 then 0 else h.plainByte a := by
  unfold fillMemory plainByte
  rw [SMap.get_filter (fun _ => (0 : Byte)) h.mem.bytes
    (fun x => !(decide ((memWindow m).1 ≤ x) && decide (x < (memWindow m).1 + (memWindow m).2)))]
  by_cases hx : (memWindow m).1 ≤ a ∧ a < (memWindow m).1 + (memWindow m).2 <;> simp [hx]

/-! ### The canonical form -/

theorem setByte_wf {h : Hub} (a : Nat) (b : Byte) (hw : h.mem.wf = true) : (h.setByte a b).mem.wf = true := SMap.wf_set _ _ hw

theorem setMemWord_wf {h : Hub} (a : Nat) (w : Word) (hw : h.mem.wf = true) : (h.setMemWord a w).mem.wf = true :=
  setByte_wf _ _ (setByte_wf _ _ (setByte_wf _ _ (setByte_wf _ _ hw)))

theorem foldl_setMemWord_wf (a : Nat) (l : List (Word × Nat)) {h : Hub} (hw : h.mem.wf = true) :
    (l.foldl (fun (h : Hub) (p : Word × Nat) => h.setMemWord (a + 4 * p.2) p.1) h).mem.wf = true := by
  induction l generalizing h with
  | nil => exact hw
  | cons p l ih => exact ih (setMemWord_wf _ _ hw)

theorem setMemWords_wf {h : Hub} (a : Nat) (ws : List Word) (hw : h.mem.wf = true) : (h.setMemWords a ws).mem.wf = true :=
  foldl_setMemWord_wf a (ws.zip (List.range ws.length)) hw

theorem fillMemory_wf {h : Hub} (m : Nat) (hw : h.mem.wf = true) : (h.fillMemory m).mem.wf = true := SMap.wf_filter _ hw

theorem reset_memory_wf : State.reset.hub.mem.wf = true := by decide

/-! ### The flash -/

/-- Programming from an offset on keeps the canonical form. -/
theorem nvmWrite_wf {h : Hub} (a : Nat) (bs : List Byte) (hw : h.nvmWf = true) : (h.nvmWrite a bs).nvmWf = true :=
  SMap.wf_foldl_set (fun p : Byte × Nat => a + p.2) (fun p => p.1) _ hw

theorem nvmErase_wf {h : Hub} (a n : Nat) (hw : h.nvmWf = true) : (h.nvmErase a n).nvmWf = true := SMap.wf_filter _ hw

theorem reset_nvm_wf : State.reset.hub.nvmWf = true := by decide

/-- An erased range reads 0xFF, and no other byte changes. -/
theorem nvmByte_nvmErase (h : Hub) (a n c : Nat) : (h.nvmErase a n).nvmByte c = if a ≤ c ∧ c < a + n then 0xFF else h.nvmByte c := by
  unfold nvmErase nvmByte
  rw [SMap.get_filter (fun _ => (0xFF : Byte)) h.boot.nvm (fun x => !(decide (a ≤ x) && decide (x < a + n)))]
  by_cases hx : a ≤ c ∧ c < a + n <;> simp [hx]

end Hub

end Sys2Proof.Machine
end

