-- ==== Sys2Proof/Laws/Registers.lean ====
section
/-!
SUPPORT. The laws of registers and fields: a read after a write, other registers and other fields left alone, and the operations
that touch no register.
-/

namespace Sys2Proof.Machine

theorem Fld.get_lt (f : Fld) (w : Word) : f.get w < 2 ^ f.width := Nat.mod_lt _ (Nat.two_pow_pos _)

/-- A number cut at two places. -/
theorem nat_split (n lo w : Nat) : n = n / 2 ^ (lo + w) * 2 ^ (lo + w) + n / 2 ^ lo % 2 ^ w * 2 ^ lo + n % 2 ^ lo := by
  have h1 := Nat.div_add_mod n (2 ^ lo)
  have h2 := Nat.div_add_mod (n / 2 ^ lo) (2 ^ w)
  rw [Nat.div_div_eq_div_mul, ← pow_add] at h2
  calc n = 2 ^ lo * (n / 2 ^ lo) + n % 2 ^ lo := h1.symm
    _ = 2 ^ lo * (2 ^ w * (n / 2 ^ (lo + w)) + n / 2 ^ lo % 2 ^ w) + n % 2 ^ lo := by rw [h2]
    _ = _ := by rw [pow_add]; ring

/-- What a put leaves of the word, and what it adds. -/
theorem Fld.rest (f : Fld) (w : Word) :
    w.toNat - f.get w * 2 ^ f.lo = w.toNat / 2 ^ (f.lo + f.width) * 2 ^ (f.lo + f.width) + w.toNat % 2 ^ f.lo := by
  have := nat_split w.toNat f.lo f.width
  simp only [Fld.get]
  omega

theorem Fld.put_toNat (f : Fld) (w : Word) (v : Nat) (hf : f.lo + f.width ≤ 32) :
    (f.put w v).toNat = w.toNat - f.get w * 2 ^ f.lo + v % 2 ^ f.width * 2 ^ f.lo := by
  have hw := w.isLt
  have hv : v % 2 ^ f.width < 2 ^ f.width := Nat.mod_lt _ (Nat.two_pow_pos _)
  rw [Fld.put, BitVec.toNat_ofNat]
  apply Nat.mod_eq_of_lt
  rw [f.rest]
  have hB : w.toNat % 2 ^ f.lo < 2 ^ f.lo := Nat.mod_lt _ (Nat.two_pow_pos _)
  obtain ⟨k, hk⟩ := Nat.exists_eq_add_of_le hf
  have hA : w.toNat / 2 ^ (f.lo + f.width) < 2 ^ k := by
    rw [Nat.div_lt_iff_lt_mul (Nat.two_pow_pos _), ← pow_add, add_comm k, ← hk]; exact hw
  have hvb : v % 2 ^ f.width * 2 ^ f.lo + 2 ^ f.lo ≤ 2 ^ (f.lo + f.width) := by
    rw [pow_add, mul_comm (2 ^ f.lo)]
    calc v % 2 ^ f.width * 2 ^ f.lo + 2 ^ f.lo = (v % 2 ^ f.width + 1) * 2 ^ f.lo := by ring
      _ ≤ 2 ^ f.width * 2 ^ f.lo := Nat.mul_le_mul_right _ hv
  have hAb : w.toNat / 2 ^ (f.lo + f.width) * 2 ^ (f.lo + f.width) + 2 ^ (f.lo + f.width) ≤ 2 ^ 32 := by
    have e : (2 : Nat) ^ 32 = 2 ^ k * 2 ^ (f.lo + f.width) := by rw [← pow_add, add_comm k, ← hk]
    rw [e]
    calc _ = (w.toNat / 2 ^ (f.lo + f.width) + 1) * 2 ^ (f.lo + f.width) := by ring
      _ ≤ _ := Nat.mul_le_mul_right _ hA
  omega

/-- A field just written reads as the value, cut to its width. -/
theorem Fld.get_put_self (f : Fld) (w : Word) (v : Nat) (hf : f.lo + f.width ≤ 32) : f.get (f.put w v) = v % 2 ^ f.width := by
  have hB : w.toNat % 2 ^ f.lo < 2 ^ f.lo := Nat.mod_lt _ (Nat.two_pow_pos _)
  conv_lhs => unfold Fld.get
  rw [Fld.put_toNat f w v hf, f.rest]
  have : w.toNat / 2 ^ (f.lo + f.width) * 2 ^ (f.lo + f.width) + w.toNat % 2 ^ f.lo + v % 2 ^ f.width * 2 ^ f.lo
      = w.toNat % 2 ^ f.lo + 2 ^ f.lo * (v % 2 ^ f.width + 2 ^ f.width * (w.toNat / 2 ^ (f.lo + f.width))) := by
    rw [pow_add]; ring
  rw [this, Nat.add_mul_div_left _ _ (Nat.two_pow_pos _), Nat.div_eq_of_lt hB, Nat.zero_add, Nat.add_mul_mod_self_left,
    Nat.mod_mod]

/-- Bit `k` of a word with a field replaced. -/
theorem Fld.put_testBit (f : Fld) (w : Word) (v k : Nat) (hf : f.lo + f.width ≤ 32) (hk : k < f.lo ∨ f.lo + f.width ≤ k) :
    (f.put w v).toNat.testBit k = w.toNat.testBit k := by
  have hB : w.toNat % 2 ^ f.lo < 2 ^ f.lo := Nat.mod_lt _ (Nat.two_pow_pos _)
  have hv : v % 2 ^ f.width < 2 ^ f.width := Nat.mod_lt _ (Nat.two_pow_pos _)
  have key : ∀ g : Nat, g < 2 ^ f.width →
      (w.toNat / 2 ^ (f.lo + f.width) * 2 ^ (f.lo + f.width) + w.toNat % 2 ^ f.lo + g * 2 ^ f.lo).testBit k =
      if k < f.lo then (w.toNat % 2 ^ f.lo).testBit k else (w.toNat / 2 ^ (f.lo + f.width)).testBit (k - (f.lo + f.width)) := by
    intro g hg
    have e : w.toNat / 2 ^ (f.lo + f.width) * 2 ^ (f.lo + f.width) + w.toNat % 2 ^ f.lo + g * 2 ^ f.lo
        = 2 ^ f.lo * (2 ^ f.width * (w.toNat / 2 ^ (f.lo + f.width)) + g) + w.toNat % 2 ^ f.lo := by rw [pow_add]; ring
    rw [e, Nat.testBit_two_pow_mul_add _ hB]
    split_ifs with h
    · rfl
    · rw [Nat.testBit_two_pow_mul_add _ hg, if_neg (by omega)]; congr 1; omega
  rw [Fld.put_toNat f w v hf, f.rest, key _ hv]
  have e0 := nat_split w.toNat f.lo f.width
  have e1 : w.toNat = w.toNat / 2 ^ (f.lo + f.width) * 2 ^ (f.lo + f.width) + w.toNat % 2 ^ f.lo + f.get w * 2 ^ f.lo := by
    simp only [Fld.get]; omega
  have e2 := congrArg (fun n => Nat.testBit n k) e1
  simp only [key _ (f.get_lt w)] at e2
  exact e2.symm

/-- A field of the same register that shares no bit keeps its value. -/
theorem Fld.get_put_disjoint (f g : Fld) (w : Word) (v : Nat) (hf : f.lo + f.width ≤ 32)
    (hd : f.lo + f.width ≤ g.lo ∨ g.lo + g.width ≤ f.lo) : g.get (f.put w v) = g.get w := by
  unfold Fld.get
  apply Nat.eq_of_testBit_eq
  intro k
  simp only [Nat.testBit_mod_two_pow, Nat.testBit_div_two_pow]
  by_cases hk : k < g.width
  · rw [f.put_testBit w v _ hf (by omega)]
  · simp [hk]

namespace Hub

@[simp] theorem reg_setReg_self (h : Hub) (a : Nat) (v : Word) : (h.setReg a v).reg a = v := SMap.get_set_self ..

theorem reg_setReg_ne (h : Hub) {a b : Nat} (v : Word) (hb : b ≠ a) : (h.setReg a v).reg b = h.reg b := SMap.get_set_ne _ _ _ hb

theorem reg_setReg (h : Hub) (a b : Nat) (v : Word) : (h.setReg a v).reg b = if b = a then v else h.reg b := SMap.get_set ..

@[simp] theorem reg_put_self (h : Hub) (f : Fld) (v : Nat) : (h.put f v).reg f.addr = f.put (h.reg f.addr) v := reg_setReg_self ..

/-- A write of a field leaves every other register alone. -/
theorem reg_put_ne (h : Hub) (f : Fld) (v : Nat) {b : Nat} (hb : b ≠ f.addr) : (h.put f v).reg b = h.reg b := reg_setReg_ne _ _ hb

/-- A field just written reads as the value, cut to its width. -/
theorem fld_put_self (h : Hub) (f : Fld) (v : Nat) (hf : f.lo + f.width ≤ 32) : (h.put f v).fld f = v % 2 ^ f.width := by
  simp [fld, f.get_put_self _ _ hf]

theorem fld_put_ne (h : Hub) (f g : Fld) (v : Nat) (hg : g.addr ≠ f.addr) : (h.put f v).fld g = h.fld g := by
  simp [fld, reg_put_ne _ _ _ hg]

/-- A write of a field leaves every other field alone: of another register, or of other bits. -/
theorem fld_put_disjoint (h : Hub) (f g : Fld) (v : Nat) (hf : f.lo + f.width ≤ 32)
    (hd : g.addr ≠ f.addr ∨ f.lo + f.width ≤ g.lo ∨ g.lo + g.width ≤ f.lo) : (h.put f v).fld g = h.fld g := by
  rcases eq_or_ne g.addr f.addr with e | e
  · simp only [fld, e, reg_put_self]
    exact f.get_put_disjoint g _ _ hf (hd.resolve_left fun n => n e)
  · exact h.fld_put_ne f g v e

theorem fld_lt (h : Hub) (f : Fld) : h.fld f < 2 ^ f.width := f.get_lt _

/-- Hubs with the same registers read the same. -/
theorem reg_congr {h k : Hub} (e : h.regs = k.regs) (a : Nat) : h.reg a = k.reg a := by simp [reg, e]

theorem fld_congr {h k : Hub} (e : h.regs = k.regs) (f : Fld) : h.fld f = k.fld f := by simp [fld, reg_congr e]

theorem flag_congr {h k : Hub} (e : h.regs = k.regs) (f : Fld) : h.flag f = k.flag f := by simp [flag, fld_congr e]

theorem sfld_congr {h k : Hub} (e : h.regs = k.regs) (f : Fld) : h.sfld f = k.sfld f := by simp [sfld, fld_congr e]

@[simp] theorem reg_tally (h : Hub) (i n : Nat) (a' : Nat) : (h.tally i n).reg a' = h.reg a' := reg_congr (by simp) _
@[simp] theorem fld_tally (h : Hub) (i n : Nat) (f' : Fld) : (h.tally i n).fld f' = h.fld f' := fld_congr (by simp) _
@[simp] theorem flag_tally (h : Hub) (i n : Nat) (f' : Fld) : (h.tally i n).flag f' = h.flag f' := flag_congr (by simp) _
@[simp] theorem sfld_tally (h : Hub) (i n : Nat) (f' : Fld) : (h.tally i n).sfld f' = h.sfld f' := sfld_congr (by simp) _

@[simp] theorem reg_tick (h : Hub) (a' : Nat) : (h.tick).reg a' = h.reg a' := reg_congr (by simp) _
@[simp] theorem fld_tick (h : Hub) (f' : Fld) : (h.tick).fld f' = h.fld f' := fld_congr (by simp) _
@[simp] theorem flag_tick (h : Hub) (f' : Fld) : (h.tick).flag f' = h.flag f' := flag_congr (by simp) _
@[simp] theorem sfld_tick (h : Hub) (f' : Fld) : (h.tick).sfld f' = h.sfld f' := sfld_congr (by simp) _

@[simp] theorem reg_passTime (h : Hub) (a' : Nat) : (h.passTime).reg a' = h.reg a' := reg_congr (by simp) _
@[simp] theorem fld_passTime (h : Hub) (f' : Fld) : (h.passTime).fld f' = h.fld f' := fld_congr (by simp) _
@[simp] theorem flag_passTime (h : Hub) (f' : Fld) : (h.passTime).flag f' = h.flag f' := flag_congr (by simp) _
@[simp] theorem sfld_passTime (h : Hub) (f' : Fld) : (h.passTime).sfld f' = h.sfld f' := sfld_congr (by simp) _

@[simp] theorem reg_wrapTime (h : Hub) (a' : Nat) : (h.wrapTime).reg a' = h.reg a' := reg_congr (by simp) _
@[simp] theorem fld_wrapTime (h : Hub) (f' : Fld) : (h.wrapTime).fld f' = h.fld f' := fld_congr (by simp) _
@[simp] theorem flag_wrapTime (h : Hub) (f' : Fld) : (h.wrapTime).flag f' = h.flag f' := flag_congr (by simp) _
@[simp] theorem sfld_wrapTime (h : Hub) (f' : Fld) : (h.wrapTime).sfld f' = h.sfld f' := sfld_congr (by simp) _

@[simp] theorem reg_setEntry (h : Hub) (i : Nat) (e : TtEntry) (a' : Nat) : (h.setEntry i e).reg a' = h.reg a' := reg_congr (by simp) _
@[simp] theorem fld_setEntry (h : Hub) (i : Nat) (e : TtEntry) (f' : Fld) : (h.setEntry i e).fld f' = h.fld f' := fld_congr (by simp) _
@[simp] theorem flag_setEntry (h : Hub) (i : Nat) (e : TtEntry) (f' : Fld) : (h.setEntry i e).flag f' = h.flag f' := flag_congr (by simp) _
@[simp] theorem sfld_setEntry (h : Hub) (i : Nat) (e : TtEntry) (f' : Fld) : (h.setEntry i e).sfld f' = h.sfld f' := sfld_congr (by simp) _

@[simp] theorem reg_scheduleCode (h : Hub) (code arg : Nat) (a : Int) (a' : Nat) : (h.scheduleCode code arg a).reg a' = h.reg a' := reg_congr (by simp) _
@[simp] theorem fld_scheduleCode (h : Hub) (code arg : Nat) (a : Int) (f' : Fld) : (h.scheduleCode code arg a).fld f' = h.fld f' := fld_congr (by simp) _
@[simp] theorem flag_scheduleCode (h : Hub) (code arg : Nat) (a : Int) (f' : Fld) : (h.scheduleCode code arg a).flag f' = h.flag f' := flag_congr (by simp) _
@[simp] theorem sfld_scheduleCode (h : Hub) (code arg : Nat) (a : Int) (f' : Fld) : (h.scheduleCode code arg a).sfld f' = h.sfld f' := sfld_congr (by simp) _

@[simp] theorem reg_raiseAt (h : Hub) (m : MT) (src cause : Nat) (detail : List Nat) (a' : Nat) : (h.raiseAt m src cause detail).reg a' = h.reg a' := reg_congr (by simp) _
@[simp] theorem fld_raiseAt (h : Hub) (m : MT) (src cause : Nat) (detail : List Nat) (f' : Fld) : (h.raiseAt m src cause detail).fld f' = h.fld f' := fld_congr (by simp) _
@[simp] theorem flag_raiseAt (h : Hub) (m : MT) (src cause : Nat) (detail : List Nat) (f' : Fld) : (h.raiseAt m src cause detail).flag f' = h.flag f' := flag_congr (by simp) _
@[simp] theorem sfld_raiseAt (h : Hub) (m : MT) (src cause : Nat) (detail : List Nat) (f' : Fld) : (h.raiseAt m src cause detail).sfld f' = h.sfld f' := sfld_congr (by simp) _

@[simp] theorem reg_raise (h : Hub) (src cause : Nat) (detail : List Nat) (a' : Nat) : (h.raise src cause detail).reg a' = h.reg a' := reg_congr (by simp) _
@[simp] theorem fld_raise (h : Hub) (src cause : Nat) (detail : List Nat) (f' : Fld) : (h.raise src cause detail).fld f' = h.fld f' := fld_congr (by simp) _
@[simp] theorem flag_raise (h : Hub) (src cause : Nat) (detail : List Nat) (f' : Fld) : (h.raise src cause detail).flag f' = h.flag f' := flag_congr (by simp) _
@[simp] theorem sfld_raise (h : Hub) (src cause : Nat) (detail : List Nat) (f' : Fld) : (h.raise src cause detail).sfld f' = h.sfld f' := sfld_congr (by simp) _

end Hub

end Sys2Proof.Machine
end

