-- ==== Sys2Proof/Laws/Run.lean ====
section
/-!
SUPPORT. What a command answers on a hub that is awake, what an event does, and how frames compose.
-/

namespace Sys2Proof.Machine

namespace Hub

theorem enqueueRecord_total (src : Nat) (r : List Word) (ev : Events) : (enqueueRecord src r ev).total = ev.total := by
  unfold enqueueRecord; split_ifs <;> rfl

/-- A route to the Timetable adds actions, and nothing else. -/
theorem routeTt_tt (h : Hub) (src : Nat) : { (h.routeTt src).tt with actions := [] } = { h.tt with actions := [] } := by
  unfold routeTt scheduleCode; split_ifs <;> rfl

/-- An awake hub is not dark. -/
theorem awake.dark {h : Hub} (ha : h.awake) : h.dark = false := by
  obtain ⟨h1, h2, h3, h4⟩ := ha
  simp [Hub.dark, h1, h2, h3, h4]

@[simp] theorem awake_passTime (h : Hub) : h.passTime.awake = h.awake := by simp [awake]

theorem occurrences_congr {h k : Hub} (e : h.evt = k.evt) (src : Nat) : h.occurrences src = k.occurrences src := by
  simp [occurrences, e]

theorem takeEvent_total (h : Hub) (m : MT) (src cause : Nat) (d : List Nat) :
    (h.takeEvent m src cause d).total = SMap.set (fun _ => 0) h.evt.total src
      (satAdd (2 ^ 24 - 1) (SMap.get (fun _ => 0) h.evt.total src) 1) := by
  unfold takeEvent; dsimp only; split_ifs <;> simp [enqueueRecord_total]

/-- Raising an event counts it, queues its record and sets the firmware's entry as its routes say. -/
@[simp] theorem raiseAt_evt (h : Hub) (m : MT) (src cause : Nat) (d : List Nat) :
    (h.raiseAt m src cause d).evt = h.takeEvent m src cause d := by
  simp [raiseAt]

@[simp] theorem raise_evt (h : Hub) (src cause : Nat) (d : List Nat) :
    (h.raise src cause d).evt = h.takeEvent h.mtNow src cause d := raiseAt_evt ..

/-- An event is counted once, and no other event's count changes. -/
theorem occurrences_raiseAt (h : Hub) (m : MT) (src cause : Nat) (d : List Nat) (n : Nat) :
    (h.raiseAt m src cause d).occurrences n = if n = src then satAdd (2 ^ 24 - 1) (h.occurrences src) 1 else h.occurrences n := by
  simp only [occurrences, raiseAt_evt, takeEvent_total, SMap.get_set]

theorem occurrences_raise (h : Hub) (src cause : Nat) (d : List Nat) (n : Nat) :
    (h.raise src cause d).occurrences n = if n = src then satAdd (2 ^ 24 - 1) (h.occurrences src) 1 else h.occurrences n :=
  occurrences_raiseAt ..

/-- Without a route to the Timetable an event schedules no action. -/
theorem raiseAt_tt (h : Hub) (m : MT) (src cause : Nat) (d : List Nat) (hr : h.flag (EVT_ROUTE_TT src) = false) :
    (h.raiseAt m src cause d).tt = h.tt := by
  have : ∀ k : Hub, k.regs = h.regs → k.flag (EVT_ROUTE_TT src) = false := fun k e => (flag_congr e _).trans hr
  simp [raiseAt, routeTt, this]

theorem raiseAt_tt_eq (h : Hub) (m : MT) (src cause : Nat) (d : List Nat) :
    { (h.raiseAt m src cause d).tt with actions := [] } = { h.tt with actions := [] } := by
  simp only [raiseAt, routeDma_tt, routeTt_tt, tally_tt]

theorem raiseAt_mem_eq (h : Hub) (m : MT) (src cause : Nat) (d : List Nat) :
    { (h.raiseAt m src cause d).mem with paceDue := [] } = { h.mem with paceDue := [] } := by
  simp only [raiseAt, routeDma, routeTt_mem, tally_mem]

/-- An event writes no part but those of events. -/
theorem raiseAt_same (h : Hub) (m : MT) (src cause : Nat) (d : List Nat) (p : Part) (hp : p ∉ eventParts) :
    p.same h (h.raiseAt m src cause d) := by
  cases p <;> first | exact raiseAt_tt_eq .. | exact raiseAt_mem_eq .. | simp_all [Part.same]

theorem raise_same (h : Hub) (src cause : Nat) (d : List Nat) (p : Part) (hp : p ∉ eventParts) : p.same h (h.raise src cause d) :=
  raiseAt_same _ _ _ _ _ _ hp

end Hub

theorem Part.same_refl (p : Part) (h : Hub) : p.same h h := by cases p <;> simp [Part.same]

theorem Part.same_trans {p : Part} {h k l : Hub} (a : p.same h k) (b : p.same k l) : p.same h l := by
  cases p <;> simp_all [Part.same]

/-- Frames compose. -/
theorem Framed.trans {r r' : Nat → Prop} {ps ps' : List Part} {h k l : Hub} (a : Framed r ps h k) (b : Framed r' ps' k l) :
    Framed (fun x => r x ∨ r' x) (ps ++ ps') h l := by
  refine ⟨fun x hx => ?_, fun p hp => ?_⟩
  · exact (b.1 x fun n => hx (.inr n)).trans (a.1 x fun n => hx (.inl n))
  · simp only [List.mem_append, not_or] at hp
    exact Part.same_trans (a.2 p hp.1) (b.2 p hp.2)

theorem Framed.mono {r r' : Nat → Prop} {ps ps' : List Part} {h k : Hub} (a : Framed r ps h k) (hr : ∀ x, r x → r' x)
    (hp : ps ⊆ ps') : Framed r' ps' h k := ⟨fun x hx => a.1 x fun hm => hx (hr x hm), fun p hx => a.2 p fun hm => hx (hp hm)⟩

theorem framed_refl (h : Hub) : Framed (fun _ => False) [] h h := ⟨fun _ _ => rfl, fun p _ => p.same_refl h⟩

theorem framed_setReg (h : Hub) (a : Nat) (v : Word) : Framed (· = a) [] h (h.setReg a v) :=
  ⟨fun x hx => h.reg_setReg_ne v hx, fun p _ => by cases p <;> simp [Part.same]⟩

theorem framed_put (h : Hub) (f : Fld) (v : Nat) : Framed (· = f.addr) [] h (h.put f v) := framed_setReg ..

theorem framed_sput (h : Hub) (f : Fld) (v : Int) : Framed (· = f.addr) [] h (h.sput f v) := framed_setReg ..

theorem framed_bump (h : Hub) (f : Fld) (n : Nat) : Framed (· = f.addr) [] h (h.bump f n) := framed_setReg ..

theorem framed_bumpMod (h : Hub) (f : Fld) (n : Nat) : Framed (· = f.addr) [] h (h.bumpMod f n) := framed_setReg ..

theorem framed_raiseAt (h : Hub) (m : MT) (src cause : Nat) (d : List Nat) :
    Framed (fun _ => False) eventParts h (h.raiseAt m src cause d) :=
  ⟨fun x _ => by simp, fun p hp => h.raiseAt_same m src cause d p hp⟩

theorem framed_raise (h : Hub) (src cause : Nat) (d : List Nat) : Framed (fun _ => False) eventParts h (h.raise src cause d) :=
  framed_raiseAt ..

theorem framed_passTime (h : Hub) : Framed (fun _ => False) [] h h.passTime :=
  ⟨fun x _ => by simp, fun p _ => by cases p <;> simp [Part.same]⟩

theorem framed_wrapTime (h : Hub) : Framed (fun _ => False) [] h h.wrapTime :=
  ⟨fun x _ => by simp, fun p _ => by cases p <;> simp [Part.same]⟩

theorem framed_tally (h : Hub) (i n : Nat) : Framed (fun _ => False) [.pmc] h (h.tally i n) :=
  ⟨fun x _ => by simp, fun p hp => by cases p <;> simp_all [Part.same]⟩

/-- What a command does on an awake hub. -/
theorem completes_onHub {c : Instr} {s : State} {f : Hub → Hub} {p : Hub → Prop} (e : exec c s = s.onHub f) (ha : s.hub.awake)
    (hp : p (f s.hub.passTime).wrapTime) : Completes c s p := by
  refine ⟨_, (e.trans (State.onHub_lit f s ?_)), rfl, hp⟩
  exact Hub.awake.dark (by simpa using ha)

/-- What a command of the always-on domain does. -/
theorem completes_onAon {c : Instr} {s : State} {f : Hub → Hub} {p : Hub → Prop} (e : exec c s = s.onAon f)
    (hp : p (f s.hub.passTime).wrapTime) : Completes c s p := ⟨_, e, rfl, hp⟩

end Sys2Proof.Machine
end

