-- ==== Sys2Proof/Machine/Pins.lean ====
section
/-!
DEFINITION. The balls (R401, R462-R464): where they lie, and what each group of outputs and input terminations is in, as a
function of the hub. TRIP, LASER_DIS_N, TSEL, LAUNCH, DTS_STRB and the fibre terminations are beside the units that drive them
(`tripPin`, `laserDrive`, `tsel`, `strobePin`, `terminated`).
-/

namespace Sys2Proof.Machine

/-! ### The ball map (R462-R464) -/

/-- The letters of the rows: one set alone, one after A, and the first seven of B (R462). -/
def rowLetters : List Char := "ABCDEFGHJKLMNPTUVWY".toList

/-- The name of row `r`, counted from 0 at A. -/
def rowName (r : Nat) : String :=
  if r < 19 then String.ofList [rowLetters.getD r 'A']
  else if r < 38 then String.ofList ['A', rowLetters.getD (r - 19) 'A']
  else String.ofList ['B', rowLetters.getD (r - 38) 'A']

/-- Row counted from 0, and column counted from 1. -/
structure Ball where
  row : Nat
  col : Nat
  deriving DecidableEq, Repr

def Ball.name (b : Ball) : String := rowName b.row ++ toString b.col

/-- The first row of a band of groups (R463). -/
def bandRow (b : Nat) : Nat := [0, 6, 33, 39].getD b 0

/-- The position of group `g`'s block at a row and column offset (R463). -/
def blockBall (g row col : Nat) : Ball := { row := bandRow (g / 8) + row, col := 3 + 5 * (g % 8) + col }

def ainBall (c : Nat) : Ball := blockBall (c / 16) (c % 16 / 4) (c % 4)
def arefBall (g : Nat) : Ball := blockBall g 4 0
def exsBall (g : Nat) (neg : Bool) : Ball := blockBall g 4 (if neg then 3 else 2)
def excBall (g : Nat) : Ball := blockBall g 5 0
def rrefBall (g : Nat) (neg : Bool) : Ball := blockBall g 5 (if neg then 3 else 2)

/-- The signals outside the analogue bands (R464). -/
inductive Signal where
  | bclk | rev | mmsg | refclk
  | trigIn (i : Fin 16) | trip (n : Fin 16) | launch (n : Fin 4) | dtsStrb | tsel (k : Fin 8)
  | laserDis | modPresent | modReady | modAlarm | fin (k : Fin 4) | rin (m : Fin 2)
  | wlTx (k : Fin 5) | wlTxClk | wlRx (j : Fin 2) | wlRxClk | twlTx | twlTxClk | twlRx | twlRxClk
  | ethTx | ethRx | aliveOut | aliveIn | unitSel | nvmSck | nvmCs | nvmIo (k : Fin 4)
  | tck | tms | tdi | tdo | trst | reset | wake
  deriving DecidableEq, Repr

/-- The ball of a signal, the P ball of a differential pair: its row by name, and its column (R464). -/
def Signal.place : Signal → String × Nat
  | .bclk => ("N", 1) | .rev => ("N", 4) | .mmsg => ("N", 7) | .refclk => ("N", 10)
  | .trigIn i => ("P", 2 * i.val + 1)
  | .trip n => if n.val < 8 then ("T", 3 * n.val + 1) else ("U", 3 * (n.val - 8) + 1)
  | .launch n => ("V", 3 * n.val + 1) | .dtsStrb => ("V", 13) | .tsel k => ("V", 16 + k.val)
  | .laserDis => ("V", 25) | .modPresent => ("V", 26) | .modReady => ("V", 27) | .modAlarm => ("V", 28)
  | .fin k => ("AA", 5 * k.val + 2) | .rin m => ("AA", 5 * m.val + 22)
  | .wlTx k => ("AE", 3 * k.val + 31) | .wlTxClk => ("AG", 31) | .wlRx j => ("AG", 3 * j.val + 34) | .wlRxClk => ("AG", 40)
  | .twlTx => ("AJ", 31) | .twlTxClk => ("AJ", 34) | .twlRx => ("AJ", 37) | .twlRxClk => ("AJ", 40)
  | .ethTx => ("AL", 31) | .ethRx => ("AL", 34) | .aliveOut => ("AL", 37) | .aliveIn => ("AL", 38) | .unitSel => ("AL", 40)
  | .nvmSck => ("AN", 31) | .nvmCs => ("AN", 32) | .nvmIo k => ("AN", 33 + k.val)
  | .tck => ("AN", 38) | .tms => ("AN", 39) | .tdi => ("AN", 40) | .tdo => ("AN", 41) | .trst => ("AN", 42)
  | .reset => ("AN", 44) | .wake => ("AN", 45)

/-- The N ball of a differential pair lies one column further. -/
def Signal.differential : Signal → Bool
  | .bclk | .rev | .mmsg | .refclk | .trip _ | .launch _ | .dtsStrb | .fin _ | .rin _ | .wlTx _ | .wlTxClk | .wlRx _ | .wlRxClk
  | .twlTx | .twlTxClk | .twlRx | .twlRxClk | .ethTx | .ethRx => true
  | _ => false

namespace Hub

/-- The hub is neither in reset nor unpowered, but in a step of boot, armed or halted. -/
def powered (h : Hub) : Bool := !h.dark && decide (1 ≤ h.bootStep) && decide (h.bootStep ≤ 7)

/-- The hub is armed. -/
def runsArmed (h : Hub) : Bool := h.powered && h.bootStep == 6

/-- From 1 ms after D a hub that takes over drives EXC and has its input switches closed (R433). -/
def takingInputs (h : Hub) : Bool :=
  h.fld TWN_STAT_ROLE == 3 && match h.twn.takeover with
    | some (_, lt, _, _) => decide (lt + 1000000 ≤ h.lt)
    | none => false

/-- EXC[g]: the level it regulates to in mV, none while it is high impedance (R76, R99, R401). -/
def excPin (h : Hub) (g : Nat) : Option Nat :=
  if h.runsArmed && (h.holdsActive || h.takingInputs) && h.afePowered g && h.flag (AFE_EXC_CFG_EN g) then
    some (if h.flag (AFE_EXC_CFG_LEVEL g) then 1250 else 2500)
  else none

/-- AIN[c] is connected to its cell; otherwise it is high impedance (R99, R401). A pair uses both its balls. While a planned swap
prepares, V, BR and RES cells listen and CA cells are shorted (R440). -/
def ainConnected (h : Hub) (c : Nat) : Bool :=
  let m := h.mode (h.pairOf c)
  h.runsArmed && h.afePowered (c / 16) && m != 0
    && (h.holdsActive || h.takingInputs || (h.fld TWN_STAT_ROLE == 5 && m != 2))

/-- ALIVE_OUT toggles at 1 MHz while the hub is armed, and is static low otherwise (R401). -/
def aliveToggles (h : Hub) : Bool := h.aliveOut.isSome

/-- The transmit lane and the clock of the twin link run (R401). -/
def twinLinkRuns (h : Hub) : Bool := h.runsArmed

/-- WL_TXCLK runs in every state of the link but OFF (R278, R300). -/
def txClockRuns (h : Hub) : Bool := h.powered && h.linkState != 0

/-- WL_TX[k] is in electrical idle (R300, R401). -/
def txIdle (h : Hub) (k : Nat) : Bool := !h.txClockRuns || h.flag (WL_LANE_STAT_IDLE k)

/-- ETH_TX is up, from the end of step 3 on (R399, R401). -/
def ethDriven (h : Hub) : Bool := h.powered && decide (4 ≤ h.bootStep)

/-- The hub drives NVM_SCK, NVM_IO and NVM_CS_N (R401). -/
def nvmDriven (h : Hub) : Bool := h.powered

/-- EXTEST is in force, so that the balls follow the boundary register instead (R414). -/
def extest (h : Hub) : Bool := h.boot.tap.ir == 0x00

end Hub

end Sys2Proof.Machine
end

