-- ==== Sys2Proof/Tests/Slice0.lean ====
section
/-!
SUPPORT. Tests: what the checks of WellFormed.lean refuse, worked values of the spec, and for each statement a state that meets
its hypotheses.
-/

namespace Sys2Proof.Machine.Tests

theorem test_illFormed0 : ([.revMarker 4096,
    .frameTick 1024,
    .launchTick 1024 ⟨0, []⟩,
    .dtsLaunch 1024 ⟨0, [], [], [], []⟩,
    .quietWindow 1024,
    .triggerArm 1024,
    .triggerDisarm 1024,
    .streamStart 1024,
    .streamStop 1024,
    .userMark 1024,
    .checkpoint 1024,
    .ttCommit .mc 1024,
    .ttLateNow 1024 ⟨0, [], [], [], []⟩,
    .onEventFire 1024,
    .onEventEnable 1024,
    .onEventDisable 1024,
    .onEventArm 1024,
    .onEventDisarm 1024,
    .onEventClearTrips 1024,
    .onEventMark 1024,
    .cellCfgWrite .mc 512 0,
    .qcumZero .mc 32 0,
    .qcumZero .mc 0 65536,
    .excLimit 32 0] : List Instr).all (fun c => !c.wellFormed) = true := by decide +kernel

theorem test_illFormed1 : ([.excLimitEnd 32,
    .excSenseOpen 32 0,
    .senseRestored 32,
    .stringOpen 32 0,
    .rrefBaseline 32 0,
    .comparatorCrossing 512 false false 0,
    .dipPeriodEnd 512 0 0,
    .dipCapture .mc 32 0,
    .dipCapture .mc 0 65536,
    .faultSuspect ⟨512, 0⟩,
    .suspectClear ⟨512, 0⟩,
    .faultClr .mc 32 0,
    .faultClr .mc 0 65536,
    .spareHandover 32,
    .resultWord 512 false 0,
    .mapCommit .mc 16,
    .spareFix .mc 32 false 0,
    .spareFix .mc 0 false 512,
    .engineFail 17 0,
    .engineFail 0 8,
    .seSwap .mc 17,
    .seHandBack .mc 17,
    .bankSel .mc 256 0,
    .bankSel .mc 0 2] : List Instr).all (fun c => !c.wellFormed) = true := by decide +kernel

theorem test_illFormed2 : ([.bankSwitch 256,
    .dtCfg .mc .cfg 512 0,
    .trigIn 16 false,
    .forcedFire 16,
    .trgArm .mc 65536,
    .trgDisarm .mc 65536,
    .patCommit .mc 16,
    .tripped 16 0,
    .tripped 0 2160,
    .tripClr .mc 65536,
    .permit 16,
    .packetClose 128,
    .streamCtlStart .mc 128,
    .streamCtlStop .mc 128,
    .cisFlush .mc 128,
    .flushed 128,
    .siphonBlock 128 false false,
    .histCommit .mc 128,
    .blockLock ⟨2, false⟩,
    .lockLoss 2,
    .trainAck 32 0 false false,
    .trainAck 0 32 false false,
    .downlinkFrame 8192 0 0 [],
    .downlinkFrame 0 4294967296 0 []] : List Instr).all (fun c => !c.wellFormed) = true := by decide +kernel

theorem test_illFormed3 : ([.downlinkFrame 0 0 65536 [],
    .credit 128 0,
    .credit 0 4294967296,
    .ack 4294967296,
    .retx 4294967296,
    .laneStatus 32 0 false,
    .laneStatus 0 32 false,
    .flush 128,
    .read 256 0,
    .read 0 4294967296,
    .write 256 0 0,
    .write 0 4294967296 0,
    .prbsReport 5 0,
    .spareReady 5,
    .downlinkOk 2,
    .electricalIdle 4,
    .dataFrame 4,
    .sync ⟨0, 0, 0, 0, 0, 0, 0⟩ false 0 0 10,
    .delayReq 10,
    .timeCorrespondence 10,
    .command ⟨0, 0, true, 0, 0, 0, 0, true, List.replicate 65 0⟩,
    .rowRepaired 32 0,
    .rowRepaired 0 16384,
    .fillDone 32] : List Instr).all (fun c => !c.wellFormed) = true := by decide +kernel

theorem test_illFormed4 : ([.start .mc 32 none,
    .start .mc 0 (some 2048),
    .abort .mc 32,
    .aborted 32 0,
    .paceIgnore .mc 32,
    .paceAccept .mc 32,
    .pace 32,
    .complete 32,
    .dump .mc 4294967296 1,
    .dump .mc 0 0,
    .dump .mc 0 65537,
    .pendClear .mc 8 0,
    .counterSample 256 0 0,
    .visitDue 512,
    .calVisit .mc 512,
    .measurementEnd 32 (.ref 0),
    .calApplied 32 0,
    .calApplied 0 3,
    .adcStageUpdate 16 0 (List.replicate 8 0),
    .adcStageUpdate 0 16 (List.replicate 8 0),
    .adcStageUpdate 0 0 [],
    .calStale 256 0 false,
    .calStale 0 65536 false,
    .fadcSkewMeasurement 4 0 0] : List Instr).all (fun c => !c.wellFormed) = true := by decide +kernel

theorem test_illFormed5 : ([.fadcSkewMeasurement 0 64 0,
    .fadcSkewMeasurement 0 0 16,
    .iqUpdate 2 0 0,
    .rangeZeroUpdate 1024 0,
    .rangeZeroUpdate 0 256,
    .regAccess false 4294967296 0,
    .heartbeat 7 0 false 0 0 0 0 ⟨0, 0⟩,
    .heartbeat 0 3 false 0 0 0 0 ⟨0, 0⟩,
    .ckptSeg false 0 0 ⟨List.replicate 1025 0, 0⟩,
    .ckptAck 0 ⟨3, 0⟩,
    .handover 65536 ⟨0, 0⟩,
    .feedTest .mc 65536,
    .railFault 6,
    .domCtl .mc 2 0,
    .quiesce .mc 256 false,
    .registerWrite .mc 4294967296 0,
    .feedOvervoltage 2 0 0] : List Instr).all (fun c => !c.wellFormed) = true := by decide +kernel

/-- A hub in TRACK at slot 7 of turn 5, 100 slots to the turn, REV_OFFSET 8. -/
def inTrack : State :=
  let h := (((Hub.reset.put MT_STATE_STATE 2).put MT_CTRL_REV_EN 1).put MT_TURN_CFG_SPT_M1 99).put MT_TURN_CFG_REV_OFFSET 8
  { hub := { h with mt := { h.mt with anchored := true, turn := 5, slot := 7 } } }

/-- The same with a register field changed. -/
def given (s : State) (f : Fld) (v : Nat) : State := { s with hub := s.hub.put f v }

theorem test_mtMarkerJudged_on : inTrack.hub.awake ∧ inTrack.hub.noneWaits ∧ inTrack.hub.mt.turnWords = [] ∧
    inTrack.hub.fld MT_STATE_STATE = 2 ∧ inTrack.hub.flag MT_CTRL_REV_EN = true ∧ inTrack.hub.mt.slot + 1 < inTrack.hub.spt ∧
    inTrack.hub.marksAt (inTrack.hub.mt.clock + 1) = true ∧ inTrack.hub.revOffset = inTrack.hub.mt.slot + 1 := by decide
theorem test_mtMarkerJudged_off : let s := given inTrack MT_TURN_CFG_REV_OFFSET 20
    s.hub.awake ∧ s.hub.noneWaits ∧ s.hub.fld MT_STATE_STATE = 2 ∧ s.hub.flag MT_CTRL_REV_EN = true ∧
    s.hub.mt.slot + 1 < s.hub.spt ∧ s.hub.revOffset ≠ s.hub.mt.slot + 1 := by decide
theorem test_mtFlywheelWraps : let s := given inTrack MT_TURN_CFG_SPT_M1 7
    s.hub.awake ∧ s.hub.noneWaits ∧ s.hub.fld MT_STATE_STATE = 2 ∧ s.hub.flag MT_CTRL_REV_EN = true ∧
    s.hub.mt.slot + 1 = s.hub.spt := by decide
theorem test_mtReanchors : let s := given inTrack MT_STATE_STATE 3
    s.hub.awake ∧ s.hub.noneWaits ∧ s.hub.fld MT_STATE_STATE = 3 ∧ s.hub.flag MT_CTRL_REV_EN = true ∧
    s.hub.mt.slot + 1 < s.hub.spt ∧ s.hub.revOffset < s.hub.spt := by decide
theorem test_mmsgWordsTaken : let s := given inTrack MT_CTRL_MMSG_EN 1
    s.hub.awake ∧ (s.hub.runSlots 0).decoding = true ∧ (s.hub.runSlots 0).findsWord 32 = true ∧ (s.hub.runSlots 0).findsWord 64 = true ∧
    s.hub.mt.anchored = true ∧ s.hub.mt.adoptUntil = none := by decide

/-- Timetable entry 800 with these fields, one-shot and enabled, due now. -/
def withEntry (s : State) (i ty arg : Nat) : State :=
  { s with hub := s.hub.setEntry i { raw := BitVec.ofNat 128 (ty * 2 ^ 124 + 2 ^ 122 + arg), base := s.hub.now } }

/-- ON_EVENT entry 801 with an action and a target, its action due now. -/
def withAction (s : State) (k target : Nat) : State :=
  let s := withEntry s 801 11 (2 * 2 ^ 24 + k * 2 ^ 20 + target)
  { s with hub := { s.hub with tt := { s.hub.tt with actions := [{ entry := 801, code := 2, arg := 0, due := s.hub.now }] } } }

/-- Input 3 of group 0 in mode `m`, its group powered, ADC 0 in service, the hub armed. -/
def acquiring (m : Nat) : State :=
  let s := given (given (given inTrack (AFE_CELL_CFG_MODE 3) m) PWR_DOM_STAT_AFE 1) (CNV_ADC_STAT_IN_SERVICE 0) 1
  given s DEV_STATE_STEP 6

/-- The worked map of R115: the staged words are a permutation of the local inputs. -/
theorem test_mapExample : Hub.isPerm (Hub.mapLocals [0x13121110, 0x01000514, 0x06040302, 0x0A090807, 0x0E0D0C0B, 0x1716150F, 0x1B1A1918,
    0x1F1E1D1C]) = true := by decide

/-- A hub in TRACK with a frame waiting to be evaluated in which trigger 2, armed, matches. -/
def evaluating : State :=
  let w : Window := { tick := -100, frame := 3, armed := 4, trigIn := 1, pats := [(2, (2 ^ 576, 2 ^ 576))] }
  { hub := { inTrack.hub with trg := { closedWin := [w] } } }

/-- An armed hub, output 3 enabled with flag 2112 (TRIG_IN ball 0) as its one input. -/
def tripping (level : Nat) : State :=
  let s := given (given (given (given inTrack DEV_STATE_STEP 6) (TRG_TRIP_CFG_EN 3) 1) (TRG_TRIP_CFG_K 3) 1) (TRG_TRIP_SEL_EN 3 0) 1
  given (given (given s (TRG_TRIP_SEL_FLAG 3 0) 2112) TRG_TRIG_IN_LEVEL level) (TRG_TRIP_STAT_DRIVEN 3) 1

/-- A hub in TRACK, stream 5 with a ring of 16 KiB, a packet of three containers open. -/
def filling (ratio : Nat) (cs : List Cont) : State :=
  let s := given (given (given inTrack (CIS_RING_SIZE_SIZE 5) 4) DEV_STATE_STEP 6) (CIS_STREAM_CFG_RATIO 5) ratio
  let s := given (given s (SIP_UNIT_STAT_IN_SERVICE 0) 1) (SIP_UNIT_STAT_IN_SERVICE 1) 1
  { hub := s.hub.setRing 5 { open? := some { conts := cs, ratio := ratio } } }

/-- An armed hub in TRACK, its link in a state with its downlink, lanes 0 to 3 mapped and 4 the locked spare. -/
def linked (st : Nat) : State :=
  let s := given (given (given inTrack DEV_STATE_STEP 6) WL_STAT_STATE st) WL_STAT_DOWNLINK_OK 1
  { hub := (s.hub.setReg WL_LANE_MAP (BitVec.ofNat 32 (4 * 4096 + 3 * 512 + 2 * 64 + 8))).put (WL_LANE_STAT_LOCK 4) 1 }

/-- The linked hub with stream 5 of a class, one closed packet in its ring. -/
def carrying (cls : Nat) : State :=
  let s := given (given (linked 4) (CIS_RING_SIZE_SIZE 5) 4) (CIS_STREAM_CFG_CLASS 5) cls
  { hub := (({ s.hub with wl := { grant := [(5, 100)] } } : Hub).setRing 5 { packets := [{ stream := 5, body := [1, 2, 3, 4] }] }) }

/-- An armed hub whose Ethernet port carries PTP, its FT in a state. -/
def timed (st : Nat) : State :=
  given (given (given (given inTrack DEV_STATE_STEP 6) FT_ETH_STAT_LINK 1) FT_CFG_PTP_EN 1) FT_STAT_STATE st

def hdr : PtpHdr := { dest := Hub.ptpForwardable, clock := 7, port := 1, domain := 0, sdo := 0, seq := 3, logInterval := 0 }

/-- The same with the master of `hdr` selected, a Sync at t1 = 1,000 ps and a request that waits. -/
def exchanging (st : Nat) : State :=
  { hub := { (timed st).hub with ft := { selected := some (7, 1), sync := some (1000, 0, 10), request := some (3, 20, 20) } } }

/-- An armed hub whose memories are powered, channel 5 enabled with the owned descriptor 7 as its head: one line of 256 words from
the captures to the snapshot area (the example of R341). -/
def copying : State :=
  let s := given (given (given inTrack DEV_STATE_STEP 6) (DMA_CH_CFG_EN 5) 1) (DMA_CH_CFG_HEAD 5) 7
  { hub := s.hub.setMemWords (Hub.descAt 7) [0x90000000, 0x41780000, 0x417C0000, 255, 0, 0, 0, 0] }

/-- The same with the channel in a state at its head. -/
def running (st : Nat) : State := given (given copying (DMA_CH_STAT_STATE 5) st) (DMA_CH_STAT_CUR 5) 7

/-- The example of R341: taken during burst 3, so after three bursts, W6 and W7 read 0x2000_0000 and 0x40. -/
theorem test_dmaAborts_example :
    (match exec (.aborted 5 3) (running 3) with
      | .next t => some ((t.hub.desc 7).w6, (t.hub.desc 7).w7, (t.hub.desc 7).own)
      | _ => none) = some (0x20000000, 0x40, false) := by decide +kernel

/-- An armed hub with calibration on, group 0 powered, input 3 in mode V, and a rotation for the group. -/
def calibrating (r : Rotation) : State :=
  let s := given (given (acquiring 1) CAL_CTRL_EN 1) PWR_DOM_STAT_AFE 1
  { hub := s.hub.setRotation 0 r }

/-- A hub in reset with its fuses, and the words of an erased flash. -/
def inReset (f : Fuses) : State := let h : Hub := { Hub.reset with boot := { Hub.reset.boot with fuses := f } }; { hub := h }

/-- An armed hub of a pair, in a role. -/
def pairing (role : Nat) (w : Twin) : State :=
  let s := given (given (acquiring 1) TWN_CFG_EN 1) TWN_STAT_ROLE role
  let h : Hub := { s.hub with twn := w }
  { hub := h }

/-! For each statement, states and operands that meet the hypotheses of its clauses together. -/

/-- Entry `i` with these words. -/
def rawEntry (i raw : Nat) (s : State) : State := { hub := s.hub.setEntry i { raw := BitVec.ofNat 128 raw } }

/-- Entry `i`, of a type, one-shot, enabled and due, which has run. -/
def ranEntry (i ty : Nat) : State :=
  { hub := inTrack.hub.setEntry i { raw := BitVec.ofNat 128 (ty * 2 ^ 124 + 2 ^ 122), base := inTrack.hub.now, ran := true } }

def ringOf (n : Nat) (r : Ring) (s : State) : State := { hub := s.hub.setRing n r }

/-- The action of `withAction`. -/
def actionOf (s : State) : EvAction := { entry := 801, code := 2, arg := 0, due := s.hub.now }

/-- Entry 800 of a type, with instances late or carried over. -/
def late (ty : Nat) (l : List (Nat × Int × Int)) (c : List (Nat × Int)) : State :=
  let s := withEntry inTrack 800 ty 5
  { hub := { s.hub with tt := { s.hub.tt with lateNow := l, carried := c } } }

/-- An armed hub with entry 800 a DTS cycle that is due, module present and ready, laser driven. -/
def launching : State :=
  let s := given (given (given (given (withEntry inTrack 800 3 0) DEV_STATE_STEP 6) FI_CTRL_DTS_EN 1) FI_DTS_CFG_NACC 1) PWR_DOM_STAT_FIA 1
  let s := given (given s FI_STAT_MOD_READY 1) FI_STAT_MOD_PRESENT 1
  { hub := { s.hub with fi := { drive := 2 } } }

def baseOf (b : Nat) : State :=
  let s := given (given (acquiring 1) (AFE_EXC_CFG_EN 0) 1) (AFE_CELL_CFG_MODE 2) 4
  { hub := s.hub.setGroup 0 { baseline := some b } }

/-- Input 3 an INTERLOCK input whose high comparator asks for captures, with or without a window. -/
def urging (w : Option Window) : State :=
  let s := given (given (given (given (acquiring 1) CNV_CTRL_URG_EN 1) (CNV_CH_CFG_ILK 3) 1) (CNV_CH_CFG_URG_SRC 3) 1) CNV_FRAME_PERIOD_SLOTS 40
  { hub := { s.hub with trg := { window := w } } }

def dipstick (s : State) : State := { hub := { s.hub with afe := { s.hub.afe with dipFrames := some 7 } } }

/-- The current slot is a frame tick. -/
def ticked (s : State) : State := { hub := { s.hub with mt := { s.hub.mt with lastEdge := some s.hub.now } } }

def converting (c : Conv) : State := { hub := { (acquiring 1).hub with cnv := { convs := [c] } } }

def engines (e : Engines) : State := { hub := { inTrack.hub with se := e } }

/-- Recipe 4 loaded with two banks of coefficients, its switch to bank 1 due. -/
def twoBanked : State :=
  let r : RecipeState := { recipe := { stages := [{ banks := [[], []] }] }, bankDue := some (1, 0) }
  { hub := { (acquiring 1).hub with se := { recipes := [(4, r)] } } }

/-- A series of entry 800, whose instances are done. -/
def seriesOf (c : Frames) : State :=
  let h : Hub := { inTrack.hub with cnv := c }
  { hub := h.setEntry 800 { done := 1 } }

/-- Three frames sent and not acknowledged. -/
def unacking : State :=
  { hub := { (given (carrying 1) WL_LSN_NEXT 3).hub with wl := { unacked := [(0, 5), (1, 5), (2, 5)] } } }

/-- A command frame from the peer: READ with tag 255 of WL.STAT. -/
def goodFrame : EthFrame :=
  { source := 9, fcsOk := true, magic := 0x4A, version := 1, kind := 0, seq := 1, lengthOk := true,
    words := [BitVec.ofNat 64 (6 * 2 ^ 56 + 255 * 2 ^ 48 + WL_STAT)] }

/-- A Time Correspondence record falls due at turn 5. -/
def recording : State :=
  let s := given (timed 2) (CIS_RING_SIZE_SIZE 0) 4
  { hub := { s.hub with mt := { s.hub.mt with slot := 0 }, ft := { stepDue := true } } }

/-- Channel 5 has a pace that waits, with its paces ignored or not. -/
def paced (ignore : Bool) : State :=
  let s := copying
  let h := s.hub.setChan 5 { ignorePace := ignore }
  { hub := { h with mem := { h.mem with paceDue := [5] } } }

/-- The update window in a state, at an offset. -/
def updating (st off : Nat) (b : Boot) : State :=
  let s := given (given (acquiring 1) BOOT_UPD_STAT_STATE st) BOOT_UPD_OFFSET_OFFSET off
  { hub := { s.hub with boot := b } }

/-- A visit to input 3 is due at the next tick. -/
def owed (r : Rotation) : State :=
  let s := calibrating r
  { hub := { s.hub with cal := { s.hub.cal with visitDue := [3] } } }

/-- A quiet window is open and serves group 0. -/
def inWindow (s : State) : State :=
  { hub := { s.hub with cal := { s.hub.cal with quietFrom := s.hub.now, quietTo := s.hub.now + 100, served := [0] } } }

/-- Every ADC in service. -/
def sound (s : State) : State := (List.range 16).foldl (fun s a => given s (CNV_ADC_STAT_IN_SERVICE a) 1) s

/-- A checkpoint captured, whatever the LT, so late that it is still being sent. -/
def stillSending : State := pairing 4 { sending := some { lt := 2 ^ 64 } }

theorem witness_mtMarkerJudged_1 :
    (let s : State := { hub := { inTrack.hub with mt := { inTrack.hub.mt with revHigh := some inTrack.hub.mt.clock } } }; s.hub.awake
     ∧ s.hub.noneWaits ∧ s.hub.mt.turnWords = [] ∧ s.hub.fld MT_STATE_STATE = 2 ∧ s.hub.flag MT_CTRL_REV_EN = true
     ∧ s.hub.mt.slot + 1 < s.hub.spt ∧ s.hub.marksAt (s.hub.mt.clock + 1) = false) ∧
    (let s := inTrack; s.hub.awake ∧ s.hub.noneWaits ∧ s.hub.mt.turnWords = [] ∧ s.hub.fld MT_STATE_STATE = 2
     ∧ s.hub.flag MT_CTRL_REV_EN = true ∧ s.hub.mt.slot + 1 < s.hub.spt ∧ s.hub.marksAt (s.hub.mt.clock + 1) = true
     ∧ s.hub.revOffset = s.hub.mt.slot + 1) := by decide

theorem witness_mtMarkerJudged_2 :
    (let s := given inTrack MT_TURN_CFG_REV_OFFSET 9; s.hub.awake ∧ s.hub.noneWaits ∧ s.hub.mt.turnWords = []
     ∧ s.hub.fld MT_STATE_STATE = 2 ∧ s.hub.flag MT_CTRL_REV_EN = true ∧ s.hub.mt.slot + 1 < s.hub.spt
     ∧ s.hub.marksAt (s.hub.mt.clock + 1) = true ∧ s.hub.revOffset ≠ s.hub.mt.slot + 1) := by decide

theorem witness_mtFlywheelWraps :
    (let s := given inTrack MT_TURN_CFG_SPT_M1 7; s.hub.awake ∧ s.hub.noneWaits ∧ s.hub.mt.turnWords = [] ∧ s.hub.fld MT_STATE_STATE = 2
     ∧ s.hub.flag MT_CTRL_REV_EN = true ∧ s.hub.mt.slot + 1 = s.hub.spt) := by decide

theorem witness_mtReanchors :
    (let s := given (given inTrack MT_STATE_STATE 3) MT_TURN_CFG_REV_OFFSET 99; s.hub.awake ∧ s.hub.noneWaits ∧ s.hub.mt.turnWords = []
     ∧ s.hub.fld MT_STATE_STATE = 3 ∧ s.hub.flag MT_CTRL_REV_EN = true ∧ s.hub.mt.slot + 1 < s.hub.spt ∧ s.hub.revOffset < s.hub.spt
     ∧ s.hub.marksAt (s.hub.mt.clock + 1) = true) := by decide

theorem witness_mmsgWordsTaken_1 :
    (let s := given inTrack MT_CTRL_MMSG_EN 1; let slots := 0; let w : Word := 0xE44100CE; let h := s.hub.passTime.runSlots slots;
     s.hub.awake ∧ h.decoding = true ∧ bits w.toNat 31 24 = 0xE4 ∧ h.findsWord 32 = true
     ∧ crc4 (bits w.toNat 23 4) = bits w.toNat 3 0) ∧
    (let s := given inTrack MT_CTRL_MMSG_EN 1; let slots := 0; let w : Word := 0xE44100CF; let h := s.hub.passTime.runSlots slots;
     s.hub.awake ∧ h.decoding = true ∧ bits w.toNat 31 24 = 0xE4 ∧ h.findsWord 32 = true
     ∧ crc4 (bits w.toNat 23 4) ≠ bits w.toNat 3 0) ∧
    (let s : State := { hub := { (given inTrack MT_CTRL_MMSG_EN 1).hub with mt := { inTrack.hub.mt with wordFrom := 5 } } };
     let slots := 0; let w : Word := 0xE44100CE; let h := s.hub.passTime.runSlots slots; s.hub.awake ∧ h.decoding = true
     ∧ bits w.toNat 31 24 = 0xE4 ∧ h.findsWord 32 = false) := by decide +kernel

theorem witness_mmsgWordsTaken_2 :
    (let s := given inTrack MT_CTRL_MMSG_EN 1; let slots := 0;
     let w : BitVec 64 := BitVec.ofNat 64 (0x1B * 2 ^ 56 + 6 * 2 ^ 8 + crc8 (0x1B * 2 ^ 48 % 2 ^ 48 + 6));
     let h := s.hub.passTime.runSlots slots; s.hub.awake ∧ h.decoding = true ∧ bits w.toNat 63 56 = 0x1B ∧ h.findsWord 64 = true
     ∧ crc8 (bits w.toNat 55 8) = bits w.toNat 7 0 ∧ h.mt.anchored = true ∧ h.mt.adoptUntil = none) ∧
    (let s := given inTrack MT_CTRL_MMSG_EN 1; let slots := 0;
     let w : BitVec 64 := BitVec.ofNat 64 (0x1B * 2 ^ 56 + 6 * 2 ^ 8 + 1 + crc8 6); let h := s.hub.passTime.runSlots slots;
     s.hub.awake ∧ h.decoding = true ∧ bits w.toNat 63 56 = 0x1B ∧ h.findsWord 64 = true
     ∧ crc8 (bits w.toNat 55 8) ≠ bits w.toNat 7 0
     ∧ ((List.range 57).all fun o => o < 8 || (bits w.toNat (63 - o) (56 - o) != 0x1B && bits w.toNat (63 - o) (56 - o) != 0xE4)) = true) ∧
    (let s : State := { hub := { (given inTrack MT_CTRL_MMSG_EN 1).hub with mt := { inTrack.hub.mt with wordFrom := 5 } } };
     let slots := 0; let w : BitVec 64 := BitVec.ofNat 64 (0x1B * 2 ^ 56); let h := s.hub.passTime.runSlots slots; s.hub.awake
     ∧ h.decoding = true ∧ bits w.toNat 63 56 = 0x1B ∧ h.findsWord 64 = false) := by decide +kernel

theorem witness_bclkLostAndRegained :
    (let s := given (given inTrack DEV_STATE_STEP 6) MT_STATE_STATE 0; s.hub.awake ∧ s.hub.fld MT_STATE_STATE = 0
     ∧ s.hub.fld DEV_STATE_STEP = 6 ∧ s.hub.pwr.woke = false ∧ s.hub.pwr.domDue = []
     ∧ (s.hub.flag MT_CTRL_REV_EN = true ∨ s.hub.flag MT_CTRL_TURN_FROM_MMSG = true)) ∧
    (let s := given inTrack MT_BCLK_NOM_KHZ 40000; let f := 400000; s.hub.awake ∧ s.hub.fld MT_STATE_STATE ≠ 4 ∧ s.hub.bclkGood f = true) ∧
    (let s := given inTrack MT_BCLK_NOM_KHZ 40000; let f := 299999; s.hub.awake ∧ 2 ≤ s.hub.fld MT_STATE_STATE
     ∧ s.hub.fld MT_STATE_STATE ≠ 4 ∧ s.hub.bclkGood f = false) ∧
    (let s := given inTrack MT_STATE_STATE 4; s.hub.awake ∧ s.hub.fld MT_STATE_STATE = 4) := by decide

theorem witness_timetableInstances_1 :
    (let s := withEntry inTrack 800 4 5; let i := 800; s.hub.awake ∧ s.hub.instanceDue 4 i) ∧
    (let s := withEntry inTrack 800 5 5; let i := 800; s.hub.awake ∧ s.hub.instanceDue 5 i) := by decide

theorem witness_timetableInstances_2 :
    (let s := withEntry inTrack 800 6 5; let i := 800; s.hub.awake ∧ s.hub.instanceDue 6 i) ∧
    (let s := withEntry inTrack 800 10 5; let i := 800; s.hub.awake ∧ s.hub.instanceDue 10 i) := by decide

theorem witness_timetableInstances_3 :
    (let s := late 10 [(800, 5, 0)] []; let i := 800; let due : Int := 5; let run : Int := 0; let e := s.hub.entry i; s.hub.awake
     ∧ s.hub.pwr.draining = false ∧ s.hub.slotLoad < 32 ∧ 4 ≤ e.type ∧ e.type ≤ 10 ∧ s.hub.tt.lateNow = [(i, due, run)]
     ∧ run ≤ s.hub.now ∧ s.hub.comesFirst run 2 i = true) ∧
    (let s := late 4 [] [(800, 5)]; let i := 800; let slot : Int := 5; let rest : List (Nat × Int) := []; let e := s.hub.entry i;
     s.hub.awake ∧ s.hub.pwr.draining = false ∧ s.hub.slotLoad < 32 ∧ 4 ≤ e.type ∧ e.type ≤ 10
     ∧ s.hub.tt.carried = (i, slot) :: rest ∧ slot < s.hub.now ∧ s.hub.comesFirst (slot + 1) 1 0 = true) := by decide

theorem witness_timetableStreams_1 :
    (let s := withEntry inTrack 800 7 127; let i := 800; let n := 127; s.hub.awake ∧ n = bits (s.hub.entry i).arg 6 0 ∧ n ≠ 0
     ∧ s.hub.instanceDue 7 i) ∧
    (let s := ringOf 5 { running := true } (withEntry inTrack 800 8 5); let i := 800; let n := 5; s.hub.awake
     ∧ n = bits (s.hub.entry i).arg 6 0 ∧ n ≠ 0 ∧ s.hub.instanceDue 8 i) := by decide

theorem witness_timetableStreams_2 :
    (let s := given (withEntry inTrack 800 9 5) (CIS_RING_SIZE_SIZE 0) 4; let i := 800; let n := 5; s.hub.awake
     ∧ n = bits (s.hub.entry i).arg 6 0 ∧ n ≠ 0 ∧ s.hub.instanceDue 9 i ∧ s.hub.ringSize 0 ≠ 0 ∧ s.hub.roomFor 4) := by decide

theorem witness_onEventActions_1 :
    (let s := withAction (withEntry inTrack 800 10 0) 0 800; let i := 801; let a := actionOf s; s.hub.awake ∧ s.hub.actionDue 0 i a) ∧
    (let s := withAction (rawEntry 800 (10 * 2 ^ 124 + 9 * 2 ^ 80) inTrack) 1 800; let i := 801; let a := actionOf s; s.hub.awake
     ∧ s.hub.actionDue 1 i a) ∧
    (let s := withAction (withEntry inTrack 800 10 0) 2 800; let i := 801; let a := actionOf s; s.hub.awake ∧ s.hub.actionDue 2 i a) := by decide

theorem witness_onEventActions_2 :
    (let s := withAction (withEntry inTrack 800 0 0) 3 800; let i := 801; let a := actionOf s; s.hub.awake ∧ s.hub.actionDue 3 i a) ∧
    (let s := withAction (withEntry inTrack 800 0 0) 4 800; let i := 801; let a := actionOf s; s.hub.awake ∧ s.hub.actionDue 4 i a) ∧
    (let s := withAction (withEntry inTrack 800 0 0) 5 800; let i := 801; let a := actionOf s; s.hub.awake ∧ s.hub.actionDue 5 i a) := by decide

theorem witness_onEventActions_3 :
    (let s := given (withAction inTrack 6 0) (CIS_RING_SIZE_SIZE 0) 4; let i := 801; let a := actionOf s; s.hub.awake
     ∧ s.hub.actionDue 6 i a ∧ s.hub.ringSize 0 ≠ 0 ∧ s.hub.roomFor 4) := by decide

theorem witness_timetableCommits :
    (let s := given inTrack DEV_STATE_STEP 6; let p := Path.mc; let i := 800;
     let result := if i < 768 then 1 else if s.hub.tt.commit.isSome then 5 else s.hub.commitResult i s.hub.stagedEntry; s.hub.awake
     ∧ s.hub.livePath p ∧ i < 1024 ∧ result = 0) ∧
    (let s := given inTrack DEV_STATE_STEP 6; let p := Path.jtag; let i := 767;
     let result := if i < 768 then 1 else if s.hub.tt.commit.isSome then 5 else s.hub.commitResult i s.hub.stagedEntry; s.hub.awake
     ∧ s.hub.livePath p ∧ i < 1024 ∧ result ≠ 0) ∧
    (let raw := BitVec.ofNat 128 (10 * 2 ^ 124 + 2 ^ 122 + 9 * 2 ^ 80);
     let s : State := { hub := { inTrack.hub with tt := { commit := some (800, raw) } } }; let i := 800; s.hub.awake
     ∧ s.hub.tt.commit = some (i, raw) ∧ s.hub.mt.anchored = true ∧ s.hub.trg.armDue = [] ∧ s.hub.cis.ctlDue = []
     ∧ s.hub.mt.slot + 1 < s.hub.spt ∧ s.hub.now + 3 < (s.hub.placedEntry raw).base) := by decide

theorem witness_ticksAndLaunches_1 :
    (let s := given (ranEntry 800 1) DEV_STATE_STEP 6; let i := 800; s.hub.awake ∧ s.hub.instanceDue 1 i ∧ s.hub.framesRun = true
     ∧ s.hub.yieldsTick i (!(s.hub.entry i).ran) = false ∧ s.hub.mt.lastEdge = none) := by decide

theorem witness_ticksAndLaunches_2 :
    (let s0 := given (ranEntry 800 1) DEV_STATE_STEP 6; let t : Int := s0.hub.now - 19;
     let s : State := { hub := { s0.hub with mt := { s0.hub.mt with lastEdge := some t } } }; let i := 800; s.hub.awake
     ∧ s.hub.instanceDue 1 i ∧ s.hub.framesRun = true ∧ s.hub.yieldsTick i (!(s.hub.entry i).ran) = false
     ∧ s.hub.mt.lastEdge = some t ∧ t < s.hub.now ∧ s.hub.now < t + 20 ∧ s.hub.cnv.spill = []) := by decide

theorem witness_ticksAndLaunches_3 :
    (let s := given (withEntry inTrack 800 2 0) DEV_STATE_STEP 6; let i := 800; s.hub.awake ∧ s.hub.instanceDue 2 i
     ∧ s.hub.ticksRun = true) ∧
    (let s := launching; let i := 800; s.hub.awake ∧ s.hub.instanceDue 3 i ∧ s.hub.ticksRun = true) := by decide

theorem witness_inputRegisterWrites :
    (let s := acquiring 1; let p := Path.mc; let c := 511; let v : Word := 1; s.hub.awake ∧ s.hub.livePath p ∧ c < 512
     ∧ s.hub.cellCfgBad c v.toNat = false) ∧
    (let s := acquiring 1; let p := Path.jtag; let c := 3; let v : Word := 7; s.hub.awake ∧ s.hub.livePath p ∧ c < 512
     ∧ s.hub.cellCfgBad c v.toNat = true) ∧
    (let s := acquiring 1; let p := Path.mc; let g := 31; s.hub.awake ∧ s.hub.livePath p ∧ g < 32) := by decide

theorem witness_excitationConditions_1 :
    (let s := given (acquiring 1) (AFE_EXC_CFG_EN 0) 1; let g := 0; s.hub.awake ∧ g < 32 ∧ s.hub.flag (AFE_EXC_CFG_EN g) = true
     ∧ s.hub.afePowered g = true ∧ s.hub.flag (AFE_EXC_STAT_LIMIT g) = false) ∧
    (let s := inTrack; let g := 31; s.hub.awake ∧ g < 32) ∧
    (let s := given (acquiring 1) (AFE_EXC_CFG_EN 0) 1; let g := 0; s.hub.awake ∧ g < 32 ∧ s.hub.flag (AFE_EXC_CFG_EN g) = true
     ∧ s.hub.afePowered g = true ∧ s.hub.flag (AFE_EXC_STAT_SENSE_OPEN g) = false) := by decide

theorem witness_excitationConditions_2 :
    (let s := baseOf 500000; let g := 0; let b := 500000; let v := 24; s.hub.awake ∧ g < 32 ∧ s.hub.flag (AFE_EXC_CFG_EN g) = true
     ∧ s.hub.afePowered g = true ∧ s.hub.hasRes g = true ∧ (s.hub.group g).baseline = some b ∧ 20000 * v < b
     ∧ s.hub.flag (AFE_EXC_STAT_STRING_OPEN g) = false) ∧
    (let s := baseOf 500000; let g := 0; let b := 500000; let v := 25; s.hub.awake ∧ g < 32 ∧ s.hub.flag (AFE_EXC_CFG_EN g) = true
     ∧ s.hub.afePowered g = true ∧ s.hub.hasRes g = true ∧ (s.hub.group g).baseline = some b ∧ b ≤ 20000 * v) ∧
    (let s := acquiring 1; let g := 0; s.hub.awake ∧ g < 32
     ∧ (s.hub.flag (AFE_EXC_CFG_EN g) && s.hub.afePowered g && s.hub.hasRes g && (s.hub.group g).baseline.isSome) = false) := by decide

theorem witness_excitationConditions_3 :
    (let s := given (given (acquiring 1) (AFE_EXC_CFG_EN 0) 1) (AFE_CELL_CFG_MODE 2) 4; let g := 0; s.hub.awake ∧ g < 32
     ∧ s.hub.flag (AFE_EXC_CFG_EN g) = true ∧ s.hub.afePowered g = true ∧ s.hub.hasRes g = true) := by decide

theorem witness_comparatorsAndDipstick_1 :
    (let s := given (acquiring 1) CNV_CTRL_URG_EN 0; let c := 3; s.hub.awake ∧ c < 512 ∧ s.hub.acquires c = true
     ∧ s.hub.afePowered (c / 16) = true ∧ (s.hub.flag CNV_CTRL_URG_EN = false ∨ s.hub.flag (CNV_CH_CFG_ILK c) = false)
     ∧ s.hub.trg.window = none) ∧
    (let s := urging none; let c := 3; s.hub.awake ∧ c < 512 ∧ s.hub.acquires c = true ∧ s.hub.afePowered (c / 16) = true
     ∧ s.hub.adcIn c = true ∧ s.hub.flag CNV_CTRL_URG_EN = true ∧ s.hub.flag (CNV_CH_CFG_ILK c) = true
     ∧ bit (s.hub.fld (CNV_CH_CFG_URG_SRC c)) 0 = true ∧ (s.hub.cell c).rawHi = false ∧ s.hub.flag (AFE_CELL_STAT_FAULT c) = false
     ∧ s.hub.flag (AFE_CELL_STAT_FROZEN c) = false ∧ s.hub.switchedOut c = false
     ∧ (s.hub.cnv.gridNext = none ∨ s.hub.cnv.series = none) ∧ s.hub.trg.window = none) := by decide

theorem witness_comparatorsAndDipstick_2 :
    (let w : Window := { frame := 4, tick := -100 }; let s := urging (some w); let c := 3; let fine := 40960 - 1025; let a := c / 32;
     let u := Hub.captureSlot (Hub.captureTime fine s.hub.bclk) s.hub.bclk; s.hub.awake ∧ c < 512 ∧ s.hub.acquires c = true
     ∧ s.hub.afePowered (c / 16) = true ∧ s.hub.adcIn c = true ∧ s.hub.flag CNV_CTRL_URG_EN = true
     ∧ s.hub.flag (CNV_CH_CFG_ILK c) = true ∧ bit (s.hub.fld (CNV_CH_CFG_URG_SRC c)) 0 = true ∧ (s.hub.cell c).rawHi = false
     ∧ s.hub.flag (AFE_CELL_STAT_FAULT c) = false ∧ s.hub.flag (AFE_CELL_STAT_FROZEN c) = false ∧ s.hub.switchedOut c = false
     ∧ (s.hub.cnv.gridNext = none ∨ s.hub.cnv.series = none) ∧ s.hub.trg.window = some w
     ∧ s.hub.mt.lastEdge.getD w.tick + (fine / 1024 : Nat) ≤ s.hub.now ∧ s.hub.cnv.convs = [] ∧ s.hub.adc a = {}
     ∧ u < s.hub.adcPeriods ∧ u ≠ 32 ∧ u ≠ 33) := by decide +kernel

theorem witness_comparatorsAndDipstick_3 :
    (let s := acquiring 1; let c := 3; let p := 3; s.hub.awake ∧ c < 512 ∧ p = s.hub.pairOf c ∧ s.hub.acquires p = true
     ∧ s.hub.mode p ≠ 2 ∧ s.hub.afePowered (p / 16) = true ∧ (s.hub.cell c).suspect = false) ∧
    (let s := acquiring 1; let c := 511; let p := 511; s.hub.awake ∧ c < 512 ∧ p = s.hub.pairOf c) ∧
    (let s := given (given (dipstick (acquiring 1)) (AFE_CELL_CFG_DIP_EN 3) 1) AFE_DIP_STAT_DIV 7; let c := 3; s.hub.awake ∧ c < 512
     ∧ s.hub.toneRuns c = true ∧ s.hub.fld AFE_DIP_STAT_DIV ≠ 0 ∧ s.hub.fld AFE_DIP_STAT_DIV ≤ s.hub.afe.dipFrames.getD 0
     ∧ (s.hub.cell c).lastPeriod ≠ some (s.hub.afe.dipFrames.getD 0 / s.hub.fld AFE_DIP_STAT_DIV)) := by decide

theorem witness_sparesAndMaps_1 :
    (let s := acquiring 1; let p := Path.mc; let g := 0; let i := 3; let en := true; s.hub.awake ∧ g < 32 ∧ i < 16 ∧ s.hub.livePath p
     ∧ (en = true → s.hub.fixRefused g i = false)) ∧
    (let s := given (given inTrack DEV_STATE_STEP 6) (CNV_SPARE_STAT_STATE 31) 1; let p := Path.jtag; let g := 31; let i := 15;
     s.hub.awake ∧ g < 32 ∧ i < 16 ∧ s.hub.livePath p ∧ s.hub.fixRefused g i = true) ∧
    (let s := acquiring 1; let g := 0; let i := 3; s.hub.awake ∧ g < 32 ∧ i < 16 ∧ s.hub.acquires (16 * g + i) = true
     ∧ s.hub.fld (CNV_SPARE_STAT_STATE g) = 0 ∧ (s.hub.group g).spareFailed = false) := by decide

theorem witness_sparesAndMaps_2 :
    (let s := ticked (given (given (acquiring 2) (CNV_SPARE_STAT_STATE 0) 1) (CNV_SPARE_STAT_INPUT 0) 3); let g := 0; s.hub.awake
     ∧ g < 32 ∧ s.hub.handoverReady g = true ∧ s.hub.fld (CNV_SPARE_STAT_STATE g) = 1) ∧
    (let s := ticked (given (given (given (acquiring 2) (CNV_SPARE_STAT_STATE 0) 3) (CNV_SPARE_STAT_INPUT 0) 3) (AFE_CELL_STAT_SPARE_IN 3) 1);
     let g := 0; let c := 16 * g + s.hub.fld (CNV_SPARE_STAT_INPUT g); s.hub.awake ∧ g < 32 ∧ s.hub.handoverReady g = true
     ∧ s.hub.fld (CNV_SPARE_STAT_STATE g) = 3 ∧ s.hub.spareIn c = true) ∧
    (let s := acquiring 1; let g := 31; s.hub.awake ∧ g < 32 ∧ s.hub.handoverReady g = false) ∧
    (let s := acquiring 1; let p := Path.mc; let g := 31; let a := 15; s.hub.awake ∧ g < 32 ∧ a < 16 ∧ s.hub.livePath p) := by decide

theorem witness_sparesAndMaps_3 :
    (let cv : Conv := { input := 3, mode := 1 }; let s := converting cv; let c := 3; s.hub.awake ∧ c < 512 ∧ s.hub.cnv.convs = [cv]
     ∧ s.hub.cnv.fills = [] ∧ cv.input = c ∧ cv.defer = false ∧ s.hub.adcIn c = true
     ∧ cv.base + ((cv.slot + 11) / 2 : Nat) ≤ s.hub.now ∧ s.hub.loaded = [] ∧ cv.mode ≠ 2) ∧
    (let cv : Conv := { input := 3, mode := 2, urgent := true }; let s := converting cv; let c := 3; s.hub.awake ∧ c < 512
     ∧ s.hub.cnv.convs = [cv] ∧ s.hub.cnv.fills = [] ∧ cv.input = c ∧ cv.defer = false ∧ s.hub.adcIn c = true
     ∧ cv.base + ((cv.slot + 11) / 2 : Nat) ≤ s.hub.now ∧ s.hub.loaded = [] ∧ cv.mode = 2 ∧ cv.urgent = true) := by decide

theorem witness_sparesAndMaps_4 :
    (let cv : Conv := { input := 3, mode := 2 }; let s := converting cv; let c := 3; s.hub.awake ∧ c < 512 ∧ s.hub.cnv.convs = [cv]
     ∧ s.hub.cnv.fills = [] ∧ cv.input = c ∧ cv.defer = false ∧ s.hub.adcIn c = true
     ∧ cv.base + ((cv.slot + 11) / 2 : Nat) ≤ s.hub.now ∧ s.hub.loaded = [] ∧ cv.mode = 2 ∧ cv.urgent = false ∧ cv.zero = false
     ∧ (s.hub.cell c).switch = []) := by decide

theorem witness_engineFailureAndTakeover :
    (let s := inTrack; let e := 15; let cause := 15; s.hub.awake ∧ e < 16 ∧ cause < 16 ∧ s.hub.fld (SE_ENG_STAT_STATE e) ≠ 4) ∧
    (let s := inTrack; let e := 15; let cause := 0; s.hub.awake ∧ e < 16 ∧ cause < 16 ∧ s.hub.fld (SE_ENG_STAT_STATE 16) ≠ 4) ∧
    (let s := engines { takeover := some (3, 0) }; let e := 3; let cause := 0; let t : Int := 0; s.hub.awake ∧ e < 16 ∧ cause < 16
     ∧ s.hub.se.takeover = some (e, t) ∧ s.hub.boundaryFrom t ≤ s.hub.now ∧ e ∉ s.hub.se.shadowDue ∧ s.hub.se.planned = false) := by decide

theorem witness_engineSwaps_1 :
    (let s := given (given (given inTrack DEV_STATE_STEP 6) (SE_ENG_STAT_STATE 16) 2) PWR_DOM_STAT_ENG 0x1FFFF; let p := Path.mc;
     let e := 15; s.hub.awake ∧ e < 16 ∧ s.hub.livePath p ∧ s.hub.spareFree = true ∧ s.hub.se.takeover = none
     ∧ s.hub.fld (SE_ENG_STAT_STATE e) ≠ 4) ∧
    (let s := given (given (given inTrack DEV_STATE_STEP 6) (SE_ENG_STAT_STATE 16) 5) PWR_DOM_STAT_ENG 0x1FFFF; let p := Path.mc;
     let e := 15; s.hub.awake ∧ e < 16 ∧ s.hub.livePath p
     ∧ (s.hub.spareFree = false ∨ s.hub.se.takeover ≠ none ∨ s.hub.fld (SE_ENG_STAT_STATE e) = 4)) ∧
    (let s := given (engines { swap := some (15, false, 0), planned := true }) DEV_STATE_STEP 6; let p := Path.mc; let e := 15;
     s.hub.awake ∧ e < 16 ∧ s.hub.livePath p ∧ s.hub.se.planned = true) := by decide

theorem witness_engineSwaps_2 :
    (let s := given (given (given inTrack DEV_STATE_STEP 6) (SE_ENG_STAT_STATE 16) 2) PWR_DOM_STAT_ENG 0x1FFFF; let p := Path.mc;
     let e := 15; s.hub.awake ∧ e < 16 ∧ s.hub.livePath p ∧ s.hub.se.planned = false) ∧
    (let s := given (engines { swap := some (15, true, 0) }) (SE_ENG_STAT_SERVES 16) 15; let e := 15; let back := true;
     let t : Int := 0; s.hub.awake ∧ e < 16 ∧ s.hub.se.swap = some (e, back, t)
     ∧ (back = true → s.hub.fld (SE_ENG_STAT_SERVES 16) = e) ∧ s.hub.boundaryFrom t ≤ s.hub.now) := by decide

theorem witness_banksAndThresholds :
    (let s := twoBanked; let p := Path.mc; let r := 4; let b := 1; s.hub.awake ∧ s.hub.livePath p ∧ r ∈ s.hub.loaded
     ∧ s.hub.twoBanks r = true ∧ b < 2 ∧ s.hub.fld (SE_BANK_SEL_BANK r) ≠ b) ∧
    (let s := twoBanked; let r := 4; let b := 1; let t : Int := 0; s.hub.awake ∧ b < 2 ∧ (s.hub.recipe r).bankDue = some (b, t)
     ∧ s.hub.boundaryFrom t ≤ s.hub.now) ∧
    (let s := acquiring 1; let p := Path.mc; let c := 511; let v : Word := 0x1FFF; s.hub.awake ∧ c < 512 ∧ s.hub.livePath p
     ∧ bit v.toNat 13 = false) := by decide

theorem witness_laserAndModule :
    (let s := acquiring 1; let p := Path.jtag; s.hub.awake ∧ s.hub.livePath p) ∧
    (let s := given (given inTrack FI_DTS_CFG_NACC 2) FI_DTS_STAT_LAUNCHES 2; s.hub.awake ∧ s.hub.fld FI_DTS_CFG_NACC ≠ 0
     ∧ s.hub.fld FI_DTS_CFG_NACC ≤ s.hub.fld FI_DTS_STAT_LAUNCHES ∧ s.hub.loaded = []) ∧
    (let s := given inTrack (FI_LAUNCH_SEQ_SEQ 0) 2048; s.hub.awake ∧ s.hub.fld (FI_LAUNCH_SEQ_SEQ 0) ≠ 0
     ∧ s.hub.fld (FI_LAUNCH_SEQ_SEQ 0) % 1024 = 0) := by decide

theorem witness_patternMatch :
    (let mask := 2 ^ 607; let b := 607; mask < 2 ^ 608 ∧ b < 608 ∧ bit mask b = true) ∧
    (let h : Hub := { inTrack.hub with trg := { autoCount := [(2, 1)] } };
     let w : Window := { tick := -100, armed := 4, cfg := [(0, 0), (0, 0), (0, 1)], boundary := true }; let v : BitVec 608 := 0;
     let t := 2; let f := (h.firesIn w v t).getD { trg := 2 }; (Hub.windowPattern w t).1 = 0 ∧ h.firesIn w v t = some f) := by decide +kernel

theorem witness_triggersFire :
    (let s := evaluating; let w := s.hub.trg.closedWin.headD {}; let rest : List Window := []; s.hub.awake
     ∧ s.hub.trg.closedWin = w :: rest ∧ w.tick + s.hub.slots800ns ≤ s.hub.now) := by decide +kernel

theorem witness_triggerRegisters :
    (let s := inTrack; let i := 15; s.hub.awake ∧ i < 16) ∧
    (let s := acquiring 1; let p := Path.mc; let m := 65535; s.hub.awake ∧ m < 65536 ∧ s.hub.livePath p) ∧
    (let s := acquiring 1; let p := Path.jtag; let t := 15; s.hub.awake ∧ t < 16 ∧ s.hub.livePath p) := by decide

theorem witness_tripOutputs :
    (let s := tripping 1; let n := 3; let f := 2112; s.hub.awake ∧ n < 16 ∧ f < 2160 ∧ s.hub.evaluatesTrips = true
     ∧ s.hub.tripCond n = true ∧ s.hub.flag (TRG_TRIP_STAT_LATCHED n) = false) ∧
    (let s := tripping 1; let n := 15; let p := Path.mc; s.hub.awake ∧ n < 16 ∧ s.hub.livePath p) ∧
    (let s : State := { hub := { (tripping 0).hub with trg := { permitDue := 8 } } }; let n := 3; s.hub.awake ∧ n < 16
     ∧ s.hub.trg.permitDue.getLsbD n = true ∧ s.hub.tripCond n = false ∧ s.hub.flag (TRG_TRIP_STAT_LATCHED n) = false
     ∧ s.hub.flag (TRG_TRIP_STAT_DRIVEN n) = true ∧ s.hub.pwr.draining = false) := by decide

theorem witness_seriesEndAndRearm :
    (let s := seriesOf { series := some 800, gridNext := some 0 }; let i := 800; let g : Int := 0; s.hub.awake
     ∧ s.hub.cnv.series = some i ∧ s.hub.cnv.gridNext = some g ∧ s.hub.cnv.restart = false ∧ (s.hub.entry i).spent = true
     ∧ g ≤ s.hub.now) ∧
    (let s := seriesOf { gridNext := some 0 }; let g : Int := 0; s.hub.awake ∧ s.hub.cnv.series = none ∧ s.hub.cnv.gridNext = some g
     ∧ g ≤ s.hub.now ∧ s.hub.sp.queue = [] ∧ s.hub.sp.burst = none) ∧
    (let s : State := { hub := { inTrack.hub with sp := { rearmTo := some 4, frames := [(4, { tick := -100 })] } } }; let r := 4;
     let f := (SMap.find? s.hub.sp.frames r).getD {}; s.hub.awake ∧ s.hub.sp.rearmTo = some r
     ∧ SMap.find? s.hub.sp.frames r = some f ∧ f.tick + s.hub.slots800ns ≤ s.hub.now) := by decide

theorem witness_siphonReconstructs_1 :
    (let b := 11; let xs : List Int := [1000, 1001]; let h : Int × Int × Int := (0, 0, 0); let o := 0; let n := 0;
     let rs : List Int := [1000, 1001]; let h' : Int × Int × Int := (1001, 1000, 0); let r : Int := 1000; b ∈ [11, 7, 5]
     ∧ (∀ x ∈ xs, -8388608 ≤ x ∧ x ≤ 8388607) ∧ encodeBlock b xs h shifts = (o, n, rs, h') ∧ r ∈ rs) := by decide

theorem witness_siphonReconstructs_2 :
    (let b := 11; let xs : List Int := [1000, 1001]; let h : Int × Int × Int := (0, 0, 0); let o := 0; let n := 0;
     let rs : List Int := [1000, 1001]; let h' : Int × Int × Int := (1001, 1000, 0); let p : Int × Int := (1000, 1000);
     b ∈ [11, 7, 5] ∧ (∀ x ∈ xs, -8388608 ≤ x ∧ x ≤ 8388607) ∧ encodeBlock b xs h shifts = (o, n, rs, h')
     ∧ p ∈ (decodeBlock o n rs h).1.zip xs ∧ n = 0) := by decide

theorem witness_siphonReconstructs_3 :
    (let b := 5; let xs : List Int := [8388607]; let h : Int × Int × Int := (0, 0, 0); let e := encodeBlock b xs h shifts; let o := e.1;
     let n := e.2.1; let rs := e.2.2.1; let h' := e.2.2.2; let m := 0; let q := 3; b ∈ [11, 7, 5]
     ∧ (∀ x ∈ xs, -8388608 ≤ x ∧ x ≤ 8388607) ∧ encodeBlock b xs h shifts = (o, n, rs, h') ∧ m < n ∧ q < 4) := by decide

theorem witness_siphonReconstructs_4 :
    (let b := 5; let xs : List Int := [49720]; let h : Int × Int × Int := (49700, 49400, 49100); let e := encodeBlock b xs h shifts;
     let o := e.1; let n := e.2.1; let rs := e.2.2.1; let h' := e.2.2.2; let q := 0; b ∈ [11, 7, 5]
     ∧ (∀ x ∈ xs, -8388608 ≤ x ∧ x ≤ 8388607) ∧ encodeBlock b xs h shifts = (o, n, rs, h') ∧ q < o) := by decide

theorem witness_packetsClose_1 :
    (let p : OpenPkt := { fmt := fmtRecords, conts := [.word 1, .word 2] };
     let s := ringOf 127 { open? := some p } (given inTrack (CIS_STREAM_CFG_AGE 127) 0); let n := 127; let r := s.hub.ring n;
     let old : Prop := s.hub.fld (CIS_STREAM_CFG_AGE n) ≠ 0 ∧
        p.slot + ((s.hub.fld (CIS_STREAM_CFG_AGE n) * s.hub.bclk / 1000 + 1 : Nat) : Int) ≤ s.hub.now;
     s.hub.awake ∧ n < 128 ∧ r.flushDue = false ∧ r.held = none ∧ r.gapsDue = [] ∧ r.open? = some p ∧ p.ratio = 0 ∧ p.cut = false
     ∧ p.spoilt = false ∧ p.dropped = false ∧ r.spans = [] ∧ (p.fmt = fmtRecords ∨ (old ∧ r.inSet = false))) := by decide

theorem witness_packetsClose_2 :
    (let p : OpenPkt := { conts := [.sample 1 0, .sample 2 0], slot := -1000 };
     let s := ringOf 127 { open? := some p } (given inTrack (CIS_STREAM_CFG_AGE 127) 3); let n := 127; let r := s.hub.ring n;
     let old : Prop := s.hub.fld (CIS_STREAM_CFG_AGE n) ≠ 0 ∧
        p.slot + ((s.hub.fld (CIS_STREAM_CFG_AGE n) * s.hub.bclk / 1000 + 1 : Nat) : Int) ≤ s.hub.now;
     s.hub.awake ∧ n < 128 ∧ r.flushDue = false ∧ r.held = none ∧ r.gapsDue = [] ∧ r.open? = some p ∧ p.ratio = 0 ∧ p.cut = false
     ∧ p.spoilt = false ∧ p.dropped = false ∧ r.spans = [] ∧ (p.fmt = fmtRecords ∨ (old ∧ r.inSet = false))) := by decide

theorem witness_packetsClose_3 :
    (let t : Int × Int := (0, 5); let p : OpenPkt := {  };
     let s := ringOf 127 { open? := some p, spans := [t] } (given inTrack (CIS_STREAM_CFG_AGE 127) 0); let n := 127;
     let r := s.hub.ring n; s.hub.awake ∧ n < 128 ∧ r.flushDue = false ∧ r.held = none ∧ r.gapsDue = [] ∧ r.open? = some p
     ∧ p.ratio = 0 ∧ p.cut = false ∧ p.spoilt = false ∧ p.dropped = false ∧ r.spans = [t] ∧ r.running = false ∧ r.waiting = []) := by decide

theorem witness_packetsClose_4 :
    (let p : OpenPkt := {  }; let s := ringOf 127 { open? := some p } (given inTrack (CIS_STREAM_CFG_AGE 127) 0); let n := 127;
     let r := s.hub.ring n; s.hub.awake ∧ n < 128 ∧ r.flushDue = false ∧ r.held = none ∧ r.gapsDue = [] ∧ r.open? = some p
     ∧ p.ratio = 0 ∧ p.cut = false ∧ p.spoilt = false ∧ r.spans = [] ∧ p.fmt ≠ fmtRecords ∧ s.hub.fld (CIS_STREAM_CFG_AGE n) = 0) := by decide

theorem witness_packetsClose_5 :
    (let p : OpenPkt := { slot := -1000 };
     let s := ringOf 127 { open? := some p, inSet := true } (given inTrack (CIS_STREAM_CFG_AGE 127) 3); let n := 127;
     let r := s.hub.ring n;
     let old : Prop := s.hub.fld (CIS_STREAM_CFG_AGE n) ≠ 0 ∧
        p.slot + ((s.hub.fld (CIS_STREAM_CFG_AGE n) * s.hub.bclk / 1000 + 1 : Nat) : Int) ≤ s.hub.now;
     s.hub.awake ∧ n < 128 ∧ r.flushDue = false ∧ r.held = none ∧ r.gapsDue = [] ∧ r.open? = some p ∧ p.ratio = 0 ∧ p.cut = false
     ∧ p.spoilt = false ∧ r.spans = [] ∧ p.fmt ≠ fmtRecords ∧ old ∧ r.inSet = true) := by decide

theorem witness_packetsClose_6 :
    (let p : OpenPkt := { dropped := true, slot := -1000 };
     let s := ringOf 5 { open? := some p, maxPkt := 20000 } (given (filling 0 []) (CIS_STREAM_CFG_AGE 5) 3); let n := 5;
     let r := s.hub.ring n;
     let old : Prop := s.hub.fld (CIS_STREAM_CFG_AGE n) ≠ 0 ∧
        p.slot + ((s.hub.fld (CIS_STREAM_CFG_AGE n) * s.hub.bclk / 1000 + 1 : Nat) : Int) ≤ s.hub.now;
     s.hub.awake ∧ n < 128 ∧ r.flushDue = false ∧ r.held = none ∧ r.gapsDue = [] ∧ r.open? = some p ∧ p.ratio = 0 ∧ p.cut = false
     ∧ p.spoilt = false ∧ p.dropped = true ∧ r.spans = [] ∧ (p.fmt = fmtRecords ∨ (old ∧ r.inSet = false))
     ∧ s.hub.ringSize n < s.hub.ringBytes n + r.maxPkt + 64) ∧
    (let t : Int × Int := (0, 5); let s := ringOf 127 { spans := [t] } inTrack; let n := 127; let r := s.hub.ring n; s.hub.awake
     ∧ n < 128 ∧ r.flushDue = false ∧ r.held = none ∧ r.gapsDue = [] ∧ r.open? = none ∧ r.spans = [t] ∧ r.running = false
     ∧ r.waiting = []) := by decide

theorem witness_streamsControlled_1 :
    (let s := filling 0 []; let p := Path.jtag; let n := 127; s.hub.awake ∧ n < 128 ∧ s.hub.livePath p ∧ n ≠ 0) ∧
    (let s := ringOf 5 { flushDue := true } (filling 0 []); let p := Path.mc; let n := 5; let r := s.hub.ring n; s.hub.awake ∧ n < 128
     ∧ s.hub.livePath p ∧ n ≠ 0 ∧ s.hub.ringSize n ≠ 0 ∧ r.flushDue = true) ∧
    (let s := filling 0 []; let p := Path.mc; let n := 5; let r := s.hub.ring n; s.hub.awake ∧ n < 128 ∧ s.hub.livePath p ∧ n ≠ 0
     ∧ s.hub.ringSize n ≠ 0 ∧ r.flushDue = false ∧ r.open? ≠ none) := by decide

theorem witness_streamsControlled_2 :
    (let s := ringOf 5 {} (filling 0 []); let p := Path.mc; let n := 5; let r := s.hub.ring n; s.hub.awake ∧ n < 128 ∧ s.hub.livePath p
     ∧ n ≠ 0 ∧ s.hub.ringSize n ≠ 0 ∧ r.flushDue = false ∧ r.open? = none ∧ r.held = none) ∧
    (let s := given inTrack DEV_STATE_STEP 6; let n := 127; s.hub.awake ∧ n < 128 ∧ s.hub.livePath .mc ∧ (n = 0 ∨ s.hub.ringSize n = 0)) ∧
    (let s := ringOf 5 { flushDue := true } (filling 0 []); let n := 5; let r := s.hub.ring n; s.hub.awake ∧ n < 128 ∧ r.flushDue = true
     ∧ r.open? = none ∧ r.held = none) := by decide

theorem witness_siphonBlocks_1 :
    (let s := filling 1 (List.replicate 32 (.sample 1 0)); let n := 5;
     let p : OpenPkt := { conts := List.replicate 32 (.sample 1 0), ratio := 1 }; s.hub.awake ∧ n < 128
     ∧ (s.hub.ring n).open? = some p ∧ p.ratio ≠ 0 ∧ p.coded + 32 ≤ p.conts.length
     ∧ (List.range 2).all (fun u => s.hub.flag (SIP_UNIT_STAT_IN_SERVICE u)) = true) ∧
    (let s := filling 1 []; let p := Path.mc; let n := 127; s.hub.awake ∧ n < 128 ∧ s.hub.livePath p) ∧
    (let s := filling 1 []; let n := 5;
     let result :=
        if n = 0 ∨ s.hub.ringSize n = 0 then 3
        else if (s.hub.ring n).running then 1
        else if s.hub.fld (CIS_STREAM_CFG_RATIO n) = 0 ∧
          (s.hub.fld (CIS_STREAM_CFG_CLASS n) ≠ 3 ∨ s.hub.fld (CIS_STREAM_CFG_DEG_RATIO n) = 0) then 2 else 0;
     s.hub.awake ∧ n < 128 ∧ result = 0) ∧
    (let s := filling 1 []; let n := 5; let m := 127;
     let result :=
        if n = 0 ∨ s.hub.ringSize n = 0 then 3
        else if (s.hub.ring n).running then 1
        else if s.hub.fld (CIS_STREAM_CFG_RATIO n) = 0 ∧
          (s.hub.fld (CIS_STREAM_CFG_CLASS n) ≠ 3 ∨ s.hub.fld (CIS_STREAM_CFG_DEG_RATIO n) = 0) then 2 else 0;
     s.hub.awake ∧ n < 128 ∧ result = 0 ∧ m ≠ n) := by decide

theorem witness_siphonBlocks_2 :
    (let s := inTrack; let n := 127;
     let result :=
        if n = 0 ∨ s.hub.ringSize n = 0 then 3
        else if (s.hub.ring n).running then 1
        else if s.hub.fld (CIS_STREAM_CFG_RATIO n) = 0 ∧
          (s.hub.fld (CIS_STREAM_CFG_CLASS n) ≠ 3 ∨ s.hub.fld (CIS_STREAM_CFG_DEG_RATIO n) = 0) then 2 else 0;
     s.hub.awake ∧ n < 128 ∧ result ≠ 0) ∧
    (let s := ringOf 5 { eccSec := true } inTrack; s.hub.awake ∧ s.hub.cis.rings.any (fun p => p.2.eccSec) = true) := by decide

theorem witness_linkBringUp_1 :
    (let s := linked 1; let j := 1; s.hub.awake ∧ j < 2 ∧ s.hub.fld WL_STAT_STATE ≠ 0) ∧
    (let s := linked 1; let j := 1; s.hub.awake ∧ j < 2 ∧ s.hub.fld WL_STAT_STATE = 1) ∧
    (let s := linked 4; let j := 0; s.hub.awake ∧ j < 2 ∧ s.hub.fld WL_STAT_STATE ≠ 0 ∧ s.hub.fld WL_STAT_RX_ACTIVE = j) ∧
    (let s := linked 2; let lock := 7; s.hub.awake ∧ s.hub.fld WL_STAT_STATE = 2 ∧ 3 ≤ (List.range 5).countP (bit lock)) := by decide

theorem witness_linkBringUp_2 :
    (let s := linked 3; s.hub.awake ∧ s.hub.fld WL_STAT_STATE = 3 ∧ s.hub.activeLanes ≠ []) ∧
    (let s := linked 7; s.hub.awake ∧ 4 ≤ s.hub.fld WL_STAT_STATE ∧ s.hub.fld WL_STAT_STATE ≤ 7) ∧
    (let s := linked 4; s.hub.awake ∧ s.hub.linkUp = true) ∧
    (let s : State := { hub := { (linked 7).hub with wl := { before := 6 } } }; let j := 1; s.hub.awake ∧ j < 2
     ∧ s.hub.fld WL_STAT_STATE = 7 ∧ 4 ≤ s.hub.wl.before ∧ s.hub.activeLanes ≠ []) := by decide

theorem witness_lanesFailAndReturn_1 :
    (let s := given (linked 4) WL_STAT_ACTIVE 4; let lock := 0x0F; s.hub.awake ∧ lock < 32 ∧ s.hub.flag WL_STAT_DOWNLINK_OK = true
     ∧ s.hub.linkUp = true ∧ s.hub.fld WL_STAT_STATE = s.hub.laneState ∧ s.hub.fld WL_STAT_ACTIVE = s.hub.activeLanes.length
     ∧ (∀ l ∈ s.hub.activeLanes, bit lock (s.hub.logOf l) = true)) ∧
    (let s := linked 4; let lock := 0x1D; let l := 1; let sp := 4; s.hub.awake ∧ lock < 32 ∧ l < 4 ∧ sp < 5
     ∧ s.hub.flag WL_STAT_DOWNLINK_OK = true ∧ s.hub.linkUp = true ∧ s.hub.activeLanes = [0, 1, 2, 3]
     ∧ s.hub.fld WL_LANE_MAP_SPARE = sp ∧ s.hub.flag (WL_LANE_STAT_LOCK sp) = true ∧ bit lock sp = true ∧ s.hub.wl.swaps = []
     ∧ s.hub.logOf l < 5 ∧ s.hub.activeLanes.filter (fun i => !bit lock (s.hub.logOf i)) = [l]) := by decide

theorem witness_lanesFailAndReturn_2 :
    (let rest : List (Nat × Nat) := []; let s : State := { hub := { (linked 4).hub with wl := { swaps := [(4, 3)] } } }; let sp := 4;
     let l := 3; s.hub.awake ∧ l < 4 ∧ sp < 5 ∧ s.hub.wl.swaps = (sp, l) :: rest ∧ s.hub.flag (WL_LANE_STAT_LOCK sp) = true) ∧
    (let h := (given (linked 5) (WL_LANE_STAT_ROLE 4) 3).hub; let t0 := 7;
     let s : State := { hub := { h with wl := { goodSince := [(4, t0)] } } }; let i := 4; s.hub.awake ∧ i < 5 ∧ s.hub.linkUp = true
     ∧ s.hub.fld (WL_LANE_STAT_ROLE i) = 3 ∧ s.hub.flag (WL_LANE_STAT_LOCK i) = true ∧ SMap.find? s.hub.wl.goodSince i = some t0) ∧
    (let s := given (linked 5) WL_CTRL_IDLE_EN 1; let l := 3; s.hub.awake ∧ 0 < l ∧ l < 4 ∧ s.hub.logOf l ≠ 7 ∧ s.hub.sendsFrames = true
     ∧ s.hub.flag WL_CTRL_IDLE_EN = true ∧ l ≠ 1) := by decide

theorem witness_lanesFailAndReturn_3 :
    (let s := linked 4; s.hub.awake ∧ s.hub.linkLane ≠ none ∧ s.hub.wl.waiting = []) ∧
    (let s := linked 1; s.hub.awake ∧ s.hub.linkLane = none) ∧
    (let s := linked 1; s.hub.awake ∧ s.hub.fld WL_STAT_STATE ≠ 0) ∧
    (let s := linked 4; let i := 4; let e := 2 ^ 32 - 1; s.hub.awake ∧ i < 5 ∧ e < 2 ^ 32 ∧ s.hub.flag WL_STAT_DOWNLINK_OK = true
     ∧ s.hub.linkUp = true ∧ SMap.find? s.hub.wl.prbsAt i = none ∧ s.hub.fld (WL_TX_PRBS_ERR_ERRORS i) < e) := by decide

theorem witness_commandWords_1 :
    (let s := carrying 1; let n := 5; let g := 200; let old := SMap.get (fun _ => 0) s.hub.wl.grant n;
     let used := SMap.get (fun _ => 0) s.hub.wl.used n; s.hub.awake ∧ s.hub.flag WL_STAT_DOWNLINK_OK = true ∧ s.hub.linkUp = true
     ∧ n < 128 ∧ g < 2 ^ 32 ∧ s.hub.ringSize n ≠ 0 ∧ s.hub.fld (CIS_STREAM_CFG_CLASS n) ≠ 0 ∧ (g + 2 ^ 32 - old) % 2 ^ 32 < 2 ^ 31
     ∧ (g + 2 ^ 32 - used) % 2 ^ 32 ≤ 2 ^ 24 ∧ used < 2 ^ 32) ∧
    (let s := carrying 1; let n := 5; let g := 99; let old := SMap.get (fun _ => 0) s.hub.wl.grant n; s.hub.awake
     ∧ s.hub.flag WL_STAT_DOWNLINK_OK = true ∧ s.hub.linkUp = true ∧ n < 128 ∧ g < 2 ^ 32 ∧ s.hub.ringSize n ≠ 0
     ∧ s.hub.fld (CIS_STREAM_CFG_CLASS n) ≠ 0 ∧ 2 ^ 31 ≤ (g + 2 ^ 32 - old) % 2 ^ 32) := by decide

theorem witness_commandWords_2 :
    (let s := unacking; let a := 2; let d := (a + 1 + 2 ^ 32 - s.hub.wl.acked) % 2 ^ 32; s.hub.awake
     ∧ s.hub.flag WL_STAT_DOWNLINK_OK = true ∧ s.hub.linkUp = true ∧ a < 2 ^ 32 ∧ 0 < d ∧ d < 2 ^ 31 ∧ d ≤ s.hub.outstanding
     ∧ s.hub.cis.rings.all (fun r => r.2.held.isNone)) ∧
    (let s := unacking; let n := 2; s.hub.awake ∧ s.hub.flag WL_STAT_DOWNLINK_OK = true ∧ s.hub.linkUp = true ∧ n < 2 ^ 32
     ∧ s.hub.isOut n = true ∧ s.hub.wl.retxDone = false) := by decide

theorem witness_commandWords_3 :
    (let s := given (given (filling 0 []) WL_STAT_STATE 4) WL_STAT_DOWNLINK_OK 1; let n := 5; s.hub.awake
     ∧ s.hub.flag WL_STAT_DOWNLINK_OK = true ∧ s.hub.linkUp = true ∧ 0 < n ∧ n < 128 ∧ s.hub.ringSize n ≠ 0
     ∧ (s.hub.ring n).flushDue = false ∧ (s.hub.ring n).open? ≠ none) ∧
    (let s := linked 1; s.hub.awake ∧ s.hub.flag WL_STAT_DOWNLINK_OK = true ∧ s.hub.linkUp = false) := by decide

theorem witness_commandsOverTheLink_1 :
    (let s : State := { hub := { (linked 4).hub with wl := { cache := [(255, WL_STAT, 5)] } } }; let tag := 255; let a := WL_STAT;
     let r := (replay s.hub.wl.cache tag a).getD 0; s.hub.awake ∧ s.hub.flag WL_STAT_DOWNLINK_OK = true ∧ s.hub.linkUp = true
     ∧ tag < 256 ∧ a < 2 ^ 32 ∧ replay s.hub.wl.cache tag a = some r) ∧
    (let s := carrying 1; let tag := 255; let a := WL_STAT; s.hub.awake ∧ s.hub.flag WL_STAT_DOWNLINK_OK = true ∧ s.hub.linkUp = true
     ∧ tag < 256 ∧ a < 2 ^ 32 ∧ replay s.hub.wl.cache tag a = none ∧ (s.hub.passTime.readAny .downlink a).1 = .done) ∧
    (let s := carrying 1; let tag := 255; let a := TRG_ARM; let d : Word := 1; s.hub.awake ∧ s.hub.flag WL_STAT_DOWNLINK_OK = true
     ∧ s.hub.linkUp = true ∧ tag < 256 ∧ a < 2 ^ 32 ∧ replay s.hub.wl.cache tag a = none
     ∧ (s.hub.passTime.writeAny .downlink a d).1 = .done) := by decide

theorem witness_commandsOverTheLink_2 :
    (let s := linked 4; let n := 65535; let ws : List (BitVec 64) := [0]; let crc := 0;
     let crcOf (ws : List (BitVec 64)) : Nat := crc32c (beBytes (ws.flatMap fun w => (wide w.toNat).map (BitVec.ofNat 32)));
     s.hub.awake ∧ s.hub.flag WL_STAT_DOWNLINK_OK = true ∧ n < 65536 ∧ crc ≠ crcOf ws) ∧
    (let s := linked 4; let n := 65535; let ws : List (BitVec 64) := [0]; let count := 2; s.hub.awake
     ∧ s.hub.flag WL_STAT_DOWNLINK_OK = true ∧ n < 65536 ∧ count ≠ ws.length) ∧
    (let s := linked 4; let n := 65535; let ws : List (BitVec 64) := [0, 0]; s.hub.awake ∧ s.hub.flag WL_STAT_DOWNLINK_OK = true
     ∧ n < 65536 ∧ ws ≠ [] ∧ ws.length ≤ 64 ∧ ws.all (fun w => w == 0) = true ∧ s.hub.linkUp = true) := by decide +kernel

theorem witness_framesLeave_1 :
    (let s : State := { hub := { (linked 4).hub with wl := { resend := [7] } } }; let l := 3; let n := 7; let rest : List Nat := [];
     s.hub.awake ∧ l < 4 ∧ s.hub.logOf l ≠ 7 ∧ s.hub.linkUp = true ∧ (s.hub.interlockReady = none ∨ l ∉ s.hub.copyLanes)
     ∧ s.hub.wl.resend = n :: rest) ∧
    (let s := carrying 1; let l := 3; let n := 5; let r := ((s.hub.readyStream 1).getD (0, {})).2; s.hub.awake ∧ l < 4
     ∧ s.hub.logOf l ≠ 7 ∧ s.hub.linkUp = true ∧ (s.hub.interlockReady = none ∨ l ∉ s.hub.copyLanes) ∧ s.hub.wl.resend = []
     ∧ ((s.hub.readyStream 1).orElse fun _ => (s.hub.readyStream 2).orElse fun _ => s.hub.readyStream 3) = some (n, r)
     ∧ s.hub.outstanding < 16384) := by decide

theorem witness_framesLeave_2 :
    (let s := carrying 0; let l := 3; let n := 5; let r := (s.hub.interlockReady.getD (0, {})).2; let l0 := 0; let rest := [1];
     s.hub.awake ∧ l < 4 ∧ s.hub.logOf l ≠ 7 ∧ s.hub.linkUp = true ∧ n < 128 ∧ s.hub.copyLanes = l0 :: rest
     ∧ s.hub.interlockReady = some (n, r) ∧ (s.hub.ring n).held = none
     ∧ rest.all (fun l1 => s.hub.logOf l0 != s.hub.logOf l1) = true) := by decide

theorem witness_ptpMessages_1 :
    (let s := exchanging 2; let m := hdr;
     let mine := m.domain = s.hub.fld FT_CFG_DOMAIN ∧ m.sdo = 0 ∧ s.hub.ft.selected = some (m.clock, m.port);
     let ptp : Prop := m.dest = Hub.ptpForwardable ∨ m.dest = Hub.ptpLocal; s.hub.awake ∧ s.hub.ptpOn = true ∧ ptp ∧ mine
     ∧ -4 ≤ m.logInterval ∧ m.logInterval ≤ 1) ∧
    (let m := hdr; let w : SyncWait := { seq := 3 };
     let s : State := { hub := { (exchanging 2).hub with ft := { (exchanging 2).hub.ft with waiting := some w } } };
     let mine := m.domain = s.hub.fld FT_CFG_DOMAIN ∧ m.sdo = 0 ∧ s.hub.ft.selected = some (m.clock, m.port);
     let ptp : Prop := m.dest = Hub.ptpForwardable ∨ m.dest = Hub.ptpLocal; s.hub.awake ∧ s.hub.ptpOn = true ∧ ptp ∧ mine
     ∧ -4 ≤ m.logInterval ∧ m.logInterval ≤ 1 ∧ s.hub.ft.waiting = some w ∧ w.seq = m.seq) ∧
    (let s := exchanging 2; s.hub.awake ∧ s.hub.ptpOn = true ∧ s.hub.ft.selected ≠ none) := by decide

theorem witness_ptpMessages_2 :
    (let s := exchanging 2; let m : PtpHdr := { hdr with port := 2 }; let a := true; let b : Int := 0; let t : Int := 0;
     let corr : Int := 0; let ns := 0; let c := Instr.followUp m t corr;
     let mine := m.domain = s.hub.fld FT_CFG_DOMAIN ∧ m.sdo = 0 ∧ s.hub.ft.selected = some (m.clock, m.port);
     let ptp : Prop := m.dest = Hub.ptpForwardable ∨ m.dest = Hub.ptpLocal; s.hub.awake ∧ s.hub.ptpOn = true
     ∧ (ptp ∧ ¬ mine) ∨ (¬ ptp ∧ m.dest = s.hub.macAddress) ∧ c ∈ [Instr.sync m a t corr ns, .followUp m t corr, .delayResp m t b]) := by decide

theorem witness_exchanges_1 :
    (let s := given (exchanging 1) FT_SERVO_ACQ_N 2; let m := hdr; let t1 : Int := 1000; let cs : Int := 0; let lt2 := 10;
     let lt3 := 20; let stamp := 20; s.hub.awake ∧ s.hub.ptpOn = true ∧ (m.dest = Hub.ptpForwardable ∨ m.dest = Hub.ptpLocal)
     ∧ m.domain = s.hub.fld FT_CFG_DOMAIN ∧ m.sdo = 0 ∧ s.hub.ft.selected = some (m.clock, m.port) ∧ -4 ≤ m.logInterval
     ∧ m.logInterval ≤ 4 ∧ s.hub.ft.request = some (m.seq, lt3, stamp) ∧ s.hub.ft.sync = some (t1, cs, lt2)
     ∧ s.hub.boot.stalled = false ∧ s.hub.fld FT_STAT_STATE = 1 ∧ s.hub.ft.gathered.length + 1 < s.hub.fld FT_SERVO_ACQ_N) := by decide

theorem witness_exchanges_2 :
    (let s := given (exchanging 1) FT_SERVO_ACQ_N 1; let m := hdr; let t1 : Int := 1000; let cs : Int := 0; let lt2 := 10;
     let lt3 := 20; let stamp := 20; s.hub.awake ∧ s.hub.ptpOn = true ∧ (m.dest = Hub.ptpForwardable ∨ m.dest = Hub.ptpLocal)
     ∧ m.domain = s.hub.fld FT_CFG_DOMAIN ∧ m.sdo = 0 ∧ s.hub.ft.selected = some (m.clock, m.port) ∧ -4 ≤ m.logInterval
     ∧ m.logInterval ≤ 4 ∧ s.hub.ft.request = some (m.seq, lt3, stamp) ∧ s.hub.ft.sync = some (t1, cs, lt2)
     ∧ s.hub.boot.stalled = false ∧ s.hub.fld FT_STAT_STATE = 1 ∧ s.hub.fld FT_SERVO_ACQ_N ≤ s.hub.ft.gathered.length + 1) := by decide

theorem witness_exchanges_3 :
    (let s := given (exchanging 2) FT_JUMP_CFG_PERSIST 2; let m := hdr; let t1 : Int := 1000; let cs : Int := 0; let lt2 := 10;
     let lt3 := 20; let stamp := 20; let t4 : Int := 4000000; let corr : Int := 0; let ps : Int := 1000000000;
     let ms := s.hub.ftAt lt2 - (t1 + cs) * ps; let sm := (t4 - corr) * ps - s.hub.ftAt lt3;
     let mpd := ratioOr (ms + sm) 2000000000; let far := 1000 * s.hub.fld FT_JUMP_CFG_THRESH < (mpd - s.hub.ft.dref).natAbs;
     s.hub.awake ∧ s.hub.ptpOn = true ∧ (m.dest = Hub.ptpForwardable ∨ m.dest = Hub.ptpLocal) ∧ m.domain = s.hub.fld FT_CFG_DOMAIN
     ∧ m.sdo = 0 ∧ s.hub.ft.selected = some (m.clock, m.port) ∧ -4 ≤ m.logInterval ∧ m.logInterval ≤ 4
     ∧ s.hub.ft.request = some (m.seq, lt3, stamp) ∧ s.hub.ft.sync = some (t1, cs, lt2) ∧ s.hub.boot.stalled = false
     ∧ s.hub.fld FT_STAT_STATE = 2 ∧ far ∧ s.hub.ft.jumps = [] ∧ 2 ≤ s.hub.fld FT_JUMP_CFG_PERSIST) := by decide

theorem witness_exchanges_4 :
    (let s := given (exchanging 2) FT_JUMP_CFG_THRESH (2 ^ 24 - 1); let m := hdr; let t1 : Int := 1000; let cs : Int := 0;
     let lt2 := 10; let lt3 := 20; let stamp := 20; let t4 : Int := 1000; let corr : Int := 0; let ps : Int := 1000000000;
     let ms := s.hub.ftAt lt2 - (t1 + cs) * ps; let sm := (t4 - corr) * ps - s.hub.ftAt lt3;
     let mpd := ratioOr (ms + sm) 2000000000; let far := 1000 * s.hub.fld FT_JUMP_CFG_THRESH < (mpd - s.hub.ft.dref).natAbs;
     s.hub.awake ∧ s.hub.ptpOn = true ∧ (m.dest = Hub.ptpForwardable ∨ m.dest = Hub.ptpLocal) ∧ m.domain = s.hub.fld FT_CFG_DOMAIN
     ∧ m.sdo = 0 ∧ s.hub.ft.selected = some (m.clock, m.port) ∧ -4 ≤ m.logInterval ∧ m.logInterval ≤ 4
     ∧ s.hub.ft.request = some (m.seq, lt3, stamp) ∧ s.hub.ft.sync = some (t1, cs, lt2) ∧ s.hub.boot.stalled = false
     ∧ s.hub.fld FT_STAT_STATE = 2 ∧ (¬ far)) := by decide

theorem witness_timeIsNeverSteppedTwice :
    (let s := given (exchanging 4) FT_STAT_FT_VALID 1; let m := hdr; let a := false; let v := true; let t : Int := 0;
     let corr : Int := 0; let ns := 9; let cls := 6; let ds : List Nat := []; let p := Path.mc; let c := Instr.followUp m t corr;
     s.hub.awake ∧ s.hub.flag FT_STAT_FT_VALID = true ∧ 2 ≤ s.hub.fld FT_STAT_STATE ∧ s.hub.fld FT_STAT_STATE ≤ 4
     ∧ c ∈ [Instr.sync m a t corr ns, .followUp m t corr, .delayReq ns, .delayResp m t corr, .announce m cls ds t v, .lossIntervals, .qualifiedMasterLoss, .jumpRampEnd, .asymAck p, .xchkRebase p, .summary, .ethLink a]) := by decide

theorem witness_facilityTimeStates_1 :
    (let s := timed 3; s.hub.awake ∧ (s.hub.fld FT_STAT_STATE = 2 ∨ s.hub.fld FT_STAT_STATE = 3)) ∧
    (let s := exchanging 4; s.hub.awake ∧ s.hub.ft.selected ≠ none ∧ 1 ≤ s.hub.fld FT_STAT_STATE ∧ s.hub.fld FT_STAT_STATE ≤ 4) ∧
    (let s : State := { hub := { (timed 2).hub with boot := { stalled := true } } }; s.hub.awake ∧ s.hub.boot.stalled = true) ∧
    (let s : State := { hub := { (exchanging 2).hub with ft := { ramp := some (5, 300, 7) } } }; let a := 5; let e := 300;
     let dy : Int := 7; s.hub.awake ∧ s.hub.boot.stalled = false ∧ s.hub.ft.ramp = some (a, e, dy)) := by decide

theorem witness_facilityTimeStates_2 :
    (let s := timed 2; let p := Path.jtag; s.hub.awake ∧ s.hub.livePath p) := by decide

theorem witness_timeRecordsAndFrames_1 :
    (let s := recording; let ns := 9; let t : Int := 5; s.hub.awake ∧ ns < 10 ∧ s.hub.recordTurn = some t ∧ t * s.hub.spt ≤ s.hub.now
     ∧ s.hub.ringSize 0 ≠ 0 ∧ (s.hub.ring 0).open? = none ∧ s.hub.flag FT_XCHK_EN = false) ∧
    (let s := given (timed 2) FT_ETH_CFG_SUMMARY_MS 100; s.hub.awake ∧ s.hub.ethUp = true ∧ s.hub.fld FT_ETH_CFG_SUMMARY_MS ≠ 0) ∧
    (let s := timed 2; let f : EthFrame := { goodFrame with fcsOk := false }; s.hub.awake ∧ s.hub.ethUp = true ∧ f.fcsOk = false) ∧
    (let s := timed 2; let f : EthFrame := { goodFrame with dest := 4 }; s.hub.awake ∧ s.hub.ethUp = true ∧ f.fcsOk = true
     ∧ s.hub.accepts f.dest = false) := by decide

theorem witness_timeRecordsAndFrames_2 :
    (let s := given (timed 2) FT_ETH_CFG_PEER_W3 5; let f := goodFrame; s.hub.awake ∧ s.hub.ethUp = true ∧ f.fcsOk = true
     ∧ s.hub.accepts f.dest = true ∧ s.hub.peer ≠ 0 ∧ f.source ≠ s.hub.peer) ∧
    (let s := timed 2; let f : EthFrame := { goodFrame with version := 2 }; s.hub.awake ∧ s.hub.ethUp = true ∧ f.fcsOk = true
     ∧ s.hub.accepts f.dest = true ∧ (s.hub.peer = 0 ∨ f.source = s.hub.peer)
     ∧ (f.magic ≠ 0x4A ∨ f.version ≠ 1 ∨ f.kind ≠ 0 ∨ f.lengthOk = false)) := by decide

theorem witness_timeRecordsAndFrames_3 :
    (let s := timed 2; let f := goodFrame; let tag := 255; let a := WL_STAT; s.hub.awake ∧ s.hub.ethUp = true ∧ f.fcsOk = true
     ∧ s.hub.accepts f.dest = true ∧ (s.hub.peer = 0 ∨ f.source = s.hub.peer) ∧ f.magic = 0x4A ∧ f.version = 1 ∧ f.kind = 0
     ∧ f.lengthOk = true ∧ tag < 256 ∧ a < 2 ^ 32 ∧ f.words = [BitVec.ofNat 64 (6 * 2 ^ 56 + tag * 2 ^ 48 + a)]
     ∧ replay s.hub.ft.cache tag a = none ∧ (s.hub.passTime.readAny .ethernet a).1 = .done) ∧
    (let s := timed 2; let up := false; s.hub.awake ∧ s.hub.flag FT_ETH_STAT_LINK ≠ up) := by decide

theorem witness_scrubAndRepair_1 :
    (let s := inTrack; let f : EccFind := { mem := 17, addr := 0x41000040, row := 0, fatal := false }; s.hub.awake ∧ f.mem < 22
     ∧ f.mem ≠ 18 ∧ f.fatal = false ∧ s.hub.memOn f.mem = true ∧ memOf f.addr = some f.mem ∧ s.hub.mem.copying = []) ∧
    (let s := inTrack; let f : EccFind := { mem := 21, addr := 0x45000008, row := 0, fatal := true }; s.hub.awake ∧ f.mem = 21
     ∧ f.fatal = true ∧ memOf f.addr = some 21 ∧ 0 < s.hub.sparesIn 21 f.row ∧ s.hub.mem.copying = []) ∧
    (let s : State := { hub := { inTrack.hub with mem := { copying := [(17, 16383, 1)] } } }; let m := 17; let row := 16383;
     let cause := 1; s.hub.awake ∧ m < 32 ∧ row < 16384 ∧ cause < 2 ∧ s.hub.mem.copying = [(m, row, cause)]) := by decide

theorem witness_scrubAndRepair_2 :
    (let s : State := { hub := { inTrack.hub with mem := { eccSec := [17] } } }; s.hub.awake ∧ s.hub.mem.eccSec ≠ []) ∧
    (let s : State := { hub := { inTrack.hub with mem := { filling := [3] } } }; let m := 3; s.hub.awake ∧ m ∈ s.hub.mem.filling) := by decide

theorem witness_dmaStartsAndAborts_1 :
    (let s := copying; let p := Path.mc; let n := 5; let mine := p = .mc ∨ (24 ≤ n ∧ n ≤ 27); let i := s.hub.fld (DMA_CH_CFG_HEAD n);
     let d := s.hub.desc i; let idle := s.hub.fld (DMA_CH_STAT_STATE n) < 2;
     let startable := s.hub.flag (DMA_CH_CFG_EN n) = true ∧ idle ∧ s.hub.boot.stalled = false ∧ d.own = true ∧ d.repeats = false ∧
      s.hub.poisoned (Hub.descAt i) 8 = false ∧ s.hub.checkDesc n d = 0;
     s.hub.awake ∧ n < 32 ∧ s.hub.livePath p ∧ mine ∧ startable) ∧
    (let s := running 3; let p := Path.mc; let n := 5; let mine := p = .mc ∨ (24 ≤ n ∧ n ≤ 27);
     let idle := s.hub.fld (DMA_CH_STAT_STATE n) < 2; s.hub.awake ∧ n < 32 ∧ s.hub.livePath p ∧ mine
     ∧ s.hub.flag (DMA_CH_CFG_EN n) = true ∧ (¬ idle)) ∧
    (let s := copying; let p := Path.jtag; let n := 23; let head : Option Nat := none; let c := Instr.abort p n;
     let mine := p = .mc ∨ (24 ≤ n ∧ n ≤ 27); s.hub.awake ∧ n < 32 ∧ s.hub.livePath p ∧ (¬ mine)
     ∧ c ∈ [Instr.start p n head, .abort p n, .paceIgnore p n, .paceAccept p n]) := by decide

theorem witness_dmaStartsAndAborts_2 :
    (let s := copying; let p := Path.jtag; let n := 24; let mine := p = .mc ∨ (24 ≤ n ∧ n ≤ 27); s.hub.awake ∧ n < 32 ∧ s.hub.livePath p
     ∧ mine) ∧
    (let s := paced true; let p := Path.mc; let n := 5; s.hub.awake ∧ n < 32 ∧ s.hub.livePath p ∧ s.hub.mem.paceDue = [n]
     ∧ (s.hub.chan n).ignorePace = true) ∧
    (let s := paced false; let p := Path.mc; let n := 5; let i := s.hub.fld (DMA_CH_CFG_HEAD n); let d := s.hub.desc i;
     let idle := s.hub.fld (DMA_CH_STAT_STATE n) < 2;
     let startable := s.hub.flag (DMA_CH_CFG_EN n) = true ∧ idle ∧ s.hub.boot.stalled = false ∧ d.own = true ∧ d.repeats = false ∧
      s.hub.poisoned (Hub.descAt i) 8 = false ∧ s.hub.checkDesc n d = 0;
     s.hub.awake ∧ n < 32 ∧ s.hub.livePath p ∧ s.hub.mem.paceDue = [n] ∧ (s.hub.chan n).ignorePace = false ∧ startable) := by decide

theorem witness_dmaStartsAndAborts_3 :
    (let s := running 2; let p := Path.mc; let n := 5; let mine := p = .mc ∨ (24 ≤ n ∧ n ≤ 27); s.hub.awake ∧ n < 32 ∧ s.hub.livePath p
     ∧ mine ∧ s.hub.fld (DMA_CH_STAT_STATE n) = 2) ∧
    (let s := running 3; let p := Path.mc; let n := 5; let b := 3; let i := s.hub.fld (DMA_CH_CFG_HEAD n); let d := s.hub.desc i;
     s.hub.awake ∧ n < 32 ∧ s.hub.livePath p ∧ s.hub.fld (DMA_CH_STAT_STATE n) = 3 ∧ s.hub.fld (DMA_CH_STAT_CUR n) = i
     ∧ b < (burstOrderOf s.hub n).length ∧ d.last = true ∧ s.hub.checkDesc n d = 0 ∧ i < 2048) := by decide

theorem witness_dmaCopies :
    (let s := running 2; let n := 5; let i := s.hub.fld (DMA_CH_STAT_CUR n); let d := s.hub.desc i; s.hub.awake ∧ n < 32
     ∧ s.hub.fld (DMA_CH_STAT_STATE n) = 2 ∧ s.hub.mem.poison = [] ∧ i < 2048 ∧ d.toStream = false ∧ d.last = true ∧ d.lines = 1
     ∧ s.hub.checkDesc n d = 0
     ∧ (∀ b < 4 * (s.hub.desc 7).lineWords, regionOf ((s.hub.desc 7).src + b) = some .captures ∨ regionOf ((s.hub.desc 7).src + b) = some .snapshot)
     ∧ (∀ b < 4 * (s.hub.desc 7).lineWords, regionOf ((s.hub.desc 7).dst + b) = some .captures ∨ regionOf ((s.hub.desc 7).dst + b) = some .snapshot)) := by decide +kernel

theorem witness_dumpsAndRecords_1 :
    (let s := given inTrack DEV_STATE_STEP 6; let p := Path.jtag; let a := 2 ^ 32 - 1; let w := 65536; s.hub.awake ∧ s.hub.livePath p
     ∧ a < 2 ^ 32 ∧ 1 ≤ w ∧ w ≤ 65536 ∧ s.hub.flag DMA_DUMP_BUSY = false) ∧
    (let s := given (given inTrack DEV_STATE_STEP 6) DMA_DUMP_BUSY 1; let p := Path.mc; let a := 0; let w := 1; s.hub.awake
     ∧ s.hub.livePath p ∧ a < 2 ^ 32 ∧ 1 ≤ w ∧ w ≤ 65536 ∧ s.hub.flag DMA_DUMP_BUSY = true ∧ p = .mc) ∧
    (let mt : MT := {}; let a := 0x41780002; let w := 4;
     let s : State := { hub := { inTrack.hub with mem := { dump := some (a, w, mt) } } }; s.hub.awake
     ∧ s.hub.mem.dump = some (a, w, mt) ∧ a % 4 ≠ 0) := by decide

theorem witness_dumpsAndRecords_2 :
    (let r : List Word := List.replicate 63 0;
     let s := given { hub := { inTrack.hub with evt := { queue := [r] } } } (CIS_RING_SIZE_SIZE 0) 4;
     let rest : List (List Word) := []; s.hub.awake ∧ s.hub.evt.queue = r :: rest ∧ s.hub.evt.spill = [] ∧ s.hub.ringSize 0 ≠ 0
     ∧ (s.hub.ring 0).open? = none ∧ r.length < 64) ∧
    (let s : State := { hub := { inTrack.hub with evt := { mergedNew := 2 } } }; s.hub.awake ∧ s.hub.evt.mergedNew ≠ 0) ∧
    (let s := given inTrack DEV_STATE_STEP 6; let w := 7; s.hub.awake ∧ w < 8 ∧ s.hub.livePath .mc) ∧
    (let s := given inTrack DEV_STATE_STEP 6; let p := Path.jtag; let w := 7; s.hub.awake ∧ w < 8 ∧ s.hub.livePath p ∧ p ≠ .mc) := by decide

theorem witness_dumpsAndRecords_3 :
    (let s := given inTrack PMC_SAMPLE_CFG_EN 1; s.hub.awake ∧ s.hub.flag PMC_SAMPLE_CFG_EN = true ∧ s.hub.evt.sampleAt = none) ∧
    (let s := inTrack; s.hub.awake ∧ s.hub.flag PMC_SAMPLE_CFG_EN = false) := by decide

theorem witness_calibrationVisits_1 :
    (let s := calibrating { visit := some 4 }; let c := 3; let g := c / 16; let r := s.hub.rotation g; s.hub.awake ∧ c < 512
     ∧ s.hub.visitable c = true ∧ s.hub.flag CAL_CTRL_EN = true ∧ c ∉ r.queue ∧ r.visit ≠ none) ∧
    (let s := calibrating {}; let c := 3; let g := c / 16; let r := s.hub.rotation g; s.hub.awake ∧ c < 512 ∧ s.hub.visitable c = true
     ∧ s.hub.flag CAL_CTRL_EN = true ∧ r.queue = [] ∧ r.visit = none ∧ s.hub.fld (CNV_SPARE_STAT_STATE g) = 0
     ∧ s.hub.spareVisits g = true ∧ s.hub.afePowered g = true ∧ s.hub.boot.stalled = false) ∧
    (let s := calibrating { visit := some 4 }; let c := 3; let p := Path.mc; s.hub.awake ∧ c < 512 ∧ s.hub.livePath p
     ∧ s.hub.visitable c = true) := by decide

theorem witness_calibrationVisits_2 :
    (let s := owed { visit := some 4 }; let c := 3; let m := 31; let g := c / 16; let r := s.hub.rotation g; s.hub.awake ∧ c < 512
     ∧ s.hub.visitable c = true ∧ s.hub.cal.visitDue = [c] ∧ r.visit ≠ none ∧ m ≠ g) ∧
    (let s := owed { visit := some 4 }; let c := 3; let g := c / 16; let r := s.hub.rotation g; s.hub.awake ∧ c < 512
     ∧ s.hub.visitable c = true ∧ s.hub.cal.visitDue = [c] ∧ r.visit ≠ none ∧ r.first = none) ∧
    (let d := 5; let m : CellMeas := { offset := 5, gain := 4194304, qr := 0, tap := 32, trimHi := 0, trimLo := 0 };
     let s := owed { visit := some 4, queue := [5, 3], first := some (d, m) }; let c := 3; let g := c / 16;
     let r := s.hub.rotation g; s.hub.awake ∧ c < 512 ∧ s.hub.visitable c = true ∧ s.hub.cal.visitDue = [c] ∧ r.visit ≠ none ∧ d ≠ c
     ∧ r.first = some (d, m) ∧ r.queue.head? = some d) := by decide

theorem witness_calibrationVisits_3 :
    (let s := calibrating {}; let c := 511; s.hub.awake ∧ c < 512 ∧ s.hub.livePath .mc ∧ s.hub.visitable c = false) := by decide

theorem witness_visitsMeasureAndApply_1 :
    (let m : CellMeas := { offset := 5, gain := 4194304, qr := 0, tap := 63, trimHi := 15, trimLo := -16 };
     let s := ticked (given (given (calibrating { visit := some 3, convs := 3072 }) (CNV_SPARE_STAT_STATE 0) 2) (CNV_SPARE_STAT_REASON 0) 1);
     let g := 0; let c := 3; let r := s.hub.rotation g; s.hub.awake ∧ g < 32 ∧ c < 512 ∧ c / 16 = g ∧ s.hub.boot.stalled = false
     ∧ r.visit = some c ∧ s.hub.fld (CNV_SPARE_STAT_STATE g) = 2 ∧ s.hub.fld (CNV_SPARE_STAT_REASON g) = 1 ∧ 3072 ≤ r.convs
     ∧ Hub.measFailure m.offset m.gain 0 = 0 ∧ -16 ≤ m.trimHi ∧ m.trimHi ≤ 15 ∧ -16 ≤ m.trimLo ∧ m.trimLo ≤ 15 ∧ m.tap ≤ 63
     ∧ r.first = none) := by decide +kernel

theorem witness_visitsMeasureAndApply_2 :
    (let m : CellMeas := { offset := 5, gain := 4194304, qr := 0, tap := 63, trimHi := 15, trimLo := -16 }; let f := m;
     let s := ticked (given (given (calibrating { visit := some 3, convs := 3072, first := some (3, f) }) (CNV_SPARE_STAT_STATE 0) 2) (CNV_SPARE_STAT_REASON 0) 1);
     let g := 0; let c := 3; let r := s.hub.rotation g; s.hub.awake ∧ g < 32 ∧ c < 512 ∧ c / 16 = g ∧ s.hub.boot.stalled = false
     ∧ r.visit = some c ∧ s.hub.fld (CNV_SPARE_STAT_STATE g) = 2 ∧ s.hub.fld (CNV_SPARE_STAT_REASON g) = 1 ∧ 3072 ≤ r.convs
     ∧ Hub.measFailure m.offset m.gain 0 = 0 ∧ -16 ≤ m.trimHi ∧ m.trimHi ≤ 15 ∧ -16 ≤ m.trimLo ∧ m.trimLo ≤ 15 ∧ m.tap ≤ 63
     ∧ r.first = some (c, f)) := by decide +kernel

theorem witness_visitsMeasureAndApply_3 :
    (let s := ticked (given (given (calibrating { visit := some 3, convs := 3072 }) (CNV_SPARE_STAT_STATE 0) 2) (CNV_SPARE_STAT_REASON 0) 1);
     let g := 0; let c := 3; let code := 6; let r := s.hub.rotation g; s.hub.awake ∧ g < 32 ∧ c < 512 ∧ c / 16 = g
     ∧ s.hub.boot.stalled = false ∧ r.visit = some c ∧ s.hub.fld (CNV_SPARE_STAT_STATE g) = 2
     ∧ s.hub.fld (CNV_SPARE_STAT_REASON g) = 1 ∧ 3072 ≤ r.convs ∧ 1 ≤ code ∧ code ≤ 6) ∧
    (let m : CellMeas := { offset := 5, gain := 4194304, qr := 0, tap := 32, trimHi := 0, trimLo := 0 };
     let s := ticked (given (given (given (calibrating { visit := some 3, measured := true, result := some m }) (CNV_SPARE_STAT_STATE 0) 3) (CNV_SPARE_STAT_REASON 0) 1) (AFE_CELL_CFG_MODE 3) 2);
     let g := 0; let c := 3; let r := s.hub.rotation g; s.hub.awake ∧ g < 32 ∧ c < 512 ∧ c / 16 = g ∧ s.hub.boot.stalled = false
     ∧ r.visit = some c ∧ s.hub.fld (CNV_SPARE_STAT_STATE g) = 3 ∧ r.result = some m ∧ r.measured = true
     ∧ s.hub.mt.lastEdge = some s.hub.now ∧ s.hub.handoverReady g = true) := by decide +kernel

theorem witness_visitsMeasureAndApply_4 :
    (let count := 512; let offset : Int := 5; let gain := 4194304;
     let s := given (calibrating { place := some (3, 512) }) (CNV_SPARE_FIX_EN 0) 1; let g := 0; let c := 3;
     let r := s.hub.rotation g; s.hub.awake ∧ g < 32 ∧ c < 512 ∧ c / 16 = g ∧ s.hub.boot.stalled = false ∧ r.place = some (c, count)
     ∧ 512 ≤ count ∧ s.hub.visitable c = true ∧ s.hub.spareVisits g = false ∧ s.hub.flag CAL_CTRL_EN = true
     ∧ s.hub.afePowered g = true ∧ Hub.measFailure offset gain 0 = 0) ∧
    (let f : Coef := {};
     let s := ticked (given (given (calibrating { fallback := some (3, f) }) (CNV_SPARE_STAT_STATE 0) 0) (CNV_SPARE_STAT_REASON 0) 1);
     let g := 0; let c := 3; let n := 3; let n := 17 * g + c % 16; let r := s.hub.rotation g; s.hub.awake ∧ g < 32 ∧ c < 512
     ∧ c / 16 = g ∧ s.hub.boot.stalled = false ∧ r.fallback = some (c, f) ∧ s.hub.servingCell c = n
     ∧ s.hub.mt.lastEdge = some s.hub.now ∧ (s.hub.flag CAL_CTRL_FB_AT = false ∨ s.hub.laterWindow r.fallbackAt = true)) := by decide

theorem witness_visitsMeasureAndApply_5 :
    (let s := inWindow (calibrating {}); let g := 0; let c := 3; s.hub.awake ∧ g < 32 ∧ c < 512 ∧ c / 16 = g
     ∧ s.hub.boot.stalled = false ∧ s.hub.quietRoom g = true) ∧
    (let s := given (given (inWindow (calibrating {})) (AFE_EXC_CFG_EN 0) 1) (AFE_CELL_CFG_MODE 2) 4; let g := 0; let c := 3;
     s.hub.awake ∧ g < 32 ∧ c < 512 ∧ c / 16 = g ∧ s.hub.boot.stalled = false ∧ s.hub.quietRoom g = true
     ∧ s.hub.flag (AFE_EXC_CFG_EN g) = true ∧ s.hub.hasRes g = true) := by decide

theorem witness_visitsMeasureAndApply_6 :
    (let t := 7;
     let s := inWindow (ticked (given (given (calibrating { refNext := some t }) (CNV_SPARE_STAT_STATE 0) 0) (CNV_SPARE_STAT_REASON 0) 1));
     let g := 0; let c := 3; let r := s.hub.rotation g; s.hub.awake ∧ g < 32 ∧ c < 512 ∧ c / 16 = g ∧ s.hub.boot.stalled = false
     ∧ s.hub.mt.lastEdge = some s.hub.now ∧ r.refNext = some t ∧ r.excNext = none ∧ s.hub.laterWindow r.refAt = true) ∧
    (let t := 7;
     let s := inWindow (ticked (given (given (calibrating { excNext := some t }) (CNV_SPARE_STAT_STATE 0) 0) (CNV_SPARE_STAT_REASON 0) 1));
     let g := 0; let c := 3; let r := s.hub.rotation g; s.hub.awake ∧ g < 32 ∧ c < 512 ∧ c / 16 = g ∧ s.hub.boot.stalled = false
     ∧ s.hub.mt.lastEdge = some s.hub.now ∧ r.excNext = some t ∧ r.refNext = none ∧ s.hub.laterWindow r.excAt = true) := by decide +kernel

theorem witness_otherCalibration_1 :
    (let h := (given (calibrating {}) (CNV_ADC_STAT_IN_SERVICE 15) 1).hub;
     let s : State := { hub := { h with cal := { stages := [(15, 1024)] } } }; let a := 15; s.hub.awake ∧ s.hub.boot.stalled = false
     ∧ a < 16 ∧ s.hub.flag (CNV_ADC_STAT_IN_SERVICE a) = true ∧ 1024 ≤ SMap.get (fun _ => 0) s.hub.cal.stages a) ∧
    (let s := given (calibrating {}) (CNV_ADC_STAT_IN_SERVICE 15) 1; let a := 15; let code := 6; s.hub.awake
     ∧ s.hub.boot.stalled = false ∧ a < 16 ∧ s.hub.flag (CNV_ADC_STAT_IN_SERVICE a) = true ∧ 1 ≤ code ∧ code ≤ 6) ∧
    (let s := calibrating {}; let item := itemRef; let index := 4; s.hub.awake ∧ s.hub.boot.stalled = false ∧ Hub.aged item index = true
     ∧ Hub.ageKey item index ∉ s.hub.cal.stale ∧ item ≠ itemCoef) := by decide

theorem witness_otherCalibration_2 :
    (let s := calibrating {}; let n := 543; s.hub.awake ∧ s.hub.boot.stalled = false ∧ n < 544 ∧ Hub.ageKey itemCoef n ∉ s.hub.cal.stale) ∧
    (let s : State := { hub := { (calibrating {}).hub with cal := { stale := [Hub.ageKey itemRef 4] } } }; let item := itemRef;
     let index := 4; s.hub.awake ∧ s.hub.boot.stalled = false ∧ Hub.ageKey item index ∈ s.hub.cal.stale) ∧
    (let s : State := { hub := { (calibrating {}).hub with cal := { pass := some (0, 5), since := [(Hub.ageKey itemCoef 3, 5)] } } };
     let cause := 0; let t := 5; s.hub.awake ∧ s.hub.boot.stalled = false ∧ s.hub.cal.pass = some (cause, t)
     ∧ s.hub.allVisited t = true) ∧
    (let s := given (given (calibrating {}) PWR_DOM_STAT_FIA 1) FI_STAT_FADC_OK 15; let i := 3; let tap := 63; s.hub.awake
     ∧ s.hub.boot.stalled = false ∧ s.hub.fiaOn = true ∧ i < 4 ∧ tap < 64) := by decide +kernel

theorem witness_otherCalibration_3 :
    (let s := given (given (calibrating {}) PWR_DOM_STAT_FIA 1) FI_STAT_FADC_OK 15; let i := 3; let code := 6; s.hub.awake
     ∧ s.hub.boot.stalled = false ∧ s.hub.fiaOn = true ∧ i < 4 ∧ 1 ≤ code ∧ code ≤ 6 ∧ bit (s.hub.fld FI_STAT_FADC_OK) i = true) ∧
    (let h := (given (given (calibrating {}) PWR_DOM_STAT_FIA 1) FI_STAT_FADC_OK 15).hub;
     let s : State := { hub := { h with fi := { group0 := 8 * 65536 } } }; let q := 1; s.hub.awake ∧ s.hub.boot.stalled = false
     ∧ s.hub.fiaOn = true ∧ q < 2 ∧ SMap.get (fun _ => 0) s.hub.fi.iqAt q + 1024 ≤ s.hub.fi.group0) ∧
    (let h := (given (given (calibrating {}) PWR_DOM_STAT_FIA 1) FI_STAT_FADC_OK 15).hub;
     let s : State := { hub := { h with fi := { group0 := 8 * 65536 } } }; let das := 1023; let dts := 255; s.hub.awake
     ∧ s.hub.boot.stalled = false ∧ s.hub.fiaOn = true ∧ das < 1024 ∧ dts < 256 ∧ s.hub.fi.rangeAt + 65536 ≤ s.hub.fi.group0
     ∧ 8 * 65536 ≤ s.hub.fi.group0) := by decide +kernel

theorem witness_resetAndPowerOn :
    (let edges := 99; edges < 100) ∧
    (let s := inTrack; s.hub.pwr.por = false ∧ s.hub.pwr.cut = false ∧ s.hub.pwr.shutdown = false) ∧
    (let s : State := { hub := { inTrack.hub with pwr := { por := true } } }; let va := 3300; let vb := 0; s.hub.pwr.por = true
     ∧ (feedInRange va = true ∨ feedInRange vb = true) ∧ va < 4096 ∧ vb < 4096) := by decide

theorem witness_bootEnds_1 :
    (let s := inReset {}; let us := 2 ^ 20 - 1; let nvmUs := 2 ^ 20 - 1; us < 2 ^ 20 ∧ nvmUs < 2 ^ 20 ∧ s.hub.awake
     ∧ (s.hub.fld DEV_STATE_STEP = 0 ∨ s.hub.fld DEV_STATE_STEP = 9) ∧ s.hub.boot.fuses.burned = 0
     ∧ s.hub.boot.fuses.retired = false) ∧
    (let s := inReset { retired := true }; let us := 2 ^ 20 - 1; let nvmUs := 2 ^ 20 - 1; us < 2 ^ 20 ∧ nvmUs < 2 ^ 20 ∧ s.hub.awake
     ∧ (s.hub.fld DEV_STATE_STEP = 0 ∨ s.hub.fld DEV_STATE_STEP = 9) ∧ s.hub.boot.fuses.retired = true) := by decide

theorem witness_bootEnds_2 :
    (let s := inReset { burned := 64 }; let us := 2 ^ 20 - 1; let nvmUs := 2 ^ 20 - 1; us < 2 ^ 20 ∧ nvmUs < 2 ^ 20 ∧ s.hub.awake
     ∧ (s.hub.fld DEV_STATE_STEP = 0 ∨ s.hub.fld DEV_STATE_STEP = 9) ∧ s.hub.boot.fuses.burned ≠ 0 ∧ s.hub.boot.fuses.burned ≤ 64
     ∧ s.hub.boot.fuses.retired = false) ∧
    (let s := acquiring 1; let us := 0; let nvmUs := 0; us < 2 ^ 20 ∧ nvmUs < 2 ^ 20 ∧ s.hub.awake ∧ s.hub.fld DEV_STATE_STEP ∉ [0, 9]) := by decide

theorem witness_updateWindow_1 :
    (let s := updating 6 0 {}; let p := Path.mc; let st := s.hub.fld BOOT_UPD_STAT_STATE; s.hub.awake ∧ s.hub.livePath p
     ∧ s.hub.boot.stalled = false ∧ s.hub.fld BOOT_UPD_STAT_STATE ≤ 6 ∧ st ∈ [0, 2, 5, 6]) ∧
    (let s := updating 1 0 {}; let p := Path.mc; let st := s.hub.fld BOOT_UPD_STAT_STATE; s.hub.awake ∧ s.hub.livePath p
     ∧ s.hub.boot.stalled = false ∧ s.hub.fld BOOT_UPD_STAT_STATE ≤ 6 ∧ st = 1) ∧
    (let s := updating 2 0x00FEFF00 {}; let p := Path.mc; let st := s.hub.fld BOOT_UPD_STAT_STATE;
     let off := s.hub.fld BOOT_UPD_OFFSET_OFFSET; s.hub.awake ∧ s.hub.livePath p ∧ s.hub.boot.stalled = false
     ∧ s.hub.fld BOOT_UPD_STAT_STATE ≤ 6 ∧ st = 2 ∧ off % 256 = 0 ∧ off < 0x00FF0000 ∧ off ∉ s.hub.boot.pages) := by decide

theorem witness_updateWindow_2 :
    (let s := updating 2 0x00FF0000 {}; let p := Path.mc; let st := s.hub.fld BOOT_UPD_STAT_STATE;
     let off := s.hub.fld BOOT_UPD_OFFSET_OFFSET; s.hub.awake ∧ s.hub.livePath p ∧ s.hub.boot.stalled = false
     ∧ s.hub.fld BOOT_UPD_STAT_STATE ≤ 6 ∧ st = 2 ∧ (off % 256 ≠ 0 ∨ 0x00FF0000 ≤ off)) ∧
    (let s := updating 2 0x00FEFF00 { pages := [0x00FEFF00] }; let p := Path.mc; let st := s.hub.fld BOOT_UPD_STAT_STATE;
     let off := s.hub.fld BOOT_UPD_OFFSET_OFFSET; s.hub.awake ∧ s.hub.livePath p ∧ s.hub.boot.stalled = false
     ∧ s.hub.fld BOOT_UPD_STAT_STATE ≤ 6 ∧ st = 2 ∧ off % 256 = 0 ∧ off < 0x00FF0000 ∧ off ∈ s.hub.boot.pages) := by decide

theorem witness_updateWindow_3 :
    (let s := updating 3 0 { page := some (0, List.replicate 256 0) }; let p := Path.mc; let at_ := 0;
     let bytes : List Byte := List.replicate 256 0; let st := s.hub.fld BOOT_UPD_STAT_STATE; s.hub.awake ∧ s.hub.livePath p
     ∧ s.hub.boot.stalled = false ∧ s.hub.fld BOOT_UPD_STAT_STATE ≤ 6 ∧ st = 3 ∧ s.hub.boot.page = some (at_, bytes)
     ∧ bytes.length = 256) ∧
    (let s := updating 3 0 { page := some (0, List.replicate 256 0) }; let p := Path.mc; let at_ := 0;
     let bytes : List Byte := List.replicate 256 0; let i := 255; let x := 1; let st := s.hub.fld BOOT_UPD_STAT_STATE; s.hub.awake
     ∧ s.hub.livePath p ∧ s.hub.boot.stalled = false ∧ s.hub.fld BOOT_UPD_STAT_STATE ≤ 6 ∧ st = 3
     ∧ s.hub.boot.page = some (at_, bytes) ∧ bytes.length = 256 ∧ i < 256 ∧ bytes[i]? ≠ some x) := by decide +kernel

theorem witness_updateWindow_4 :
    (let s := updating 2 0 {}; let p := Path.mc; let st := s.hub.fld BOOT_UPD_STAT_STATE; s.hub.awake ∧ s.hub.livePath p
     ∧ s.hub.boot.stalled = false ∧ s.hub.fld BOOT_UPD_STAT_STATE ≤ 6 ∧ st = 2) ∧
    (let s := updating 4 0 {}; let p := Path.mc; let st := s.hub.fld BOOT_UPD_STAT_STATE; s.hub.awake ∧ s.hub.livePath p
     ∧ s.hub.boot.stalled = false ∧ s.hub.fld BOOT_UPD_STAT_STATE ≤ 6 ∧ st = 4) ∧
    (let s := updating 6 0 {}; let p := Path.mc; let st := s.hub.fld BOOT_UPD_STAT_STATE; s.hub.awake ∧ s.hub.livePath p
     ∧ s.hub.boot.stalled = false ∧ s.hub.fld BOOT_UPD_STAT_STATE ≤ 6 ∧ st ≠ 0) := by decide

theorem witness_updateWindow_5 :
    (let s := updating 4 0 {}; let p := Path.mc; let st := s.hub.fld BOOT_UPD_STAT_STATE; s.hub.awake ∧ s.hub.livePath p
     ∧ s.hub.boot.stalled = false ∧ s.hub.fld BOOT_UPD_STAT_STATE ≤ 6 ∧ st ∈ [1, 3, 4]) ∧
    (let s := updating 5 0 {}; let p := Path.mc; let st := s.hub.fld BOOT_UPD_STAT_STATE; s.hub.awake ∧ s.hub.livePath p
     ∧ s.hub.boot.stalled = false ∧ s.hub.fld BOOT_UPD_STAT_STATE ≤ 6 ∧ st ∈ [0, 5, 6]) ∧
    (let s := updating 0 0 {}; let p := Path.mc; let st := s.hub.fld BOOT_UPD_STAT_STATE; s.hub.awake ∧ s.hub.livePath p
     ∧ s.hub.boot.stalled = false ∧ s.hub.fld BOOT_UPD_STAT_STATE ≤ 6 ∧ st = 0) := by decide

theorem witness_lifeCycleAndPort_1 :
    (let s := given (acquiring 1) DEV_STATE_LC 1; let p := Path.mc; let v : Word := 0x2D000000; s.hub.awake ∧ s.hub.livePath p
     ∧ s.hub.lcAllowed v = true) ∧
    (let s := given (acquiring 1) DEV_STATE_LC 1; let v : Word := 0x20000000; s.hub.awake ∧ s.hub.livePath .mc
     ∧ s.hub.lcAllowed v = false) ∧
    (let s := given (acquiring 1) DEV_STATE_LC 1; s.hub.awake ∧ s.hub.fld DEV_STATE_STEP ∈ [1, 2, 3, 4, 5, 6, 7]) ∧
    (let s : State := { hub := { (acquiring 1).hub with boot := { stalled := true } } }; s.hub.awake ∧ s.hub.boot.stalled = true
     ∧ s.hub.cal.journalDue = [] ∧ s.hub.fld BOOT_UPD_STAT_STATE ≠ 1 ∧ s.hub.boot.eraseDue = none) := by decide

theorem witness_lifeCycleAndPort_2 :
    (let b := 1; let s : State := { hub := { (acquiring 1).hub with boot := { stalled := true, eraseDue := some 1 } } }; s.hub.awake
     ∧ s.hub.boot.stalled = true ∧ s.hub.cal.journalDue = [] ∧ s.hub.fld BOOT_UPD_STAT_STATE ≠ 1 ∧ b < 2
     ∧ s.hub.boot.eraseDue = some b) ∧
    (let s := given (acquiring 1) DEV_STATE_LC 4; s.hub.awake ∧ (s.hub.lc = 2 ∨ s.hub.lc = 4)) ∧
    (let s := given (acquiring 1) DEV_STATE_LC 3; s.hub.awake ∧ s.hub.lc ≠ 2 ∧ s.hub.lc ≠ 4) ∧
    (let s := given (acquiring 1) DEV_STATE_LC 3; s.hub.awake ∧ s.hub.lc ≠ 2 ∧ s.hub.lc ≠ 4 ∧ s.hub.fld DEV_STATE_STEP ∉ [0, 9]) := by decide

theorem witness_pairSignals_1 :
    (let s := pairing 1 {}; let r := 4; let st := 0; let u := false; let ep := 0; let ck := 0; let mt := 0; let lt := 0;
     let eof := twinCrc (heartbeatBlocks r st u ep ck mt lt) + 1; s.hub.awake ∧ s.hub.paired = true
     ∧ twinCrc (heartbeatBlocks r st u ep ck mt lt) ≠ eof) ∧
    (let s := pairing 2 {}; let r := 4; let u := false; let role := s.hub.fld TWN_STAT_ROLE; let unit := s.hub.fld TWN_STAT_UNIT;
     s.hub.awake ∧ s.hub.paired = true ∧ role = 2 ∧ r < 8 ∧ ofBool u = unit) ∧
    (let s := pairing 2 {}; let r := 4; let u := true; let ep := 5; let role := s.hub.fld TWN_STAT_ROLE;
     let unit := s.hub.fld TWN_STAT_UNIT; s.hub.awake ∧ s.hub.paired = true ∧ role = 2 ∧ r < 8 ∧ ofBool u ≠ unit
     ∧ (r = 3 ∨ r = 4 ∨ r = 6) ∧ ep < 2 ^ 32 ∧ ep ≠ s.hub.fld TWN_EPOCH_EPOCH) := by decide +kernel

theorem witness_pairSignals_2 :
    (let s := pairing 1 {}; let r := 4; let role := s.hub.fld TWN_STAT_ROLE; s.hub.awake ∧ s.hub.paired = true ∧ role = 1
     ∧ s.hub.twn.duty ≠ some true ∧ (r = 3 ∨ r = 4)) ∧
    (let s := pairing 1 {}; let r := 1; let u := false; let role := s.hub.fld TWN_STAT_ROLE; let unit := s.hub.fld TWN_STAT_UNIT;
     s.hub.awake ∧ s.hub.paired = true ∧ role = 1 ∧ s.hub.twn.duty ≠ some true ∧ r = 1 ∧ ofBool u = unit
     ∧ s.hub.fld TWN_STAT_MM_CAUSE ≠ 3) ∧
    (let s := pairing 1 {}; let r := 1; let u := true; let role := s.hub.fld TWN_STAT_ROLE; let unit := s.hub.fld TWN_STAT_UNIT;
     s.hub.awake ∧ s.hub.paired = true ∧ role = 1 ∧ s.hub.twn.duty ≠ some true ∧ (r = 1 ∧ ofBool u ≠ unit) ∨ r = 2) := by decide

theorem witness_pairSignals_3 :
    (let s := pairing 1 {}; let role := s.hub.fld TWN_STAT_ROLE; s.hub.awake ∧ s.hub.paired = true ∧ role = 1 ∧ s.hub.twn.beats = 0
     ∧ s.hub.flag TWN_STAT_ALIVE_OK = false) ∧
    (let s := given (given (pairing 1 { duty := some false }) TWN_STAT_ALIVE_OK 1) TWN_STAT_UNIT 1; let role := s.hub.fld TWN_STAT_ROLE;
     let unit := s.hub.fld TWN_STAT_UNIT; s.hub.awake ∧ s.hub.paired = true ∧ role = 1 ∧ s.hub.twn.beats = 0
     ∧ s.hub.flag TWN_STAT_ALIVE_OK = true ∧ s.hub.twn.duty = some false ∧ unit = 1) ∧
    (let s := given (pairing 1 { duty := some false }) TWN_STAT_ALIVE_OK 1; let role := s.hub.fld TWN_STAT_ROLE;
     let unit := s.hub.fld TWN_STAT_UNIT; s.hub.awake ∧ s.hub.paired = true ∧ role = 1 ∧ s.hub.twn.beats = 0
     ∧ s.hub.flag TWN_STAT_ALIVE_OK = true ∧ s.hub.twn.duty = some false ∧ unit = 0) := by decide

theorem witness_pairSignals_4 :
    (let s := pairing 4 {}; let r := 7; let role := s.hub.fld TWN_STAT_ROLE; s.hub.awake ∧ s.hub.paired = true ∧ role = 4 ∧ r < 8
     ∧ s.hub.flag TWN_STAT_LINK_UP = false) ∧
    (let s := pairing 4 {}; let serial := 2 ^ 64 - 1; let role := s.hub.fld TWN_STAT_ROLE; s.hub.awake ∧ s.hub.paired = true ∧ role = 4
     ∧ serial < 2 ^ 64) ∧
    (let s := pairing 2 {}; let digest : List Word := []; let role := s.hub.fld TWN_STAT_ROLE; s.hub.awake ∧ s.hub.paired = true
     ∧ role = 2 ∧ digest ≠ (List.range 8).map (fun i => s.hub.reg (BOOT_DIGEST i))) ∧
    (let s := given (pairing 4 {}) TWN_STAT_LINK_UP 1; let role := s.hub.fld TWN_STAT_ROLE; s.hub.awake ∧ s.hub.paired = true ∧ role = 4
     ∧ s.hub.flag TWN_STAT_LINK_UP = true ∧ s.hub.twn.swap.held = false) := by decide +kernel

theorem witness_pairSignals_5 :
    (let s := given (given (pairing 2 {}) TWN_STAT_ALIVE_OK 1) TWN_STAT_MIRROR 2; let role := s.hub.fld TWN_STAT_ROLE; s.hub.awake
     ∧ s.hub.paired = true ∧ role = 2 ∧ s.hub.flag TWN_STAT_ALIVE_OK = true ∧ s.hub.fld TWN_STAT_MIRROR = 2
     ∧ s.hub.twn.swap.held = false) ∧
    (let s := given (pairing 4 {}) TWN_STAT_ALIVE_OK 1; let role := s.hub.fld TWN_STAT_ROLE; s.hub.awake ∧ s.hub.paired = true
     ∧ role = 4 ∧ s.hub.flag TWN_STAT_ALIVE_OK = true) ∧
    (let s := pairing 4 {}; let role := s.hub.fld TWN_STAT_ROLE; s.hub.awake ∧ s.hub.paired = true ∧ role = 4
     ∧ s.hub.flag TWN_STAT_ALIVE_OK = false) ∧
    (let s := pairing 4 {}; let role := s.hub.fld TWN_STAT_ROLE; let unit := s.hub.fld TWN_STAT_UNIT; s.hub.awake ∧ s.hub.paired = true
     ∧ role = 4 ∧ unit = 0) := by decide +kernel

theorem witness_pairSignals_6 :
    (let s := given (pairing 4 {}) TWN_STAT_UNIT 1; let role := s.hub.fld TWN_STAT_ROLE; let unit := s.hub.fld TWN_STAT_UNIT;
     s.hub.awake ∧ s.hub.paired = true ∧ role = 4 ∧ unit = 1 ∧ s.hub.twn.swap.held = false) := by decide

theorem witness_checkpoints_1 :
    (let s := pairing 4 {}; let role := s.hub.fld TWN_STAT_ROLE; s.hub.awake ∧ s.hub.paired = true ∧ s.hub.boot.stalled = false
     ∧ s.hub.twn.buffer ≤ 1 ∧ role = 4 ∧ s.hub.twn.swap.past = false ∧ s.hub.passTime.stillSending = false) ∧
    (let c : Ckpt := { number := 6 }; let s := pairing 4 { sending := some c }; let r := 2; s.hub.awake ∧ s.hub.paired = true
     ∧ s.hub.boot.stalled = false ∧ s.hub.twn.buffer ≤ 1 ∧ s.hub.twn.sending = some c ∧ c.number < 2 ^ 31 ∧ r ≠ 0) ∧
    (let c : Ckpt := { number := 2 ^ 31 - 1 }; let s := pairing 4 { sending := some c }; let n := 5; s.hub.awake ∧ s.hub.paired = true
     ∧ s.hub.boot.stalled = false ∧ s.hub.twn.buffer ≤ 1 ∧ s.hub.twn.sending = some c ∧ c.number < 2 ^ 31 ∧ n ≠ c.number) := by decide

theorem witness_checkpoints_2 :
    (let s := pairing 2 {}; let off := 0xFFFF; let content : List (BitVec 8) := [0]; let role := s.hub.fld TWN_STAT_ROLE; s.hub.awake
     ∧ s.hub.paired = true ∧ s.hub.boot.stalled = false ∧ s.hub.twn.buffer ≤ 1 ∧ role = 2 ∧ off + content.length ≤ 0x10000) ∧
    (let s := pairing 2 {}; let off := 0x1FFFF; let content : List (BitVec 8) := [0]; let role := s.hub.fld TWN_STAT_ROLE; s.hub.awake
     ∧ s.hub.paired = true ∧ s.hub.boot.stalled = false ∧ s.hub.twn.buffer ≤ 1 ∧ role = 2 ∧ off + content.length ≤ 0x20000) ∧
    (let s := pairing 2 {}; let slice := true; let off := 0x20000; let content : List (BitVec 8) := [0];
     let role := s.hub.fld TWN_STAT_ROLE; s.hub.awake ∧ s.hub.paired = true ∧ s.hub.boot.stalled = false ∧ s.hub.twn.buffer ≤ 1
     ∧ role = 2 ∧ (if slice then 0x20000 else 0x10000) < off + content.length) := by decide +kernel

theorem witness_checkpoints_3 :
    (let s := pairing 2 { arriving := some 7, got := [(0, 4)] }; let n := 7; let size := 4; let crc := crc32c [0, 0, 0, 0];
     let role := s.hub.fld TWN_STAT_ROLE; let base := 0x44000000 + 0x10000 * (1 - s.hub.twn.buffer);
     let bytes := (List.range size).map fun i => s.hub.plainByte (base + i);
     let whole := s.hub.twn.arriving = some n ∧ covers s.hub.twn.got size = true; s.hub.awake ∧ s.hub.paired = true
     ∧ s.hub.boot.stalled = false ∧ s.hub.twn.buffer ≤ 1 ∧ role = 2 ∧ s.hub.twn.swap.held = false ∧ whole ∧ crc32c bytes = crc
     ∧ n < 2 ^ 31) ∧
    (let s := pairing 2 { arriving := some 7, got := [(0, 3)] }; let n := 7; let size := 4; let crc := 0;
     let role := s.hub.fld TWN_STAT_ROLE; let base := 0x44000000 + 0x10000 * (1 - s.hub.twn.buffer);
     let bytes := (List.range size).map fun i => s.hub.plainByte (base + i);
     let whole := s.hub.twn.arriving = some n ∧ covers s.hub.twn.got size = true; s.hub.awake ∧ s.hub.paired = true
     ∧ s.hub.boot.stalled = false ∧ s.hub.twn.buffer ≤ 1 ∧ role = 2 ∧ s.hub.twn.swap.held = false ∧ (¬ whole ∨ crc32c bytes ≠ crc)) := by decide +kernel

theorem witness_checkpoints_4 :
    (let s := given (pairing 2 {}) TWN_STAT_MIRROR 2; let role := s.hub.fld TWN_STAT_ROLE; s.hub.awake ∧ s.hub.paired = true
     ∧ s.hub.boot.stalled = false ∧ s.hub.twn.buffer ≤ 1 ∧ role = 2 ∧ s.hub.fld TWN_STAT_MIRROR = 2) ∧
    (let s := pairing 2 { skipped := 1 }; s.hub.awake ∧ s.hub.paired = true ∧ s.hub.boot.stalled = false ∧ s.hub.twn.buffer ≤ 1
     ∧ s.hub.twn.skipped + s.hub.twn.bad ≠ 0) := by decide

theorem witness_takeovers_1 :
    (let s := given (given (pairing 2 {}) TWN_STAT_ALIVE_OK 1) TWN_STAT_MIRROR 1; let role := s.hub.fld TWN_STAT_ROLE;
     let m := s.hub.fld TWN_STAT_MIRROR; s.hub.awake ∧ s.hub.paired = true ∧ role = 2 ∧ s.hub.twn.beats = 0
     ∧ s.hub.flag TWN_STAT_ALIVE_OK = true ∧ m ≠ 0) ∧
    (let s := given (pairing 2 {}) TWN_STAT_ALIVE_OK 1; let role := s.hub.fld TWN_STAT_ROLE; let m := s.hub.fld TWN_STAT_MIRROR;
     s.hub.awake ∧ s.hub.paired = true ∧ role = 2 ∧ s.hub.twn.beats = 0 ∧ s.hub.flag TWN_STAT_ALIVE_OK = true ∧ m = 0) ∧
    (let s := pairing 3 {}; s.hub.awake ∧ s.hub.paired = true ∧ 0 < s.hub.spt) := by decide +kernel

theorem witness_takeovers_2 :
    (let s := pairing 3 { takeover := some (0, 0, 800, true) }; let d : Int := 0; let lt := 0; let at_ : Int := 800;
     let current := true; let role := s.hub.fld TWN_STAT_ROLE; s.hub.awake ∧ s.hub.paired = true ∧ role = 3
     ∧ s.hub.twn.takeover = some (d, lt, at_, current)) := by decide

theorem witness_plannedSwap_1 :
    (let s := given (given (pairing 4 { partnerMirror := 2 }) TWN_STAT_DIGEST_MATCH 1) TWN_STAT_LINK_UP 1; let p := Path.mc;
     let role := s.hub.fld TWN_STAT_ROLE; let w := s.hub.twn.swap; s.hub.awake ∧ s.hub.paired = true ∧ s.hub.boot.stalled = false
     ∧ s.hub.livePath p ∧ role = 4 ∧ w.held = false ∧ s.hub.twn.partnerMirror = 2 ∧ s.hub.flag TWN_STAT_DIGEST_MATCH = true
     ∧ s.hub.flag TWN_STAT_LINK_UP = true) ∧
    (let s := given (pairing 4 { partnerMirror := 2 }) TWN_STAT_DIGEST_MATCH 1; let p := Path.mc; let cause := 4;
     let role := s.hub.fld TWN_STAT_ROLE; let w := s.hub.twn.swap; s.hub.awake ∧ s.hub.paired = true ∧ s.hub.boot.stalled = false
     ∧ s.hub.livePath p ∧ role = 4 ∧ w.held = false
     ∧ (s.hub.twn.partnerMirror ≠ 2 ∧ cause = 2) ∨ (s.hub.twn.partnerMirror = 2 ∧ s.hub.flag TWN_STAT_DIGEST_MATCH = false ∧ cause = 3) ∨ (s.hub.twn.partnerMirror = 2 ∧ s.hub.flag TWN_STAT_DIGEST_MATCH = true ∧ s.hub.flag TWN_STAT_LINK_UP = false ∧ cause = 4)) := by decide +kernel

theorem witness_plannedSwap_2 :
    (let s := pairing 4 { partnerMirror := 2 }; let p := Path.mc; let cause := 3; let role := s.hub.fld TWN_STAT_ROLE;
     let w := s.hub.twn.swap; s.hub.awake ∧ s.hub.paired = true ∧ s.hub.boot.stalled = false ∧ s.hub.livePath p ∧ role = 4
     ∧ w.held = false
     ∧ (s.hub.twn.partnerMirror ≠ 2 ∧ cause = 2) ∨ (s.hub.twn.partnerMirror = 2 ∧ s.hub.flag TWN_STAT_DIGEST_MATCH = false ∧ cause = 3) ∨ (s.hub.twn.partnerMirror = 2 ∧ s.hub.flag TWN_STAT_DIGEST_MATCH = true ∧ s.hub.flag TWN_STAT_LINK_UP = false ∧ cause = 4)) ∧
    (let s := pairing 4 {}; let p := Path.mc; let cause := 2; let role := s.hub.fld TWN_STAT_ROLE; let w := s.hub.twn.swap; s.hub.awake
     ∧ s.hub.paired = true ∧ s.hub.boot.stalled = false ∧ s.hub.livePath p ∧ role = 4 ∧ w.held = false
     ∧ (s.hub.twn.partnerMirror ≠ 2 ∧ cause = 2) ∨ (s.hub.twn.partnerMirror = 2 ∧ s.hub.flag TWN_STAT_DIGEST_MATCH = false ∧ cause = 3) ∨ (s.hub.twn.partnerMirror = 2 ∧ s.hub.flag TWN_STAT_DIGEST_MATCH = true ∧ s.hub.flag TWN_STAT_LINK_UP = false ∧ cause = 4)) := by decide

theorem witness_plannedSwap_3 :
    (let s := given (pairing 2 { mirror := some {} }) TWN_STAT_MIRROR 2; let role := s.hub.fld TWN_STAT_ROLE; s.hub.awake
     ∧ s.hub.paired = true ∧ s.hub.boot.stalled = false ∧ role = 2 ∧ s.hub.fld TWN_STAT_MIRROR = 2 ∧ s.hub.twn.mirror.isSome = true) ∧
    (let s := sound (given (pairing 5 { swap := {} }) TWN_SWAP_STAT_STATE 1); let role := s.hub.fld TWN_STAT_ROLE; s.hub.awake
     ∧ s.hub.paired = true ∧ s.hub.boot.stalled = false ∧ role = 5 ∧ s.hub.fld TWN_SWAP_STAT_STATE = 1 ∧ s.hub.unitsSound = true) ∧
    (let s := given (pairing 5 { swap := {} }) TWN_SWAP_STAT_STATE 1; let ok := true; let role := s.hub.fld TWN_STAT_ROLE;
     let w := s.hub.twn.swap; s.hub.awake ∧ s.hub.paired = true ∧ s.hub.boot.stalled = false ∧ role = 5
     ∧ s.hub.fld TWN_SWAP_STAT_STATE = 1 ∧ w.past = false ∧ (ok = false ∨ s.hub.unitsSound = false)) := by decide +kernel

theorem witness_plannedSwap_4 :
    (let s := given (pairing 6 { swap := {} }) TWN_SWAP_STAT_STATE 1; let role := s.hub.fld TWN_STAT_ROLE; s.hub.awake
     ∧ s.hub.paired = true ∧ s.hub.boot.stalled = false ∧ role = 6 ∧ s.hub.fld TWN_SWAP_STAT_STATE = 1 ∧ 0 < s.hub.spt) ∧
    (let s := given (pairing 5 { swap := { prepared := true } }) TWN_SWAP_STAT_STATE 2; let role := s.hub.fld TWN_STAT_ROLE;
     let w := s.hub.twn.swap; s.hub.awake ∧ s.hub.paired = true ∧ s.hub.boot.stalled = false ∧ role = 5 ∧ w.prepared = true) ∧
    (let s := given (pairing 6 { swap := {} }) TWN_SWAP_STAT_STATE 1; let cause := 31; let role := s.hub.fld TWN_STAT_ROLE;
     let w := s.hub.twn.swap; s.hub.awake ∧ s.hub.paired = true ∧ s.hub.boot.stalled = false ∧ cause < 32 ∧ w.past = false
     ∧ (role = 6 ∨ role = 5)) := by decide

theorem witness_plannedSwap_5 :
    (let t : Int := 100000; let s := given (pairing 6 { swap := { h := some t } }) TWN_SWAP_STAT_STATE 3;
     let role := s.hub.fld TWN_STAT_ROLE; let w := s.hub.twn.swap; s.hub.awake ∧ s.hub.paired = true ∧ s.hub.boot.stalled = false
     ∧ w.h = some t ∧ w.past = false ∧ s.hub.now ≤ t ∧ role = 6) ∧
    (let t : Int := 100000; let s := given (pairing 5 { swap := { h := some t } }) TWN_SWAP_STAT_STATE 3;
     let role := s.hub.fld TWN_STAT_ROLE; let w := s.hub.twn.swap; s.hub.awake ∧ s.hub.paired = true ∧ s.hub.boot.stalled = false
     ∧ w.h = some t ∧ w.past = false ∧ s.hub.now ≤ t ∧ role = 5) := by decide

theorem witness_plannedSwap_6 :
    (let s := given (pairing 4 { swap := { past := true, held := true } }) TWN_SWAP_STAT_STATE 4; let role := s.hub.fld TWN_STAT_ROLE;
     let w := s.hub.twn.swap; s.hub.awake ∧ s.hub.paired = true ∧ s.hub.boot.stalled = false ∧ s.hub.noneWaits ∧ role = 4
     ∧ w.past = true ∧ w.held = true) ∧
    (let s := given (pairing 6 { swap := { past := true } }) TWN_SWAP_STAT_STATE 3; let role := s.hub.fld TWN_STAT_ROLE;
     let w := s.hub.twn.swap; s.hub.awake ∧ s.hub.paired = true ∧ s.hub.boot.stalled = false ∧ role = 6 ∧ w.past = true) := by decide

theorem witness_feedsAndRails_1 :
    (let s := given inTrack PWR_FEED_STAT_SEL 0; let mv := 2800; let other := 3300; let sel := s.hub.fld PWR_FEED_STAT_SEL;
     s.hub.pwr.por = false ∧ feedFailed mv = true ∧ mv < 4096 ∧ other < 4096 ∧ feedGood other = true
     ∧ bit s.hub.pwr.isolated (1 - sel) = false) ∧
    (let s := given inTrack PWR_FEED_STAT_SEL 0; let mv := 2800; let other := 2800; let sel := s.hub.fld PWR_FEED_STAT_SEL;
     s.hub.pwr.por = false ∧ feedFailed mv = true ∧ mv < 4096 ∧ other < 4096
     ∧ (feedGood other = false ∨ bit s.hub.pwr.isolated (1 - sel) = true)) ∧
    (let s := given inTrack PWR_FEED_STAT_SEL 1; let mv := 3300; let sel := s.hub.fld PWR_FEED_STAT_SEL;
     let test := s.hub.flag PWR_FEED_STAT_TEST; s.hub.pwr.por = false ∧ sel = 1 ∧ test = false ∧ feedInRange mv = true) ∧
    (let s := given inTrack PWR_FEED_STAT_SEL 0; let va := 4095; let vb := 0; s.hub.pwr.por = false ∧ va < 4096 ∧ vb < 4096) ∧
    (let s := given inTrack PWR_FEED_STAT_SEL 0; let feed := 1; let mv := 3801; let sel := s.hub.fld PWR_FEED_STAT_SEL;
     s.hub.pwr.por = false ∧ feed < 2 ∧ feed ≠ sel ∧ 3800 < mv ∧ mv < 4096) ∧
    (let s := given inTrack PWR_FEED_STAT_SEL 1; let mv := 4095; let other := 3300; let sel := s.hub.fld PWR_FEED_STAT_SEL;
     s.hub.pwr.por = false ∧ 3800 < mv ∧ mv < 4096 ∧ feedGood other = true ∧ bit s.hub.pwr.isolated (1 - sel) = false) := by decide

theorem witness_feedsAndRails_2 :
    (let s := given (given (given (acquiring 1) PWR_FEED_STAT_A_OK 1) PWR_FEED_STAT_B_OK 1) PWR_FEED_STAT_SEL 0; let p := Path.mc;
     let ms := 65535; let sel := s.hub.fld PWR_FEED_STAT_SEL; let test := s.hub.flag PWR_FEED_STAT_TEST;
     let may := sel = 0 ∧ s.hub.feedOk 0 = true ∧ s.hub.feedOk 1 = true ∧ test = false ∧ s.hub.fld DEV_STATE_STEP = 6;
     s.hub.pwr.por = false ∧ s.hub.awake ∧ s.hub.livePath p ∧ ms < 65536 ∧ may) ∧
    (let s := given (given (given (acquiring 1) PWR_FEED_STAT_A_OK 1) PWR_FEED_STAT_B_OK 1) PWR_FEED_STAT_SEL 1; let p := Path.mc;
     let ms := 65535; let sel := s.hub.fld PWR_FEED_STAT_SEL; let test := s.hub.flag PWR_FEED_STAT_TEST;
     let may := sel = 0 ∧ s.hub.feedOk 0 = true ∧ s.hub.feedOk 1 = true ∧ test = false ∧ s.hub.fld DEV_STATE_STEP = 6;
     s.hub.pwr.por = false ∧ s.hub.awake ∧ s.hub.livePath p ∧ ms < 65536 ∧ (¬ may)) ∧
    (let s := given (given inTrack PWR_FEED_STAT_TEST 1) PWR_FEED_STAT_A_OK 1; let v := 4095; let test := s.hub.flag PWR_FEED_STAT_TEST;
     s.hub.pwr.por = false ∧ v < 4096 ∧ test = true) ∧
    (let s := inTrack; let rail := 1; s.hub.pwr.por = false ∧ rail < 2) ∧
    (let s := inTrack; let rail := 5; s.hub.pwr.por = false ∧ 2 ≤ rail ∧ rail < 6 ∧ bit s.hub.pwr.faulted rail = false) := by decide

theorem witness_feedsAndRails_3 :
    (let s : State := { hub := { (acquiring 1).hub with cnv := { series := some 800 } } }; let p := Path.mc; let word := 1;
     let v : Word := 0; s.hub.pwr.por = false ∧ s.hub.awake ∧ s.hub.livePath p ∧ word < 2 ∧ s.hub.cnv.series.isSome = true
     ∧ s.hub.gateRefused word v = false) ∧
    (let s : State := { hub := { (acquiring 1).hub with mt := {} } }; let p := Path.mc; let word := 1; let v : Word := 0;
     s.hub.pwr.por = false ∧ s.hub.awake ∧ s.hub.livePath p ∧ word < 2 ∧ s.hub.cnv.series = none ∧ s.hub.mt.anchored = false
     ∧ s.hub.gateRefused word v = false) := by decide

theorem witness_feedsAndRails_4 :
    (let s := acquiring 1; let p := Path.mc; let word := 1; s.hub.pwr.por = false ∧ s.hub.awake ∧ s.hub.livePath p ∧ word < 2
     ∧ s.hub.cnv.series = none ∧ s.hub.mt.anchored = true ∧ s.hub.noneWaits ∧ s.hub.fld TWN_STAT_ROLE = 0 ∧ s.hub.pwr.faulted = 0) ∧
    (let v : Word := 1; let s : State := { hub := { (acquiring 1).hub with pwr := { domDue := [(0, v)] } } }; let g := 31;
     s.hub.pwr.por = false ∧ s.hub.mt.anchored = true ∧ s.hub.pwr.domDue = [(0, v)] ∧ s.hub.fld TWN_STAT_ROLE = 0
     ∧ s.hub.pwr.faulted = 0 ∧ g < 32) := by decide

theorem witness_feedsAndRails_5 :
    (let s := given (given (acquiring 1) PWR_DOM_STAT_ENG 1) (SE_ENG_STAT_STATE 0) 1; let v : Word := 0; s.hub.pwr.por = false
     ∧ s.hub.awake ∧ s.hub.livePath .mc ∧ s.hub.gateRefused 1 v = true) := by decide

theorem witness_quiescentAndThermal_1 :
    (let s := acquiring 1; let p := Path.mc; s.hub.awake ∧ s.hub.livePath p ∧ s.hub.fld DEV_STATE_STEP = 6 ∧ s.hub.fld TWN_STAT_ROLE = 0) ∧
    (let s := acquiring 1; let key := 0x150; s.hub.awake ∧ s.hub.livePath .mc ∧ key % 256 ≠ 0x51) ∧
    (let s : State := { hub := { (acquiring 1).hub with pwr := { quiesceDue := true } } }; s.hub.awake ∧ s.hub.pwr.quiesceDue = true
     ∧ s.hub.fld DEV_STATE_STEP = 6 ∧ s.hub.pwr.draining = false ∧ s.hub.noneWaits ∧ 0 < s.hub.spt) := by decide

theorem witness_quiescentAndThermal_2 :
    (let s : State := { hub := { (acquiring 1).hub with pwr := { draining := true } } }; s.hub.awake ∧ s.hub.pwr.draining = true) ∧
    (let s := given (acquiring 1) DEV_STATE_STEP 8; let timer := false; s.hub.pwr.por = false ∧ s.hub.pwr.cut = false
     ∧ s.hub.pwr.shutdown = false ∧ s.hub.fld DEV_STATE_STEP = 8 ∧ (timer = false ∨ s.hub.fld PWR_WAKE_S_S ≠ 0)
     ∧ s.hub.flag TWN_CFG_EN = false) ∧
    (let s := acquiring 1; s.hub.pwr.por = false ∧ s.hub.pwr.cut = false ∧ s.hub.pwr.shutdown = false ∧ s.hub.fld DEV_STATE_STEP ≠ 8) ∧
    (let s := acquiring 1; let tj : Int := 1249; s.hub.pwr.por = false ∧ s.hub.pwr.cut = false ∧ s.hub.pwr.shutdown = false ∧ 1150 ≤ tj
     ∧ tj < 1250) ∧
    (let tj : Int := -500; -500 ≤ tj ∧ tj < 1150) ∧
    (let s : State := { hub := { pwr := { shutdown := true } } }; (s.hub.pwr.shutdown = true ∨ s.hub.pwr.cut = true)) := by decide

theorem witness_stepRunsFront :
    (let c := Instr.flywheelWrap; let rest : List Instr := [.am]; let s : State := { pending := c :: rest }; s.pending = c :: rest) ∧
    (let s : State := {}; s.pending = []) := by decide

theorem witness_darkHub :
    (let s := given (acquiring 1) DEV_STATE_STEP 8; let c := Instr.flywheelWrap; s.hub.passTime.dark = true ∧ c.alwaysOn = false) := by decide

theorem witness_eventRouting_1 :
    (let h := (given (acquiring 1) (EVT_ROUTE_REC 255) 1).hub; let m : MT := {}; let src := 255; let cause := 255;
     let d := List.replicate 8 0; let n := 254; src < 256 ∧ cause < 256 ∧ d.length ≤ 8 ∧ h.lt < 2 ^ 64 ∧ m.pack < 2 ^ 64 ∧ n ≠ src) ∧
    (let h := (given (acquiring 1) (EVT_ROUTE_REC 255) 1).hub; let m : MT := {}; let src := 255; let cause := 255;
     let d := List.replicate 8 0; let rec' := h.flag (EVT_ROUTE_REC src); src < 256 ∧ cause < 256 ∧ d.length ≤ 8 ∧ h.lt < 2 ^ 64
     ∧ m.pack < 2 ^ 64 ∧ rec' = true ∧ h.evt.queue.length < 512 ∧ h.evt.spill = []) ∧
    (let h := (given (acquiring 1) (EVT_ROUTE_REC 255) 1).hub; let w : Word := 0xF0500FE0; let ws : List Word := [];
     let rest : List (Nat × List Word) := []; let h : Hub := { h with evt := { h.evt with spill := [(255, [w])] } };
     let m : MT := {}; let src := 255; let cause := 255; let d := List.replicate 8 0; let rec' := h.flag (EVT_ROUTE_REC src);
     src < 256 ∧ cause < 256 ∧ d.length ≤ 8 ∧ h.lt < 2 ^ 64 ∧ m.pack < 2 ^ 64 ∧ rec' = true ∧ h.evt.spill = (src, w :: ws) :: rest
     ∧ (∀ p ∈ rest, p.1 ≠ src) ∧ bits w.toNat 11 4 < 255) := by decide

theorem witness_eventRouting_2 :
    (let h := (given (acquiring 1) (EVT_ROUTE_REC 255) 0).hub; let m : MT := {}; let src := 255; let cause := 255;
     let d := List.replicate 8 0; let rec' := h.flag (EVT_ROUTE_REC src); src < 256 ∧ cause < 256 ∧ d.length ≤ 8 ∧ h.lt < 2 ^ 64
     ∧ m.pack < 2 ^ 64 ∧ rec' = false) ∧
    (let h := (given (acquiring 1) (EVT_ROUTE_FW 255) 1).hub; let m : MT := {}; let src := 255; let cause := 255;
     let d := List.replicate 8 0; let fw := h.flag (EVT_ROUTE_FW src); src < 256 ∧ cause < 256 ∧ d.length ≤ 8 ∧ h.lt < 2 ^ 64
     ∧ m.pack < 2 ^ 64 ∧ fw = true) ∧
    (let h := (given (acquiring 1) (EVT_ROUTE_FW 255) 1).hub; let m : MT := {}; let src := 255; let cause := 255;
     let d := List.replicate 8 0; let n := 0; let fw := h.flag (EVT_ROUTE_FW src); src < 256 ∧ cause < 256 ∧ d.length ≤ 8
     ∧ h.lt < 2 ^ 64 ∧ m.pack < 2 ^ 64 ∧ n < 256 ∧ (n ≠ src ∨ fw = false)) := by decide

theorem witness_registerWrites_1 :
    (let s := acquiring 1; let p := Path.mc; let a := BOOT_UPD_PAGE 63; let c := (cardOf a).getD ⟨"", 0, [], 0, []⟩; s.hub.awake
     ∧ s.hub.livePath p ∧ cardOf a = some c ∧ s.hub.writeMask c ≠ 0
     ∧ (a / 0x10000 = 1 ∧ a ≠ MT_TT_COMMIT) ∨ (a / 0x10000 = 8 ∧ a ≠ SIP_HIST_COMMIT) ∨ (a / 0x10000 = 15 ∧ a ≠ BOOT_UPD_CTRL)
     ∧ s.hub.staged = []) ∧
    (let s := acquiring 1; let p := Path.mc; let a := PMC_WINDOW; let v : Word := 1; let c := (cardOf a).getD ⟨"", 0, [], 0, []⟩;
     s.hub.awake ∧ s.hub.livePath p ∧ cardOf a = some c ∧ s.hub.writeMask c ≠ 0 ∧ (a / 0x10000 = 13 ∧ Hub.pmcRefused a v = false)
     ∧ s.hub.staged = []) := by decide

theorem witness_registerWrites_2 :
    (let s := acquiring 1; let a := PMC_WINDOW; let v : Word := 0; let c := (cardOf a).getD ⟨"", 0, [], 0, []⟩; s.hub.awake
     ∧ s.hub.livePath .mc ∧ a / 0x10000 = 13 ∧ cardOf a = some c ∧ s.hub.writeMask c ≠ 0 ∧ Hub.pmcRefused a v = true) ∧
    (let s := acquiring 1; let a := DEV_ID; let c := (cardOf a).getD ⟨"", 0, [], 0, []⟩; s.hub.awake ∧ s.hub.pathWrites .mc = .done
     ∧ cardOf a = some c ∧ s.hub.writeMask c = 0 ∧ a < 0x40000000) ∧
    (let s := acquiring 1; let a := 0x3FFFFFFF; s.hub.awake ∧ s.hub.pathWrites .mc = .done ∧ cardOf a = none ∧ a < 0x40000000) := by decide

theorem witness_registerWrites_3 :
    (let s := given (acquiring 1) DEV_STATE_LC 4; let a := TRG_ARM; let c := (cardOf a).getD ⟨"", 0, [], 0, []⟩; s.hub.awake
     ∧ s.hub.lc = 4 ∧ cardOf a = some c) ∧
    (let s : State := { hub := { (acquiring 1).hub with boot := { stalled := true } } }; s.hub.awake ∧ s.hub.boot.stalled = true) := by decide

/-- LT stays below its 64 bits, whatever time a command takes. -/
theorem passTime_lt (h : Hub) : h.passTime.lt < 2 ^ 64 := Nat.mod_lt _ (Nat.two_pow_pos 64)

theorem witness_checkpoints_sending : let s := stillSending; s.hub.awake ∧ s.hub.paired = true ∧ s.hub.boot.stalled = false
    ∧ s.hub.twn.buffer ≤ 1 ∧ s.hub.fld TWN_STAT_ROLE = 4 ∧ s.hub.twn.swap.past = false ∧ s.hub.passTime.stillSending = true := by
  refine ⟨by decide, by decide, by decide, by decide, by decide, by decide, ?_⟩
  have h := passTime_lt stillSending.hub
  generalize hk : stillSending.hub.passTime = k at h
  have e : k.twn.sending = some { lt := 2 ^ 64 } := by rw [← hk]; rfl
  rw [Hub.stillSending, e]
  simp only [decide_eq_true_eq]
  omega

theorem witness_ptpMessages_announce : let m := hdr; let f : Foreign := { clock := 7, port := 1, heard := 2 ^ 64 }
    let s : State := { hub := { (timed 0).hub with ft := { masters := [f] } } }
    let cls := 255
    s.hub.awake ∧ s.hub.ptpOn = true ∧ m.domain = s.hub.fld FT_CFG_DOMAIN ∧ m.sdo = 0 ∧ m.logInterval = 0
    ∧ s.hub.ft.masters = [f] ∧ f.clock = m.clock ∧ f.port = m.port ∧ s.hub.ft.selected = none ∧ s.hub.fld FT_STAT_STATE = 0
    ∧ m.port < 65536 ∧ m.clock < 2 ^ 64 ∧ cls < 256 ∧ s.hub.passTime.lt ≤ f.heard + 4000000000 := by
  refine ⟨by decide, by decide, by decide, by decide, by decide, rfl, by decide, by decide, by decide, by decide, by decide, by decide,
    by decide, ?_⟩
  exact Nat.le_trans (Nat.le_of_lt (passTime_lt _)) (Nat.le_add_right _ _)

/-- The hub after a command. -/
def after (c : Instr) (s : State) : Hub :=
  match exec c s with
  | .next t => t.hub
  | .fault _ => {}
  | .refused _ => {}

/-! Worked values of the spec. -/

/-- R284: the check value over the ASCII bytes "123456789". -/
theorem test_crc32c : crc32c [0x31, 0x32, 0x33, 0x34, 0x35, 0x36, 0x37, 0x38, 0x39] = 0xE3069283 := by decide +kernel
/-- R391 names FIPS 180-4, whose example is "abc". -/
theorem test_sha256 : sha256 [0x61, 0x62, 0x63] = [0xba7816bf, 0x8f01cfea, 0x414140de, 0x5dae2223, 0xb00361a3, 0x96177a9c, 0xb410ff61,
    0xf20015ad] := by decide +kernel
/-- The example after R20: CODE 0x41 with ARG 0x00C is 0xE441_00CE. -/
theorem test_mmsgWord : (after (.mmsgWord ⟨40, 0xE44100CE⟩) (given inTrack MT_CTRL_MMSG_EN 1)).reg MT_MMSG_LAST = 0xE44100CE := by
  decide +kernel
/-- The example after R38: REV at flywheel 1001:3596 of 3,600 slots gives 1002:0000, d = +4. -/
theorem test_reanchor :
    let s := given (given (given inTrack MT_TURN_CFG_SPT_M1 3599) MT_TURN_CFG_REV_OFFSET 0) MT_STATE_STATE 3
    let h : Hub := { s.hub with mt := { s.hub.mt with turn := 1001, slot := 3595 } }
    let k := after (.revMarker 3596) { hub := h }
    k.mt.turn = 1002 ∧ k.mt.slot = 0 ∧ k.sfld MT_LAST_ANCHOR_D = 4 ∧ k.fld MT_STATE_STATE = 2 := by decide +kernel
/-- The example after R115: the slot map of ADC[1]. -/
theorem test_slotMap : Hub.mapLocals [0x13121110, 0x01000514, 0x06040302, 0x0A090807, 0x0E0D0C0B, 0x1716150F, 0x1B1A1918, 0x1F1E1D1C] =
    [16, 17, 18, 19, 20, 5, 0, 1, 2, 3, 4, 6, 7, 8, 9, 10, 11, 12, 13, 14, 15, 21, 22, 23, 24, 25, 26, 27, 28, 29, 30, 31] := by decide
/-- The example after R271: 32 values that rise by 300 with an error of ±20, after 49,100, 49,400 and 49,700. -/
theorem test_siphonBlock :
    let xs := (List.range 32).map fun (i : Nat) => (50000 + 300 * (i : Int) + (if i % 2 = 0 then 20 else -20) : Int)
    let (o, n, rs, _) := encodeBlock (residualBits 3) xs (49700, 49400, 49100) shifts
    o = 2 ∧ n = 3 ∧ rs.take 5 = [2, -6, 8, -8, 8] ∧ blockHeader o n 32 0 false false false = 0x86000020 ∧
    (residualWords 5 rs).headD 0 = 0x16918461 := by decide +kernel
/-- The example after R389: a REGS record sets SLOTS_PER_TURN to 3,600 and BCLK_NOM to 40,000 kHz. -/
theorem test_regsRecord : let h := (Load.regs 0 { hub := Hub.reset } 5 [0x00010004, 2, 0x0E0F, 0x9C40]).hub
    h.spt = 3600 ∧ h.fld MT_BCLK_NOM_KHZ = 40000 := by decide +kernel
/-- The example after R435: D = 9001:1390 gives R = 9069:0000, 243,410 slots later. -/
theorem test_resumePoint :
    let s := given inTrack MT_TURN_CFG_SPT_M1 3599
    let h : Hub := { s.hub with mt := { s.hub.mt with turn := 9001, slot := 1390 } }
    h.boundaryAt (h.now + h.slotsOfMs 6) = 9069 * 3600 ∧ 9069 * 3600 - h.now = 243410 := by decide +kernel
/-- R409: the state that the fuses spell. -/
theorem test_lifeCycleStates : [0, 1, 2, 63, 64].map (fun k => lcOf { burned := k }) = [0, 1, 2, 3, 2] ∧
    lcOf { retired := true } = 4 := by decide

theorem test_queueInvariant : queueOk { pending := [.flywheelWrap] } := ⟨by decide, by decide⟩

end Sys2Proof.Machine.Tests
end

section
/-!
PROOFS. Siphon blocks, loads of a Siphon history and corrected ring words (R265-R274). The statement over all states is refuted by a
table of rings that lists a stream twice. What it says is proved here clause by clause: of corrected words for a table of rising keys, of
Siphon blocks and loads for every state.
-/

namespace Sys2Proof.Machine

/-! ### Tables changed entry by entry -/

namespace SMap

variable {α : Type}

/-- A key below every listed one is unlisted. -/
theorem find?_eq_none_of_rising {m : SMap α} {lo k : Nat} (hm : rising lo m = true) (hk : k < lo) : find? m k = none := by
  induction m generalizing lo with
  | nil => rfl
  | cons p m ih =>
    simp only [rising, Bool.and_eq_true, decide_eq_true_eq] at hm
    have hne : p.1 ≠ k := by omega
    simpa [find?, hne] using ih hm.2 (by omega)

theorem get_cons_self (d : Nat → α) (m : SMap α) (k : Nat) (v : α) : get d ((k, v) :: m) k = v := by simp [get, find?]

theorem get_cons_ne (d : Nat → α) (m : SMap α) {j k : Nat} (v : α) (h : j ≠ k) : get d ((j, v) :: m) k = get d m k := by
  simp [get, find?, h]

/-- In a table of rising keys a change that keeps what an unlisted key reads as changes what every key reads as. -/
theorem get_update [DecidableEq α] {d : Nat → α} {f : Nat → α → α} (hf : ∀ k, f k (d k) = d k) {m : SMap α} {lo : Nat}
    (hm : rising lo m = true) (k : Nat) : get d (update d f m) k = f k (get d m k) := by
  induction m generalizing lo with
  | nil => exact (hf k).symm
  | cons p m ih =>
    obtain ⟨j, v⟩ := p
    simp only [rising, Bool.and_eq_true, decide_eq_true_eq] at hm
    have hrest := ih hm.2
    have hcons : update d f ((j, v) :: m) = if f j v = d j then update d f m else (j, f j v) :: update d f m := by
      by_cases h : f j v = d j <;> simp [update, h]
    rw [hcons]
    rcases eq_or_ne j k with rfl | hjk
    · have hnone : get d m j = d j := by simp [get, find?_eq_none_of_rising hm.2 (Nat.lt_succ_self j)]
      rw [get_cons_self]
      split_ifs with h
      · rw [hrest, hnone, hf, h]
      · rw [get_cons_self]
    · rw [get_cons_ne _ _ _ hjk]
      split_ifs
      · exact hrest
      · rw [get_cons_ne _ _ _ hjk, hrest]

end SMap

/-! ### Commands and writes -/

/-- A command of the form `onHub` has one answer, so on an awake hub it completes as its meaning says and in no other way. -/
theorem completes_onHub_iff {c : Instr} {s : State} {f : Hub → Hub} {p : Hub → Prop} (e : exec c s = s.onHub f) (ha : s.hub.awake) :
    Completes c s p ↔ p (f s.hub.passTime).wrapTime := by
  refine ⟨?_, completes_onHub e ha⟩
  rintro ⟨t, ht, -, hp⟩
  have hl : s.hub.passTime.dark = false := Hub.awake.dark (by simpa using ha)
  rw [e, State.onHub_lit f s hl] at ht
  cases ht
  exact hp

/-- The time a command takes before and after it acts does not show in a frame. -/
theorem Framed.timed {r : Nat → Prop} {ps : List Part} {h k : Hub} (a : Framed r ps h.passTime k) : Framed r ps h k.wrapTime :=
  (((framed_passTime h).trans a).trans (framed_wrapTime k)).mono (by simp) (by simp)

namespace Hub

@[simp] theorem pathWrites_passTime (h : Hub) (p : Path) : h.passTime.pathWrites p = h.pathWrites p := rfl

@[simp] theorem livePath_passTime (h : Hub) (p : Path) : h.passTime.livePath p ↔ h.livePath p := by simp [livePath, lc]

/-- A write to a live register over a path that reaches it has the effect of the write and no other (R11, R413). -/
theorem writeCmd_live {h h' : Hub} {p : Path} {f : Hub → Option Hub} (addr : Nat) (hp : h.livePath p) (hf : f h = some h') :
    h.writeCmd p addr .LV f = h' := by
  obtain ⟨hd, hlc⟩ := hp
  simp [writeCmd, writeTo, hd, writable, hlc, hf, report]

/-! ### Counts of events -/

@[simp] theorem occurrences_put (h : Hub) (f : Fld) (v n : Nat) : (h.put f v).occurrences n = h.occurrences n :=
  occurrences_congr (by simp) n

@[simp] theorem occurrences_bump (h : Hub) (f : Fld) (v n : Nat) : (h.bump f v).occurrences n = h.occurrences n :=
  occurrences_congr (by simp) n

@[simp] theorem occurrences_bumpMod (h : Hub) (f : Fld) (v n : Nat) : (h.bumpMod f v).occurrences n = h.occurrences n :=
  occurrences_congr (by simp) n

@[simp] theorem occurrences_tally (h : Hub) (i v n : Nat) : (h.tally i v).occurrences n = h.occurrences n :=
  occurrences_congr (by simp) n

@[simp] theorem occurrences_passTime (h : Hub) (n : Nat) : h.passTime.occurrences n = h.occurrences n :=
  occurrences_congr (by simp) n

@[simp] theorem occurrences_wrapTime (h : Hub) (n : Nat) : h.wrapTime.occurrences n = h.occurrences n :=
  occurrences_congr (by simp) n

/-! ### Counters in registers -/

/-- A count that saturates at the greatest value of its field. -/
theorem fld_bump_self (h : Hub) (f : Fld) (n : Nat) (hf : f.lo + f.width ≤ 32) :
    (h.bump f n).fld f = satAdd (2 ^ f.width - 1) (h.fld f) n := by
  have hpos := Nat.two_pow_pos f.width
  have hlt : satAdd (2 ^ f.width - 1) (h.fld f) n < 2 ^ f.width := by unfold satAdd; split_ifs <;> omega
  rw [bump, fld_put_self h f _ hf, Nat.mod_eq_of_lt hlt]

theorem fld_bump_ne (h : Hub) (f g : Fld) (n : Nat) (hg : g.addr ≠ f.addr) : (h.bump f n).fld g = h.fld g := fld_put_ne _ _ _ _ hg

/-! ### Rings -/

theorem ring_congr {h k : Hub} (e : h.cis = k.cis) (n : Nat) : h.ring n = k.ring n := by simp [ring, e]

@[simp] theorem ring_passTime (h : Hub) (n : Nat) : h.passTime.ring n = h.ring n := ring_congr (by simp) n
@[simp] theorem ring_wrapTime (h : Hub) (n : Nat) : h.wrapTime.ring n = h.ring n := ring_congr (by simp) n
@[simp] theorem ring_put (h : Hub) (f : Fld) (v n : Nat) : (h.put f v).ring n = h.ring n := ring_congr (by simp) n
@[simp] theorem ring_raise (h : Hub) (src cause : Nat) (d : List Nat) (n : Nat) : (h.raise src cause d).ring n = h.ring n :=
  ring_congr (by simp) n

@[simp] theorem ring_setRing_self (h : Hub) (n : Nat) (r : Ring) : (h.setRing n r).ring n = r := SMap.get_set_self ..

theorem ring_setRing_ne (h : Hub) {n m : Nat} (r : Ring) (hm : m ≠ n) : (h.setRing n r).ring m = h.ring m :=
  SMap.get_set_ne _ _ _ hm

@[simp] theorem reg_setRing (h : Hub) (n : Nat) (r : Ring) (a : Nat) : (h.setRing n r).reg a = h.reg a := rfl
@[simp] theorem fld_setRing (h : Hub) (n : Nat) (r : Ring) (f : Fld) : (h.setRing n r).fld f = h.fld f := rfl
@[simp] theorem flag_setRing (h : Hub) (n : Nat) (r : Ring) (f : Fld) : (h.setRing n r).flag f = h.flag f := rfl
@[simp] theorem occurrences_setRing (h : Hub) (n : Nat) (r : Ring) (i : Nat) : (h.setRing n r).occurrences i = h.occurrences i := rfl

/-! ### Corrected ring words (R272) -/

/-- The report changes every listed ring, in the order of the table. -/
theorem eccSummary_eq (h : Hub) (he : ∃ p ∈ h.cis.rings, p.2.eccSec = true) :
    h.eccSummary = ({ h with cis := { h.cis with
      rings := SMap.update (fun _ => {}) (fun _ r => { r with eccSec := false }) h.cis.rings } } : Hub).raise
        149 0 [h.cis.rings.countP fun p => p.2.eccSec] := by
  have hn : h.cis.rings.countP (fun p => p.2.eccSec) ≠ 0 := by
    rw [Ne, List.countP_eq_zero]; push Not; simpa using he
  simp [eccSummary, hn]

theorem ring_eccSummary (h : Hub) (he : ∃ p ∈ h.cis.rings, p.2.eccSec = true) (n : Nat) :
    h.eccSummary.ring n = SMap.get (fun _ => {}) (SMap.update (fun _ => {}) (fun _ r => { r with eccSec := false }) h.cis.rings) n := by
  rw [eccSummary_eq h he, ring_raise]; rfl

end Hub

theorem framed_setRing (h : Hub) (n : Nat) (r : Ring) : Framed (fun _ => False) [.cis] h (h.setRing n r) :=
  ⟨fun _ _ => rfl, fun p hp => by cases p <;> simp_all [Part.same, Hub.setRing]⟩

/-- With a canonical table of rings the report takes the mark of corrected words from every ring, and is raised once. -/
theorem eccSummary_completes_of_rising {s : State} (ha : s.hub.awake) (hw : SMap.rising 0 s.hub.cis.rings = true)
    (he : ∃ p ∈ s.hub.cis.rings, p.2.eccSec = true) : Completes .eccSummary s fun k =>
      (∀ n, k.ring n = { s.hub.ring n with eccSec := false }) ∧ Hub.oneMore 149 s.hub k ∧
        Framed (fun _ => False) (.cis :: eventParts) s.hub k := by
  have he' : ∃ p ∈ s.hub.passTime.cis.rings, p.2.eccSec = true := by simpa using he
  refine completes_onHub rfl ha ⟨fun n => ?_, ?_, Framed.timed ?_⟩
  · rw [Hub.ring_wrapTime, Hub.ring_eccSummary _ he']
    exact SMap.get_update (f := fun _ (r : Ring) => { r with eccSec := false }) (fun _ => rfl) hw n
  · rw [Hub.oneMore, Hub.occurrences_wrapTime, Hub.eccSummary_eq _ he', Hub.occurrences_raise, if_pos rfl]
    rfl
  · rw [Hub.eccSummary_eq _ he']
    refine Framed.trans (r := fun _ => False) (ps := [.cis]) ?_ (framed_raise _ _ _ _) |>.mono (by simp) (by simp)
    exact ⟨fun _ _ => rfl, fun p hp => by cases p <;> simp_all [Part.same]⟩

/-! ### Loads of a Siphon history (R269, R274) -/

/-- A write of SIP.HIST_COMMIT is held, and changes nothing else. -/
theorem histCommit_completes {s : State} (ha : s.hub.awake) {p : Path} {n : Nat} (hn : n < 128) (hp : s.hub.livePath p) :
    Completes (.histCommit p n) s fun k =>
      k.cis = { s.hub.cis with histDue := s.hub.cis.histDue ++ [n] } ∧ Framed (fun _ => False) [.cis] s.hub k := by
  refine completes_onHub rfl ha ?_
  rw [Hub.writeCmd_live (f := fun h => some (h.histCommit n)) _ (by simpa using hp) rfl]
  refine ⟨by simp [Hub.histCommit, Nat.mod_eq_of_lt hn], Framed.timed ⟨fun _ _ => rfl, fun q hq => ?_⟩⟩
  cases q <;> simp_all [Part.same, Hub.histCommit]

namespace Hub

theorem histResult_eq (h : Hub) (n : Nat) : h.histResult n =
    if n = 0 ∨ h.ringSize n = 0 then 3
    else if (h.ring n).running then 1
    else if h.fld (CIS_STREAM_CFG_RATIO n) = 0 ∧
      (h.fld (CIS_STREAM_CFG_CLASS n) ≠ 3 ∨ h.fld (CIS_STREAM_CFG_DEG_RATIO n) = 0) then 2 else 0 := by
  by_cases hn : n = 0 <;> simp [histResult, runs, hn]

theorem histResult_lt (h : Hub) (n : Nat) : h.histResult n < 2 ^ SIP_HIST_STATUS_RESULT.width := by
  unfold histResult; split_ifs <;> decide

/-- The stream's part of a load: its ring takes the staged history, where the load is not refused. -/
def takeHist (h : Hub) (n : Nat) : Hub :=
  if h.histResult n = 0 then h.setRing n { h.ring n with hist := h.stagedHist, loaded := true, hreset := false } else h

theorem framed_takeHist (h : Hub) (n : Nat) : Framed (fun _ => False) [.cis] h (h.takeHist n) := by
  unfold takeHist
  split_ifs
  · exact framed_setRing ..
  · exact (framed_refl h).mono (by simp) (by simp)

theorem stagedHist_put_commit (h : Hub) (n : Nat) : (h.put SIP_HIST_COMMIT_STREAM n).stagedHist = h.stagedHist := by
  have hk : ∀ k < 4, (h.put SIP_HIST_COMMIT_STREAM n).reg (SIP_HIST_STAGE k) = h.reg (SIP_HIST_STAGE k) := fun k hk =>
    reg_put_ne _ _ _ (by simp only [SIP_HIST_STAGE, SIP_HIST_COMMIT_STREAM, SIP_HIST_COMMIT]; omega)
  simp [stagedHist, hk]

/-- A load is the ring's part, and a report in SIP.HIST_STATUS and on EV[165]. -/
theorem loadHist_eq (h : Hub) (n : Nat) : h.loadHist n =
    ((((h.takeHist n).put SIP_HIST_COMMIT_STREAM n).put SIP_HIST_STATUS_RESULT (h.histResult n)).put SIP_HIST_STATUS_STREAM n).raise
      165 0 [n, h.histResult n] := by
  unfold loadHist takeHist
  by_cases hr : h.histResult n = 0
  · simp only [hr, ring_put, stagedHist_put_commit]; rfl
  · simp only [hr, if_false]

theorem ring_loadHist (h : Hub) (n m : Nat) : (h.loadHist n).ring m = (h.takeHist n).ring m := by simp [loadHist_eq]

/-- The status names the result and the stream, and the load is reported once. -/
theorem loadHist_status (h : Hub) {n : Nat} (hn : n < 128) :
    (h.loadHist n).fld SIP_HIST_STATUS_RESULT = h.histResult n ∧ (h.loadHist n).fld SIP_HIST_STATUS_STREAM = n ∧
      Hub.oneMore 165 h (h.loadHist n) := by
  have hr := Nat.mod_eq_of_lt (h.histResult_lt n)
  have hocc : (h.takeHist n).occurrences 165 = h.occurrences 165 := by unfold takeHist; split_ifs <;> rfl
  refine ⟨?_, ?_, ?_⟩
  · rw [loadHist_eq, fld_raise, fld_put_disjoint _ _ _ _ (by decide) (by decide), fld_put_self _ _ _ (by decide), hr]
  · rw [loadHist_eq, fld_raise, fld_put_self _ _ _ (by decide)]
    exact Nat.mod_eq_of_lt hn
  · simp [loadHist_eq, oneMore, occurrences_raise, hocc]

theorem framed_loadHist (h : Hub) (n : Nat) :
    Framed (among [SIP_HIST_COMMIT, SIP_HIST_STATUS]) (.cis :: eventParts) h (h.loadHist n) := by
  rw [loadHist_eq]
  refine (((((h.framed_takeHist n).trans (framed_put ..)).trans (framed_put ..)).trans (framed_put ..)).trans
    (framed_raise ..)).mono ?_ (by simp)
  rintro a ((((hf | rfl) | rfl) | rfl) | hf)
  · exact hf.elim
  · simp [SIP_HIST_COMMIT_STREAM]
  · simp [SIP_HIST_STATUS_RESULT]
  · simp [SIP_HIST_STATUS_STREAM]
  · exact hf.elim

end Hub

/-- A load that is not refused gives the stream's ring the staged history, and leaves every other ring alone. -/
theorem ring_loadHist_of_accepted (h : Hub) {n : Nat} (hr : h.histResult n = 0) :
    (h.loadHist n).ring n = { h.ring n with hist := h.stagedHist, loaded := true, hreset := false } ∧
      ∀ m, m ≠ n → (h.loadHist n).ring m = h.ring m := by
  simp only [Hub.ring_loadHist, Hub.takeHist, hr, if_true]
  exact ⟨Hub.ring_setRing_self .., fun m hm => Hub.ring_setRing_ne _ _ hm⟩

/-- A refused load changes no ring. -/
theorem cis_loadHist_of_refused (h : Hub) {n : Nat} (hr : h.histResult n ≠ 0) : (h.loadHist n).cis = h.cis := by
  simp [Hub.loadHist_eq, Hub.takeHist, hr]

/-! ### Siphon blocks (R265, R266, R270) -/

namespace Hub

/-- What becomes of a block with both units in service, `u` the stream's: nothing more where its output verifies; else the mismatch is
counted and reported and the block coded again; where that fails too, `u` leaves service. -/
def judge (u : Nat) (first second : Bool) (d : List Nat) (h : Hub) : Hub :=
  if first then h else
  let h := ((h.bump (SIP_UNIT_STAT_MISMATCH u) 1).raise (160 + u) 0 d).bump SIP_CNT_REENC 1
  if second then h else
  let h := ((h.bump (SIP_UNIT_STAT_MISMATCH (1 - u)) 1).bump SIP_CNT_VERIFY_FAIL 1).raise 162 0 d
  (h.put (SIP_UNIT_STAT_IN_SERVICE u) 0).raise 163 0 [u]

/-- The counts of a full block coded by unit `u`, and by the other one too where it is coded again. -/
def countBlock (u : Nat) (again : Bool) (ratio : Nat) (h : Hub) : Hub :=
  let h := h.bumpMod (SIP_UNIT_STAT_BLOCKS u) 1
  let h := if again then h.bumpMod (SIP_UNIT_STAT_BLOCKS (1 - u)) 1 else h
  (((h.tally (132 + u) 1).tally (133 - u) (ofBool again)).tally 134 32).tally 135 (blockBytes ratio)

/-- Order, shift, residuals and history of the next full block of packet `p` of stream `n` (R267). -/
def nextBlock (h : Hub) (n : Nat) (p : OpenPkt) : Nat × Nat × List Int × (Int × Int × Int) :=
  encodeBlock (residualBits p.ratio) (((p.conts.drop p.coded).take 32).map Cont.value)
    (if (h.ring n).hreset then (0, 0, 0) else histValues (h.ring n).hist) shifts

/-- The words of that block: its header, and its residuals (R265, R266). -/
def blockWords (h : Hub) (n : Nat) (p : OpenPkt) (first second : Bool) : List Word :=
  let (order, shift, rs, _) := h.nextBlock n p
  blockHeader order shift 32 (if first then n % 2 else 1 - n % 2) (!first && !second) (!first) (h.ring n).hreset ::
    residualWords (residualBits p.ratio) rs

/-- Stream `n` after that block: the packet is longer by its words, and the history is the one behind it (R269). -/
def codedRing (h : Hub) (n : Nat) (p : OpenPkt) (first second : Bool) : Ring :=
  let (order, shift, _, h1) := h.nextBlock n p
  { h.ring n with
    open? := some { p with blocks := p.blocks ++ h.blockWords n p first second, coded := p.coded + 32, shiftMax := max p.shiftMax shift }
    hist := histPack h1 order shift (h.fld (CIS_SEQ_NEXT n)), hreset := !first && !second, loaded := false }

theorem length_blockWords (h : Hub) (n : Nat) (p : OpenPkt) (first second : Bool) :
    (h.blockWords n p first second).length = 1 + residualBits p.ratio := by
  simp [blockWords, residualWords, Nat.add_comm]

/-- With both units in service a full block extends the packet, is judged, and is counted. -/
theorem siphonBlock_eq {h : Hub} {n : Nat} {p : OpenPkt} (first second : Bool) (hp : (h.ring n).open? = some p) (hr : p.ratio ≠ 0)
    (hx : p.coded + 32 ≤ p.conts.length) (hs : ∀ u < 2, h.flag (SIP_UNIT_STAT_IN_SERVICE u) = true) :
    h.siphonBlock n first second = ((h.setRing n (h.codedRing n p first second)).judge (n % 2) first second
      [n, h.fld (CIS_SEQ_NEXT n), p.coded / 32]).countBlock (n % 2) (!first) p.ratio := by
  have hlen : (((p.conts.drop p.coded).take 32).map Cont.value).length = 32 := by simp; omega
  have hxs : ((p.conts.drop p.coded).take 32).map Cont.value ≠ [] := fun h0 => by simp [h0] at hlen
  have hu : h.unitOf n = n % 2 := by simp [unitOf, hs _ (Nat.mod_lt n two_pos)]
  have h0 := hs 0 (by decide)
  have h1 := hs 1 (by decide)
  have hleft : p.conts.length - p.coded ≠ 0 := by omega
  have hfull : ¬ p.conts.length - p.coded < 32 := by omega
  simp only [siphonBlock, hp, hleft, hfull, if_false, codeBlock, hr, hxs, or_self, hu, h0, h1, hlen, codedRing, blockWords, nextBlock]
  generalize encodeBlock _ _ _ shifts = blk
  obtain ⟨order, shift, rs, h'⟩ := blk
  cases first <;> cases second <;> simp [judge, countBlock]

/-! ### What the judgement and the counts change -/

@[simp] theorem judge_cis (h : Hub) (u : Nat) (first second : Bool) (d : List Nat) : (h.judge u first second d).cis = h.cis := by
  cases first <;> cases second <;> simp [judge]

@[simp] theorem countBlock_cis (h : Hub) (u : Nat) (again : Bool) (ratio : Nat) : (h.countBlock u again ratio).cis = h.cis := by
  cases again <;> simp [countBlock]

@[simp] theorem countBlock_evt (h : Hub) (u : Nat) (again : Bool) (ratio : Nat) : (h.countBlock u again ratio).evt = h.evt := by
  cases again <;> simp [countBlock]

/-- The counts write W1 of the units, and no other register. -/
theorem reg_countBlock (h : Hub) (u : Nat) (again : Bool) (ratio : Nat) {a : Nat} (h0 : a ≠ SIP_UNIT_STAT_W1 u)
    (h1 : a ≠ SIP_UNIT_STAT_W1 (1 - u)) : (h.countBlock u again ratio).reg a = h.reg a := by
  cases again <;> simp [countBlock, bumpMod, SIP_UNIT_STAT_BLOCKS, reg_put_ne, h0, h1]

theorem fld_countBlock (h : Hub) (u : Nat) (again : Bool) (ratio : Nat) {f : Fld} (h0 : f.addr ≠ SIP_UNIT_STAT_W1 u)
    (h1 : f.addr ≠ SIP_UNIT_STAT_W1 (1 - u)) : (h.countBlock u again ratio).fld f = h.fld f :=
  congrArg f.get (h.reg_countBlock u again ratio h0 h1)

theorem framed_countBlock_once (h : Hub) (u ratio : Nat) :
    Framed (among [SIP_UNIT_STAT_W1 u]) [.pmc] h (h.countBlock u false ratio) := by
  refine (((((framed_bumpMod h (SIP_UNIT_STAT_BLOCKS u) 1).trans (framed_tally ..)).trans (framed_tally ..)).trans
    (framed_tally ..)).trans (framed_tally ..)).mono ?_ (by simp)
  rintro a ((((rfl | hf) | hf) | hf) | hf)
  · simp [SIP_UNIT_STAT_BLOCKS]
  all_goals exact hf.elim

/-- A unit leaves service where both outputs fail, and only then. -/
theorem flag_judge (h : Hub) {u : Nat} (hu : u < 2) (first second : Bool) (d : List Nat)
    (hs : ∀ v < 2, h.flag (SIP_UNIT_STAT_IN_SERVICE v) = true) :
    (h.judge u first second d).flag (SIP_UNIT_STAT_IN_SERVICE u) = (first || second) ∧
      (h.judge u first second d).flag (SIP_UNIT_STAT_IN_SERVICE (1 - u)) = true := by
  have h0 := hs 0 (by decide)
  have h1 := hs 1 (by decide)
  simp only [flag, beq_iff_eq] at h0 h1
  obtain rfl | rfl : u = 0 ∨ u = 1 := by omega
  all_goals
    cases first <;> cases second <;>
      simp (disch := decide) [judge, flag, bump, fld_put_disjoint, fld_put_self, h0, h1]

/-- A first output that does not verify is one mismatch of its unit, and one block coded again. -/
theorem judge_mismatch (h : Hub) {u : Nat} (hu : u < 2) (second : Bool) (d : List Nat) :
    oneMore (160 + u) h (h.judge u false second d) ∧
      (h.judge u false second d).fld SIP_CNT_REENC = satAdd (2 ^ 32 - 1) (h.fld SIP_CNT_REENC) 1 := by
  have hself := fun k : Hub => k.fld_bump_self SIP_CNT_REENC 1 (by decide)
  have hwidth : SIP_CNT_REENC.width = 32 := rfl
  have h162 : 160 + u ≠ 162 := by omega
  have h163 : 160 + u ≠ 163 := by omega
  obtain rfl | rfl : u = 0 ∨ u = 1 := by omega
  all_goals
    cases second <;>
      simp (disch := decide) [judge, oneMore, occurrences_raise, hself, hwidth, fld_put_ne, fld_bump_ne]

/-- Where the second fails too, the failure and the unit that leaves service are reported. -/
theorem judge_fail (h : Hub) {u : Nat} (hu : u < 2) (d : List Nat) :
    oneMore 162 h (h.judge u false false d) ∧ oneMore 163 h (h.judge u false false d) ∧
      (h.judge u false false d).fld SIP_CNT_VERIFY_FAIL = satAdd (2 ^ 32 - 1) (h.fld SIP_CNT_VERIFY_FAIL) 1 := by
  have hself := fun k : Hub => k.fld_bump_self SIP_CNT_VERIFY_FAIL 1 (by decide)
  have hwidth : SIP_CNT_VERIFY_FAIL.width = 32 := rfl
  obtain rfl | rfl : u = 0 ∨ u = 1 := by omega
  all_goals
    simp (disch := decide) [judge, oneMore, occurrences_raise, hself, hwidth, fld_put_ne, fld_bump_ne]

/-- What a full block of packet `p` of stream `n` does to hub `h` while both units are in service: its words join the packet, and the unit
it is coded in is counted, reported and taken out of service as `first` and `second`, the two outputs, verify (R270). -/
def BlockDone (n : Nat) (p : OpenPkt) (first second : Bool) (h k : Hub) : Prop :=
  let u := n % 2
  k.ring n = h.codedRing n p first second ∧ (∀ m, m ≠ n → k.ring m = h.ring m) ∧
    k.flag (SIP_UNIT_STAT_IN_SERVICE u) = (first || second) ∧ k.flag (SIP_UNIT_STAT_IN_SERVICE (1 - u)) = true ∧
    (first = true → Framed (among [SIP_UNIT_STAT_W1 u]) [.cis, .pmc] h k) ∧
    (first = false → oneMore (160 + u) h k ∧ k.fld SIP_CNT_REENC = satAdd (2 ^ 32 - 1) (h.fld SIP_CNT_REENC) 1) ∧
    (first = false → second = false → oneMore 162 h k ∧ oneMore 163 h k ∧
      k.fld SIP_CNT_VERIFY_FAIL = satAdd (2 ^ 32 - 1) (h.fld SIP_CNT_VERIFY_FAIL) 1)

theorem BlockDone.timed {n : Nat} {p : OpenPkt} {first second : Bool} {h k : Hub} (b : BlockDone n p first second h.passTime k) :
    BlockDone n p first second h k.wrapTime := by
  obtain ⟨hring, hothers, hunit, hother, hframe, hmis, hfail⟩ := b
  exact ⟨(ring_wrapTime k n).trans hring, by simpa using hothers, by simpa using hunit, by simpa using hother,
    fun h1 => (hframe h1).timed, by simpa [oneMore] using hmis, by simpa [oneMore] using hfail⟩

theorem siphonBlock_done {h : Hub} {n : Nat} {p : OpenPkt} (first second : Bool) (hp : (h.ring n).open? = some p) (hr : p.ratio ≠ 0)
    (hx : p.coded + 32 ≤ p.conts.length) (hs : ∀ u < 2, h.flag (SIP_UNIT_STAT_IN_SERVICE u) = true) :
    BlockDone n p first second h (h.siphonBlock n first second) := by
  have hu : n % 2 < 2 := Nat.mod_lt n two_pos
  set k := h.siphonBlock n first second
  set u := n % 2
  set r := h.codedRing n p first second
  set d := [n, h.fld (CIS_SEQ_NEXT n), p.coded / 32]
  have hk : k = ((h.setRing n r).judge u first second d).countBlock u (!first) p.ratio := siphonBlock_eq first second hp hr hx hs
  have hcis : k.cis = (h.setRing n r).cis := by rw [hk, countBlock_cis, judge_cis]
  have hocc (i : Nat) : k.occurrences i = ((h.setRing n r).judge u first second d).occurrences i :=
    occurrences_congr (by rw [hk, countBlock_evt]) i
  have hfld {f : Fld} (h0 : f.addr ≠ SIP_UNIT_STAT_W1 u) (h1 : f.addr ≠ SIP_UNIT_STAT_W1 (1 - u)) :
      k.fld f = ((h.setRing n r).judge u first second d).fld f := by rw [hk, fld_countBlock _ _ _ _ h0 h1]
  have hflag (v : Nat) (hv : v < 2) : k.flag (SIP_UNIT_STAT_IN_SERVICE v) =
      ((h.setRing n r).judge u first second d).flag (SIP_UNIT_STAT_IN_SERVICE v) := by
    unfold flag
    rw [hfld] <;> simp only [SIP_UNIT_STAT_IN_SERVICE, SIP_UNIT_STAT_W0, SIP_UNIT_STAT_W1] <;> omega
  have hcnt (a : Nat) (ha : a = SIP_CNT_W0 ∨ a = SIP_CNT_W1) (v : Nat) (hv : v < 2) : a ≠ SIP_UNIT_STAT_W1 v := by
    simp only [SIP_CNT_W0, SIP_CNT_W1, SIP_UNIT_STAT_W1] at *; omega
  obtain ⟨hflagU, hflagOther⟩ := (h.setRing n r).flag_judge hu first second d hs
  refine ⟨(ring_congr hcis n).trans (ring_setRing_self ..), fun m hm => (ring_congr hcis m).trans (ring_setRing_ne _ _ hm),
    (hflag u hu).trans hflagU, (hflag (1 - u) (by omega)).trans hflagOther, ?_, ?_, ?_⟩
  · rintro rfl
    rw [hk]
    exact ((framed_setRing h n r).trans (framed_countBlock_once ..)).mono (by simp [u]) (by simp)
  · rintro rfl
    obtain ⟨hmis, hre⟩ := (h.setRing n r).judge_mismatch hu second d
    exact ⟨(hocc _).trans hmis, (hfld (hcnt _ (.inl rfl) _ hu) (hcnt _ (.inl rfl) _ (by omega))).trans hre⟩
  · rintro rfl rfl
    obtain ⟨hfail, hout, hcount⟩ := (h.setRing n r).judge_fail hu d
    exact ⟨(hocc _).trans hfail, (hocc _).trans hout,
      (hfld (hcnt _ (.inr rfl) _ hu) (hcnt _ (.inr rfl) _ (by omega))).trans hcount⟩

end Hub

/-- The command with a full block waiting and both units in service. -/
theorem siphonBlock_completes {s : State} (ha : s.hub.awake) {n : Nat} {p : OpenPkt} (first second : Bool)
    (hp : (s.hub.ring n).open? = some p) (hr : p.ratio ≠ 0) (hx : p.coded + 32 ≤ p.conts.length)
    (hs : ∀ u < 2, s.hub.flag (SIP_UNIT_STAT_IN_SERVICE u) = true) :
    Completes (.siphonBlock n first second) s (Hub.BlockDone n p first second s.hub) :=
  completes_onHub rfl ha (Hub.siphonBlock_done first second (by simpa using hp) hr hx (by simpa using hs)).timed

/-! ### The refutation -/

/-- A hub whose table of rings is not canonical: it lists stream 5 twice, first as the reset ring marked for a corrected word, and behind
it a running stream that no read of the table reaches. -/
def twiceListed : State := { hub := { cis := { rings := [(5, { eccSec := true }), (5, { running := true })] } } }

/-- Refutes O27: its clause on corrected ring words holds in every state whose table of rings is canonical
(`eccSummary_completes_of_rising`), but the statement asks it of every state. Where stream 5 is listed twice, the first entry without its
mark is the reset ring and is unlisted, and stream 5 then reads as the second entry, which runs. -/
theorem not_siphonBlocks : ¬ Obligations.SiphonBlocks := by
  rintro ⟨-, hs⟩
  have hawake : twiceListed.hub.awake := by decide
  have hmarked : ∃ p ∈ twiceListed.hub.cis.rings, p.2.eccSec = true := by decide
  obtain ⟨-, -, hecc⟩ := hs twiceListed hawake
  obtain ⟨hring, -⟩ := (completes_onHub_iff rfl hawake).1 (hecc hmarked)
  have hruns := congrArg Ring.running (hring 5)
  rw [Hub.ring_wrapTime, Hub.ring_eccSummary _ (by simpa using hmarked)] at hruns
  exact absurd hruns (by decide)

end Sys2Proof.Machine
end
section
/-!
PROOFS. Cells and groups: what a cell and a group read as after each operation, what the writes of fields and the events of groups leave
alone, and how a command's effect on the hub becomes its completion.
-/

namespace Sys2Proof.Machine

/-- What a command does on an awake hub, where what it did does not show the time it took. -/
theorem completes_timeless {c : Instr} {s : State} {f : Hub → Hub} {p : Hub → Prop} (e : exec c s = s.onHub f) (ha : s.hub.awake)
    (ht : ∀ k, p k → p k.wrapTime) (hp : p (f s.hub.passTime)) : Completes c s p := completes_onHub e ha (ht _ hp)

/-- What every step of a fold leaves alone, the fold leaves alone. -/
theorem foldl_keeps {α β γ : Type} {f : α → β → α} (q : α → γ) (hf : ∀ a b, q (f a b) = q a) (l : List β) (a : α) :
    q (l.foldl f a) = q a := by
  induction l generalizing a with
  | nil => rfl
  | cons b l ih => rw [List.foldl_cons, ih, hf]

namespace Hub

/-! ### Cells and groups -/

theorem cell_congr {h k : Hub} (e : h.afe.cells = k.afe.cells) (c : Nat) : h.cell c = k.cell c := by rw [cell, cell, e]

theorem group_congr {h k : Hub} (e : h.afe.groups = k.afe.groups) (g : Nat) : h.group g = k.group g := by rw [group, group, e]

@[simp] theorem cell_setCell_self (h : Hub) (c : Nat) (x : Cell) : (h.setCell c x).cell c = x := SMap.get_set_self ..

theorem cell_setCell (h : Hub) (c d : Nat) (x : Cell) : (h.setCell c x).cell d = if d = c then x else h.cell d := SMap.get_set ..

@[simp] theorem group_setGroup_self (h : Hub) (g : Nat) (x : Group) : (h.setGroup g x).group g = x := SMap.get_set_self ..

@[simp] theorem cell_setGroup (h : Hub) (g : Nat) (x : Group) (c : Nat) : (h.setGroup g x).cell c = h.cell c := cell_congr rfl c
@[simp] theorem cell_put (h : Hub) (f : Fld) (v c : Nat) : (h.put f v).cell c = h.cell c := cell_congr rfl c
@[simp] theorem cell_groupEvent (h : Hub) (g cause i : Nat) (d : List Nat) (c : Nat) : (h.groupEvent g cause i d).cell c = h.cell c :=
  cell_congr (congrArg Afe.cells (raise_afe ..)) c
@[simp] theorem group_groupEvent (h : Hub) (g cause i : Nat) (d : List Nat) (n : Nat) :
    (h.groupEvent g cause i d).group n = h.group n := group_congr (congrArg Afe.groups (raise_afe ..)) n

@[simp] theorem reg_setCell (h : Hub) (c : Nat) (x : Cell) (a : Nat) : (h.setCell c x).reg a = h.reg a := reg_congr rfl a
@[simp] theorem flag_setCell (h : Hub) (c : Nat) (x : Cell) (f : Fld) : (h.setCell c x).flag f = h.flag f := flag_congr rfl f
@[simp] theorem fld_setGroup (h : Hub) (g : Nat) (x : Group) (f : Fld) : (h.setGroup g x).fld f = h.fld f := fld_congr rfl f
@[simp] theorem flag_setGroup (h : Hub) (g : Nat) (x : Group) (f : Fld) : (h.setGroup g x).flag f = h.flag f := flag_congr rfl f
@[simp] theorem fld_groupEvent (h : Hub) (g cause i : Nat) (d : List Nat) (f : Fld) : (h.groupEvent g cause i d).fld f = h.fld f :=
  fld_raise ..
@[simp] theorem flag_groupEvent (h : Hub) (g cause i : Nat) (d : List Nat) (f : Fld) : (h.groupEvent g cause i d).flag f = h.flag f :=
  flag_raise ..

/-- What an input is set to stands in registers. -/
theorem mode_congr {h k : Hub} (e : h.regs = k.regs) (c : Nat) : h.mode c = k.mode c := fld_congr e _

theorem isPartner_of_mode {h k : Hub} {c : Nat} (hm : ∀ d ≤ c, k.mode d = h.mode d) : k.isPartner c = h.isPartner c := by
  rw [isPartner, isPartner, hm _ (Nat.sub_le c 1)]

theorem acquires_of_mode {h k : Hub} {c : Nat} (hm : ∀ d ≤ c, k.mode d = h.mode d) : k.acquires c = h.acquires c := by
  rw [acquires, acquires, hm c le_rfl, isPartner_of_mode hm]

theorem pairOf_of_mode {h k : Hub} {c : Nat} (hm : ∀ d ≤ c, k.mode d = h.mode d) : k.pairOf c = h.pairOf c := by
  rw [pairOf, pairOf, isPartner_of_mode hm]

/-- The configuration of the 512 inputs lies below every other register of block 2. -/
theorem mode_put (h : Hub) {f : Fld} (v : Nat) {c : Nat} (hc : c < 1024) (hf : 0x21000 ≤ f.addr) : (h.put f v).mode c = h.mode c :=
  fld_put_ne _ _ _ _ (by simp only [AFE_CELL_CFG_MODE, AFE_CELL_CFG]; omega)

@[simp] theorem mode_setGroup (h : Hub) (g : Nat) (x : Group) (d : Nat) : (h.setGroup g x).mode d = h.mode d := mode_congr rfl d

/-- Cells changed one after the other, each the `κ`-th of an index where `q` holds: where a change of one neither shows in `κ` and `q` nor
in what a change makes of any cell, every cell named is changed as if it were the only one. -/
theorem cell_foldl {κ : Hub → Nat → Nat} {q : Hub → Nat → Prop} [∀ h i, Decidable (q h i)] {T : Nat → Hub → Hub} {U : Hub → Nat → Cell}
    (hT : ∀ h d e, (T d h).cell e = if e = d then U h d else h.cell e) (hU : ∀ h d e, U (T d h) e = U h e)
    (hκ : ∀ h d i, κ (T d h) i = κ h i) (hq : ∀ h d i, q (T d h) i ↔ q h i) (l : List Nat) (h : Hub) (c : Nat) :
    (l.foldl (fun h i => if q h i then T (κ h i) h else h) h).cell c = if ∃ i ∈ l, κ h i = c ∧ q h i then U h c else h.cell c := by
  induction l generalizing h with
  | nil => simp
  | cons i l ih =>
    by_cases hi : q h i
    · rw [List.foldl_cons, if_pos hi, ih]
      simp only [hκ, hq, hU, hT, List.exists_mem_cons_iff, hi, and_true]
      by_cases hc : κ h i = c
      · simp [hc]
      · simp [hc, Ne.symm hc]
    · rw [List.foldl_cons, if_neg hi, ih]
      simp [hi]

/-! ### Fields -/

/-- A flag just written shows what was written. -/
theorem flag_put_self (h : Hub) (f : Fld) (b : Bool) (hw : f.width = 1) (hl : f.lo < 32) : (h.put f (ofBool b)).flag f = b := by
  rw [flag, fld_put_self _ _ _ (by omega), hw]
  cases b <;> rfl

/-- A write of a field leaves every other flag alone: of another register, or of other bits. -/
theorem flag_put_disjoint (h : Hub) (f g : Fld) (v : Nat) (hf : f.lo + f.width ≤ 32)
    (hd : g.addr ≠ f.addr ∨ f.lo + f.width ≤ g.lo ∨ g.lo + g.width ≤ f.lo) : (h.put f v).flag g = h.flag g := by
  rw [flag, fld_put_disjoint _ _ _ _ hf hd, flag]

theorem flag_put_ne (h : Hub) (f g : Fld) (v : Nat) (hg : g.addr ≠ f.addr) : (h.put f v).flag g = h.flag g := by
  rw [flag, fld_put_ne _ _ _ _ hg, flag]

/-! ### Events of groups (R103) -/

@[simp] theorem occurrences_setCell (h : Hub) (c : Nat) (x : Cell) (n : Nat) : (h.setCell c x).occurrences n = h.occurrences n :=
  occurrences_congr rfl n
@[simp] theorem occurrences_setGroup (h : Hub) (g : Nat) (x : Group) (n : Nat) : (h.setGroup g x).occurrences n = h.occurrences n :=
  occurrences_congr rfl n

theorem occurrences_groupEvent (h : Hub) (g cause i : Nat) (d : List Nat) (n : Nat) : (h.groupEvent g cause i d).occurrences n =
    if n = g then satAdd (2 ^ 24 - 1) (h.occurrences g) 1 else h.occurrences n := occurrences_raise ..

end Hub

theorem framed_setCell (h : Hub) (c : Nat) (x : Cell) : Framed (fun _ => False) [.afe] h (h.setCell c x) :=
  ⟨fun _ _ => rfl, fun p hp => by cases p <;> simp_all [Part.same, Hub.setCell]⟩

theorem framed_setGroup (h : Hub) (g : Nat) (x : Group) : Framed (fun _ => False) [.afe] h (h.setGroup g x) :=
  ⟨fun _ _ => rfl, fun p hp => by cases p <;> simp_all [Part.same, Hub.setGroup]⟩

theorem framed_groupEvent (h : Hub) (g cause i : Nat) (d : List Nat) : Framed (fun _ => False) eventParts h (h.groupEvent g cause i d) :=
  framed_raise ..

/-- A step that may not be taken has the frame of the step. -/
theorem framed_ite {r : Nat → Prop} {ps : List Part} {h k : Hub} {c : Prop} [Decidable c] (hk : Framed r ps h k) :
    Framed r ps h (if c then k else h) := by
  split_ifs
  · exact hk
  · exact (framed_refl h).mono (fun _ hf => hf.elim) (by simp)

/-- Steps of a fold that keep one frame keep it together. -/
theorem framed_foldl {β : Type} {r : Nat → Prop} {ps : List Part} {f : Hub → β → Hub} (hf : ∀ k b, Framed r ps k (f k b)) (l : List β)
    (h : Hub) : Framed r ps h (l.foldl f h) := by
  induction l generalizing h with
  | nil => exact (framed_refl h).mono (by simp) (by simp)
  | cons b l ih => exact ((hf h b).trans (ih _)).mono (by simp) (by simp)

end Sys2Proof.Machine
end
section
/-!
PROOFS. Limits, sense and string of a group's excitation (R77, R82, R97).
-/

namespace Sys2Proof.Machine

namespace Hub

/-! ### What the commands do where they act -/

theorem excLimit_eq {h : Hub} {g : Nat} (load : Nat) (hen : h.flag (AFE_EXC_CFG_EN g) = true) (hp : h.afePowered g = true)
    (hl : h.flag (AFE_EXC_STAT_LIMIT g) = false) : h.excLimit g load =
      (((h.put (AFE_EXC_STAT_LOAD g) load).put (AFE_EXC_STAT_LIMIT g) (ofBool true)).setGroup g
        { h.group g with limitFault := true }).groupEvent g 7 15 [load] := by
  simp [excLimit, hen, hp, hl, ofBool]

theorem excSenseOpen_eq {h : Hub} {g : Nat} (mv : Nat) (hen : h.flag (AFE_EXC_CFG_EN g) = true) (hp : h.afePowered g = true)
    (hl : h.flag (AFE_EXC_STAT_SENSE_OPEN g) = false) : h.excSenseOpen g mv =
      ((h.put (AFE_EXC_STAT_SENSE_OPEN g) (ofBool true)).setGroup g { h.group g with senseFault := true }).groupEvent g 8 15 [mv] := by
  simp [excSenseOpen, hen, hp, hl, ofBool]

/-- The RES inputs of a group become faulty by the string (R82, R97). -/
def markString (g : Nat) (h : Hub) : Hub :=
  (List.range 16).foldl (fun (h : Hub) (i : Nat) =>
    if h.mode (16 * g + i) = 4 ∧ h.acquires (16 * g + i) then
      h.setCell (16 * g + i) { h.cell (16 * g + i) with strFault := true }
    else h) h

theorem stringOpen_below {h : Hub} {g mv b : Nat} (hen : h.flag (AFE_EXC_CFG_EN g) = true) (hp : h.afePowered g = true)
    (hr : h.hasRes g = true) (hb : (h.group g).baseline = some b) (hv : 20000 * mv < b)
    (hl : h.flag (AFE_EXC_STAT_STRING_OPEN g) = false) : h.stringOpen g mv =
      (((h.put (AFE_EXC_STAT_STRING_OPEN g) (ofBool true)).setGroup g
        { h.group g with stringFault := true, stringOnset := h.tickMt }).markString g).groupEvent g 9 15 [mv] := by
  rw [stringOpen]
  simp only [hb, hen, hp, hr, hv, hl, Bool.not_true, Bool.or_false, Bool.false_eq_true, if_false, if_true]
  rfl

theorem stringOpen_above {h : Hub} {g mv b : Nat} (hen : h.flag (AFE_EXC_CFG_EN g) = true) (hp : h.afePowered g = true)
    (hr : h.hasRes g = true) (hb : (h.group g).baseline = some b) (hv : b ≤ 20000 * mv) : h.stringOpen g mv =
      (h.put (AFE_EXC_STAT_STRING_OPEN g) (ofBool false)).setGroup g { h.group g with stringFault := false } := by
  rw [stringOpen]
  simp only [hb, hen, hp, hr, Nat.not_lt.2 hv, Bool.not_true, Bool.or_false, Bool.false_eq_true, if_false]
  rfl

theorem stringOpen_undecided {h : Hub} {g : Nat} (mv : Nat)
    (hn : (h.flag (AFE_EXC_CFG_EN g) && h.afePowered g && h.hasRes g && (h.group g).baseline.isSome) = false) : h.stringOpen g mv = h := by
  rw [stringOpen]
  cases hb : (h.group g).baseline <;> simp_all

/-! ### The inputs of an open string -/

theorem cell_markString (h : Hub) (g : Nat) {i : Nat} (hi : i < 16) (hm : h.mode (16 * g + i) = 4) (ha : h.acquires (16 * g + i) = true) :
    (h.markString g).cell (16 * g + i) = { h.cell (16 * g + i) with strFault := true } := by
  rw [markString, cell_foldl (κ := fun _ i => 16 * g + i) (q := fun h i => h.mode (16 * g + i) = 4 ∧ h.acquires (16 * g + i) = true)
    (T := fun c h => h.setCell c { h.cell c with strFault := true }) (U := fun h c => { h.cell c with strFault := true })
    (fun h d e => cell_setCell ..) (fun h d e => ?_) (fun _ _ _ => rfl) (fun _ _ _ => Iff.rfl), if_pos ⟨i, by simp [hi], rfl, hm, ha⟩]
  rw [cell_setCell]
  split_ifs with he
  · rw [he]
  · rfl

@[simp] theorem group_markString (h : Hub) (g n : Nat) : (h.markString g).group n = h.group n := by
  refine foldl_keeps (fun k : Hub => k.group n) (fun k i => ?_) _ _
  split_ifs <;> rfl

@[simp] theorem flag_markString (h : Hub) (g : Nat) (f : Fld) : (h.markString g).flag f = h.flag f := by
  refine foldl_keeps (fun k : Hub => k.flag f) (fun k i => ?_) _ _
  split_ifs <;> rfl

@[simp] theorem occurrences_markString (h : Hub) (g n : Nat) : (h.markString g).occurrences n = h.occurrences n := by
  refine foldl_keeps (fun k : Hub => k.occurrences n) (fun k i => ?_) _ _
  split_ifs <;> rfl

theorem framed_markString (h : Hub) (g : Nat) : Framed (fun _ => False) [.afe] h (h.markString g) :=
  framed_foldl (fun _ _ => framed_ite (framed_setCell ..)) _ _

end Hub

/-- The marking of a flag of a group and of the group, reported. -/
theorem framed_mark {h h' : Hub} {g a cause : Nat} {d : List Nat} (hf : Framed (· = a) [.afe] h h') :
    Framed (among [a]) (.afe :: eventParts) h (h'.groupEvent g cause 15 d) :=
  (hf.trans (framed_groupEvent ..)).mono (by simp) (by simp)

theorem excLimit_completes {s : State} (ha : s.hub.awake) {g : Nat} (v : Nat) (hen : s.hub.flag (AFE_EXC_CFG_EN g) = true)
    (hp : s.hub.afePowered g = true) (hl : s.hub.flag (AFE_EXC_STAT_LIMIT g) = false) :
    Completes (.excLimit g v) s fun k => k.flag (AFE_EXC_STAT_LIMIT g) = true ∧ k.fld (AFE_EXC_STAT_LOAD g) = v % 65536 ∧
      k.group g = { s.hub.group g with limitFault := true } ∧ Hub.oneMore g s.hub k ∧
      Framed (among [AFE_EXC_STAT g]) (.afe :: eventParts) s.hub k := by
  refine completes_timeless rfl ha (fun _ hk => hk) ?_
  rw [Hub.excLimit_eq (h := s.hub.passTime) v hen hp hl]
  refine ⟨?_, ?_, ?_, ?_, ?_⟩
  · rw [Hub.flag_groupEvent, Hub.flag_setGroup, Hub.flag_put_self _ _ _ rfl (by simp [AFE_EXC_STAT_LIMIT])]
  · rw [Hub.fld_groupEvent, Hub.fld_setGroup, Hub.fld_put_disjoint _ _ _ _ (by simp [AFE_EXC_STAT_LIMIT])
      (by simp [AFE_EXC_STAT_LIMIT, AFE_EXC_STAT_LOAD]), Hub.fld_put_self _ _ _ (by simp [AFE_EXC_STAT_LOAD])]
    rfl
  · rw [Hub.group_groupEvent, Hub.group_setGroup_self]
    rfl
  · simp [Hub.oneMore, Hub.occurrences_groupEvent]
  · exact framed_mark (h := s.hub.passTime) ((((framed_put ..).trans (framed_put ..)).trans (framed_setGroup ..)).mono
      (by simp [AFE_EXC_STAT_LIMIT, AFE_EXC_STAT_LOAD]) (by simp))

theorem excSenseOpen_completes {s : State} (ha : s.hub.awake) {g : Nat} (v : Nat) (hen : s.hub.flag (AFE_EXC_CFG_EN g) = true)
    (hp : s.hub.afePowered g = true) (hl : s.hub.flag (AFE_EXC_STAT_SENSE_OPEN g) = false) :
    Completes (.excSenseOpen g v) s fun k => k.flag (AFE_EXC_STAT_SENSE_OPEN g) = true ∧
      k.group g = { s.hub.group g with senseFault := true } ∧ Hub.oneMore g s.hub k ∧
      Framed (among [AFE_EXC_STAT g]) (.afe :: eventParts) s.hub k := by
  refine completes_timeless rfl ha (fun _ hk => hk) ?_
  rw [Hub.excSenseOpen_eq (h := s.hub.passTime) v hen hp hl]
  refine ⟨?_, ?_, ?_, ?_⟩
  · rw [Hub.flag_groupEvent, Hub.flag_setGroup, Hub.flag_put_self _ _ _ rfl (by simp [AFE_EXC_STAT_SENSE_OPEN])]
  · rw [Hub.group_groupEvent, Hub.group_setGroup_self]
    rfl
  · simp [Hub.oneMore, Hub.occurrences_groupEvent]
  · exact framed_mark (h := s.hub.passTime) (((framed_put ..).trans (framed_setGroup ..)).mono
      (by simp [AFE_EXC_STAT_SENSE_OPEN]) (by simp))

/-- An end of the limit or of the open sense line: the flag is cleared, and the group is without the fault. -/
theorem excEnd_completes {c : Instr} {s : State} (ha : s.hub.awake) {g : Nat} {f : Fld} (x : Group → Group)
    (e : exec c s = s.onHub fun h => (h.put f 0).setGroup g (x (h.group g))) (hf : f.addr = AFE_EXC_STAT g) (hw : f.width = 1)
    (hl : f.lo < 32) : Completes c s fun k => k.flag f = false ∧ k.group g = x (s.hub.group g) ∧
      Framed (among [AFE_EXC_STAT g]) [.afe] s.hub k := by
  refine completes_timeless e ha (fun _ hk => hk) ⟨?_, ?_, ?_⟩
  · exact (Hub.flag_setGroup ..).trans (Hub.flag_put_self _ f false hw hl)
  · exact Hub.group_setGroup_self ..
  · exact ((framed_put s.hub.passTime f 0).trans (framed_setGroup ..)).mono (by simp [hf]) (by simp)

theorem stringOpen_below_completes {s : State} (ha : s.hub.awake) {g v b : Nat} (hg : g < 32)
    (hen : s.hub.flag (AFE_EXC_CFG_EN g) = true)
    (hp : s.hub.afePowered g = true) (hr : s.hub.hasRes g = true) (hb : (s.hub.group g).baseline = some b) (hv : 20000 * v < b)
    (hl : s.hub.flag (AFE_EXC_STAT_STRING_OPEN g) = false) :
    Completes (.stringOpen g v) s fun k => k.flag (AFE_EXC_STAT_STRING_OPEN g) = true ∧
      k.group g = { s.hub.group g with stringFault := true, stringOnset := s.hub.tickMt } ∧ Hub.oneMore g s.hub k ∧
      (∀ n < 16, s.hub.mode (16 * g + n) = 4 → s.hub.acquires (16 * g + n) = true → k.faulty (16 * g + n) = true) ∧
      Framed (among [AFE_EXC_STAT g]) (.afe :: eventParts) s.hub k := by
  refine completes_timeless rfl ha (fun _ hk => hk) ?_
  rw [Hub.stringOpen_below (h := s.hub.passTime) hen hp hr hb hv hl]
  refine ⟨?_, ?_, ?_, fun n hn hm hq => ?_, ?_⟩
  · rw [Hub.flag_groupEvent, Hub.flag_markString, Hub.flag_setGroup,
      Hub.flag_put_self _ _ _ rfl (by simp [AFE_EXC_STAT_STRING_OPEN])]
  · rw [Hub.group_groupEvent, Hub.group_markString, Hub.group_setGroup_self]
    rfl
  · simp [Hub.oneMore, Hub.occurrences_groupEvent]
  · have hmode (d : Nat) (hd : d ≤ 16 * g + n) : ((s.hub.passTime.put (AFE_EXC_STAT_STRING_OPEN g) (ofBool true)).setGroup g
        { s.hub.passTime.group g with stringFault := true, stringOnset := s.hub.passTime.tickMt }).mode d = s.hub.passTime.mode d := by
      rw [Hub.mode_setGroup, Hub.mode_put _ _ (by omega) (by simp only [AFE_EXC_STAT_STRING_OPEN, AFE_EXC_STAT]; omega)]
    rw [Hub.faulty, Hub.cell_groupEvent, Hub.cell_markString _ g hn]
    · simp
    · rw [hmode _ le_rfl]; exact hm
    · rw [Hub.acquires_of_mode hmode]; exact hq
  · exact framed_mark (h := s.hub.passTime) ((((framed_put ..).trans (framed_setGroup ..)).trans (Hub.framed_markString ..)).mono
      (by simp [AFE_EXC_STAT_STRING_OPEN]) (by simp))

theorem stringOpen_above_completes {s : State} (ha : s.hub.awake) {g v b : Nat} (hen : s.hub.flag (AFE_EXC_CFG_EN g) = true)
    (hp : s.hub.afePowered g = true) (hr : s.hub.hasRes g = true) (hb : (s.hub.group g).baseline = some b) (hv : b ≤ 20000 * v) :
    Completes (.stringOpen g v) s fun k => k.flag (AFE_EXC_STAT_STRING_OPEN g) = false ∧
      k.group g = { s.hub.group g with stringFault := false } ∧ (∀ c, k.cell c = s.hub.cell c) ∧
      Framed (among [AFE_EXC_STAT g]) [.afe] s.hub k := by
  refine completes_timeless rfl ha (fun _ hk => hk) ?_
  rw [Hub.stringOpen_above (h := s.hub.passTime) hen hp hr hb hv]
  refine ⟨?_, ?_, fun c => ?_, ?_⟩
  · rw [Hub.flag_setGroup, Hub.flag_put_self _ _ _ rfl (by simp [AFE_EXC_STAT_STRING_OPEN])]
  · rw [Hub.group_setGroup_self]
    rfl
  · rw [Hub.cell_setGroup, Hub.cell_put]
    rfl
  · exact ((framed_put s.hub.passTime ..).trans (framed_setGroup ..)).mono (by simp [AFE_EXC_STAT_STRING_OPEN]) (by simp)

theorem rrefBaseline_completes {s : State} (ha : s.hub.awake) {g : Nat} (v : Nat) (hen : s.hub.flag (AFE_EXC_CFG_EN g) = true)
    (hp : s.hub.afePowered g = true) (hr : s.hub.hasRes g = true) :
    Completes (.rrefBaseline g v) s fun k => k.group g = { s.hub.group g with baseline := some v } ∧
      Framed (fun _ => False) [.afe] s.hub k := by
  have hcond : (s.hub.passTime.flag (AFE_EXC_CFG_EN g) && s.hub.passTime.afePowered g && s.hub.passTime.hasRes g) = true := by
    simp only [Bool.and_eq_true]
    exact ⟨⟨hen, hp⟩, hr⟩
  refine completes_timeless rfl ha (fun _ hk => hk) ?_
  rw [Hub.takeBaseline, if_pos hcond]
  exact ⟨Hub.group_setGroup_self .., framed_setGroup s.hub.passTime ..⟩

/-- Settles O12, each command by the equation that says what it does where it acts. -/
theorem excitationConditions : Obligations.ExcitationConditions := by
  intro s g v ha hg
  refine ⟨fun hen hp hl => excLimit_completes ha v hen hp hl,
    excEnd_completes ha (fun x => { x with limitFault := false }) rfl rfl rfl (by simp [AFE_EXC_STAT_LIMIT]),
    fun hen hp hl => excSenseOpen_completes ha v hen hp hl,
    excEnd_completes ha (fun x => { x with senseFault := false }) rfl rfl rfl (by simp [AFE_EXC_STAT_SENSE_OPEN]),
    fun b hen hp hr hb hv hl => stringOpen_below_completes ha hg hen hp hr hb hv hl,
    fun b hen hp hr hb hv => stringOpen_above_completes ha hen hp hr hb hv, fun hn => ?_,
    fun hen hp hr => rrefBaseline_completes ha v hen hp hr⟩
  refine completes_timeless rfl ha (fun _ hk => hk) ?_
  rw [Hub.stringOpen_undecided (h := s.hub.passTime) v hn]
  exact framed_passTime s.hub

end Sys2Proof.Machine
end
section
/-!
PROOFS. Live writes to the registers of inputs and groups (R70, R75, R98, R102).
-/

namespace Sys2Proof.Machine

namespace Hub

/-! ### Refused writes -/

theorem framed_withWl (h : Hub) (w : Link) : Framed (fun _ => False) [.wl] h { h with wl := w } :=
  ⟨fun _ _ => rfl, fun p hp => by cases p <;> simp_all [Part.same]⟩

theorem occurrences_withWl (h : Hub) (w : Link) (n : Nat) : ({ h with wl := w } : Hub).occurrences n = h.occurrences n :=
  occurrences_congr rfl n

/-- The words of an entry of the violation log, with its counts. -/
def logViolation (w0 w1 : Word) (h : Hub) : Hub :=
  let i := h.fld WL_VLOG_CNT_HEAD
  let h := (h.setReg (WL_VLOG_W0 i) w0).setReg (WL_VLOG_W1 i) w1
  let h := (h.setReg (WL_VLOG_W2 i) (BitVec.ofNat 32 h.lt)).setReg (WL_VLOG_W3 i) (BitVec.ofNat 32 (h.lt / 2 ^ 32))
  (h.bump WL_VLOG_CNT_TOTAL 1).bumpMod WL_VLOG_CNT_HEAD 1

theorem framed_logViolation (h : Hub) (w0 w1 : Word) : Framed (inBlocks [9]) [] h (h.logViolation w0 w1) := by
  have hi := h.fld_lt WL_VLOG_CNT_HEAD
  refine ((((((framed_setReg ..).trans (framed_setReg ..)).trans (framed_setReg ..)).trans (framed_setReg ..)).trans (framed_bump ..)).trans
    (framed_bumpMod ..)).mono (fun a ha => ?_) (by simp)
  simp only [WL_VLOG_CNT_HEAD, WL_VLOG_CNT_TOTAL, WL_VLOG_CNT, WL_VLOG_W0, WL_VLOG_W1, WL_VLOG_W2, WL_VLOG_W3] at ha hi
  simp only [inBlocks, List.mem_singleton]
  omega

/-- What a violation does: its entry, the report that is due at most once per millisecond, and what the link counts of it (R302). -/
theorem violation_cases {P : Hub → Prop} {h : Hub} (source code opcode dlsn detail : Nat)
    (hdue : ∀ w0 w1 n w, P { (h.logViolation w0 w1).raise 252 0 [n] with wl := w })
    (hlog : ∀ w0 w1 w, P { h.logViolation w0 w1 with wl := w }) : P (h.violation source code opcode dlsn detail) := by
  rw [violation]
  split_ifs
  · exact hdue ..
  · exact hlog ..

/-- A violation writes registers of block 9 and the link's count of it, and may raise LINK_VIOLATION. -/
theorem framed_violation (h : Hub) (source code opcode dlsn detail : Nat) :
    Framed (inBlocks [9]) (.wl :: eventParts) h (h.violation source code opcode dlsn detail) :=
  violation_cases (P := Framed (inBlocks [9]) (.wl :: eventParts) h) _ _ _ _ _
    (fun w0 w1 n w => (((framed_logViolation h w0 w1).trans (framed_raise _ 252 0 [n])).trans (framed_withWl _ w)).mono (by simp) (by simp))
    (fun w0 w1 w => ((framed_logViolation h w0 w1).trans (framed_withWl _ w)).mono (by simp) (by simp))

theorem evt_logViolation (h : Hub) (w0 w1 : Word) : (h.logViolation w0 w1).evt = h.evt := by
  rw [logViolation, bumpMod_evt, bump_evt, setReg_evt, setReg_evt, setReg_evt, setReg_evt]

theorem occurrences_violation (h : Hub) (source code opcode dlsn detail : Nat) {n : Nat} (hn : n < 250) :
    (h.violation source code opcode dlsn detail).occurrences n = h.occurrences n :=
  violation_cases (P := fun k => k.occurrences n = h.occurrences n) _ _ _ _ _
    (fun w0 w1 m w => by
      rw [occurrences_withWl ((h.logViolation w0 w1).raise 252 0 [m]) w, occurrences_raise, if_neg (by omega),
        occurrences_congr (evt_logViolation h w0 w1)])
    (fun w0 w1 w => by rw [occurrences_withWl (h.logViolation w0 w1) w, occurrences_congr (evt_logViolation h w0 w1)])

/-- What the report of an access does: nothing, an event of the MC, or an entry of the violation log (R12, R302, R326, R350). -/
theorem report_cases {P : Hub → Prop} {h : Hub} (p : Path) (o : Outcome) (addr : Nat) (write : Bool) (hsame : P h)
    (hraise : ∀ src d, 250 ≤ src → P (h.raise src 0 d))
    (hviol : ∀ source code opcode dlsn detail, P (h.violation source code opcode dlsn detail)) : P (h.report p o addr write) := by
  cases o with
  | done | unreachable => exact hsame
  | locked | badState | badAddr =>
    cases p with
    | mc => exact hraise _ _ (by decide)
    | jtag | downlink | ethernet => exact hviol ..

theorem framed_report (h : Hub) (p : Path) (o : Outcome) (addr : Nat) (write : Bool) :
    Framed (inBlocks [9]) (.wl :: eventParts) h (h.report p o addr write) :=
  report_cases p o addr write ((framed_refl h).mono (by simp) (by simp))
    (fun src d _ => (framed_raise h src 0 d).mono (by simp) (by simp)) (framed_violation h)

theorem occurrences_report (h : Hub) (p : Path) (o : Outcome) (addr : Nat) (write : Bool) {n : Nat} (hn : n < 250) :
    (h.report p o addr write).occurrences n = h.occurrences n :=
  report_cases (P := fun k => k.occurrences n = h.occurrences n) p o addr write rfl
    (fun src d hs => (occurrences_raise ..).trans (if_neg (by omega))) (fun _ _ _ _ _ => occurrences_violation _ _ _ _ _ _ hn)

/-! ### The configuration of an input (R75) -/

theorem framed_stage (h : Hub) (a : Nat) (v : Word) : Framed (fun _ => False) [.staged] h (h.stage a v) :=
  ⟨fun _ _ => rfl, fun p hp => by cases p <;> simp_all [Part.same, stage]⟩

/-- A write over a path that reaches live registers is done, or reported where it is refused. -/
theorem writeCmdWith_live {h k : Hub} {p : Path} {f : Hub → Bool × Hub} {ok : Bool} (addr : Nat) (hp : h.livePath p) (hf : f h = (ok, k)) :
    h.writeCmdWith p addr f = if ok then k else k.report p .locked addr true := by
  obtain ⟨hd, hlc⟩ := hp
  simp [writeCmdWith, hd, writable, hlc, hf]

theorem writeCellCfg_taken {h : Hub} {c : Nat} {v : Word} (hb : h.cellCfgBad c v.toNat = false) :
    h.writeCellCfg c v = (true, h.stage (AFE_CELL_CFG c) (v &&& 0xF3FF)) := by
  rw [writeCellCfg, hb]
  rfl

theorem writeCellCfg_refused {h : Hub} {c : Nat} {v : Word} (hb : h.cellCfgBad c v.toNat = true) :
    h.writeCellCfg c v = (false, h.groupEvent (c / 16) 0x0A (c % 16) [AFE_CELL_CFG c - 0x20000, v.toNat]) := by
  rw [writeCellCfg, hb]
  rfl

/-! ### Requests for the inputs of a group (R70, R102) -/

/-- A change of the inputs of a group that a mask names: what `requestZero` and `requestCapture` are. -/
def changeMasked (u : Cell → Cell) (g mask : Nat) (h : Hub) : Hub :=
  (List.range 16).foldl (fun (h : Hub) (i : Nat) => if bit mask i then h.setCell (16 * g + i) (u (h.cell (16 * g + i))) else h) h

/-- A change that makes no difference the second time is made to exactly the inputs of the mask. -/
theorem cell_changeMasked {u : Cell → Cell} (hu : ∀ x, u (u x) = u x) (g mask : Nat) (h : Hub) (c : Nat) :
    (h.changeMasked u g mask).cell c = if (c / 16 == g && bit mask (c % 16)) = true then u (h.cell c) else h.cell c := by
  rw [changeMasked, cell_foldl (κ := fun _ i => 16 * g + i) (q := fun _ i => bit mask i = true)
    (T := fun d h => h.setCell d (u (h.cell d))) (U := fun h d => u (h.cell d)) (fun h d e => cell_setCell ..) (fun h d e => ?_)
    (fun _ _ _ => rfl) (fun _ _ _ => Iff.rfl)]
  · refine if_congr ?_ rfl rfl
    simp only [List.mem_range, Bool.and_eq_true, beq_iff_eq]
    refine ⟨?_, fun ⟨hg, hb⟩ => ⟨c % 16, by omega, by omega, hb⟩⟩
    rintro ⟨i, hi, rfl, hb⟩
    exact ⟨by omega, by rwa [show (16 * g + i) % 16 = i by omega]⟩
  · rw [cell_setCell]
    split_ifs with he
    · rw [he, hu]
    · rfl

theorem framed_changeMasked (u : Cell → Cell) (g mask : Nat) (h : Hub) : Framed (fun _ => False) [.afe] h (h.changeMasked u g mask) :=
  framed_foldl (fun _ _ => framed_ite (framed_setCell ..)) _ _

/-! ### Clear requests (R98) -/

/-- The conditions of R98 for an input are made of registers, of what its group shows, and of its ball and those of its pair. -/
theorem mayClear_congr {h k : Hub} {c : Nat} (hr : h.regs = k.regs) (hg : h.afe.groups = k.afe.groups)
    (hb : (h.cell c).inBand = (k.cell c).inBand) (hcl : (h.cell c).clear = (k.cell c).clear)
    (ho : ∀ d, (h.cell d).openHi = (k.cell d).openHi) : h.mayClear c = k.mayClear c := by
  simp only [mayClear, dipDecides, openReads, excApplies, strApplies, isPartner, mode_congr hr, flag_congr hr, fld_congr hr,
    group_congr hg, hb, hcl, ho]

/-- What a clear request makes of an input marked FAULT: it is kept, and what marks the input ends where R98 lets it. -/
def clearedCell (h : Hub) (c : Nat) : Cell :=
  let x : Cell := { h.cell c with clear := true }
  if (h.setCell c x).mayClear c then { x with dipFault := false, strFault := false, excFault := false } else x

theorem cell_tryClear (h : Hub) (c d : Nat) : (h.tryClear c).cell d = if d = c then
    (if h.mayClear c then { h.cell c with dipFault := false, strFault := false, excFault := false } else h.cell c) else h.cell d := by
  have hsame : h.cell d = if d = c then h.cell c else h.cell d := by
    split_ifs with hd
    · rw [hd]
    · rfl
  rw [tryClear]
  cases hm : h.mayClear c
  · simpa using hsame
  · cases hf : (h.cell c).dipFault || (h.cell c).strFault || (h.cell c).excFault
    · have hnone : { h.cell c with dipFault := false, strFault := false, excFault := false } = h.cell c := by
        generalize h.cell c = x at hf
        cases x
        simp_all
      simpa [hnone] using hsame
    · simp [cell_setCell]

theorem framed_tryClear (h : Hub) (c : Nat) : Framed (fun _ => False) [.afe] h (h.tryClear c) :=
  framed_ite (framed_setCell ..)

theorem clearedCell_keeps (h : Hub) (c : Nat) : (h.clearedCell c).clear = true ∧ (h.clearedCell c).inBand = (h.cell c).inBand ∧
    (h.clearedCell c).openHi = (h.cell c).openHi := by
  rw [clearedCell]
  split_ifs <;> exact ⟨rfl, rfl, rfl⟩

/-- A clear request for input `d`. -/
def askClear (d : Nat) (h : Hub) : Hub := (h.setCell d { h.cell d with clear := true }).tryClear d

theorem cell_askClear (h : Hub) (d e : Nat) : (h.askClear d).cell e = if e = d then h.clearedCell d else h.cell e := by
  rw [askClear, cell_tryClear, cell_setCell_self, clearedCell, cell_setCell]
  split_ifs <;> rfl

theorem askClear_regs (h : Hub) (d : Nat) : (h.askClear d).regs = h.regs := by
  rw [askClear, tryClear]
  split_ifs <;> rfl

theorem askClear_groups (h : Hub) (d : Nat) : (h.askClear d).afe.groups = h.afe.groups := by
  rw [askClear, tryClear]
  split_ifs <;> rfl

/-- A request for one input does not change the conditions of R98 for the cells that have one. -/
theorem mayClear_askClear (h : Hub) (d e : Nat) {x y : Cell} (hc : x.clear = y.clear) (hb : x.inBand = y.inBand)
    (ho : x.openHi = y.openHi) : ((h.askClear d).setCell e x).mayClear e = (h.setCell e y).mayClear e := by
  refine mayClear_congr (h.askClear_regs d) (h.askClear_groups d) (by simpa using hb) (by simpa using hc) fun n => ?_
  rw [cell_setCell, cell_setCell, cell_askClear]
  split_ifs with he hd
  · exact ho
  · rw [hd]; exact (h.clearedCell_keeps d).2.2
  · rfl

/-- Asking again, for the same input or for another one, changes nothing in what a request makes of an input. -/
theorem clearedCell_askClear (h : Hub) (d e : Nat) : (h.askClear d).clearedCell e = h.clearedCell e := by
  by_cases he : e = d
  · subst he
    obtain ⟨-, hb, ho⟩ := h.clearedCell_keeps e
    have hcell : (h.askClear e).cell e = h.clearedCell e := by rw [cell_askClear, if_pos rfl]
    rw [clearedCell, hcell]
    dsimp only
    rw [mayClear_askClear h e e (x := { h.clearedCell e with clear := true }) (y := { h.cell e with clear := true }) rfl hb ho]
    cases hm : (h.setCell e { h.cell e with clear := true }).mayClear e
    · have hx : h.clearedCell e = { h.cell e with clear := true } := if_neg (ne_true_of_eq_false hm)
      rw [hx]
      rfl
    · have hx : h.clearedCell e = { h.cell e with clear := true, dipFault := false, strFault := false, excFault := false } := if_pos hm
      rw [hx]
      rfl
  · have hcell : (h.askClear d).cell e = h.cell e := by rw [cell_askClear, if_neg he]
    rw [clearedCell, hcell, mayClear_askClear _ _ _ rfl rfl rfl, clearedCell]

/-- Every input that a mask asks for and that is marked FAULT, or the even one of its pair, has its request (R98). -/
theorem cell_requestClear (h : Hub) (g mask c : Nat) : (h.requestClear g mask).cell c =
    if ((List.range 16).any fun i => bit mask i && h.pairOf (16 * g + i) == c && h.flag (AFE_CELL_STAT_FAULT c)) = false then h.cell c
    else h.clearedCell c := by
  have hpair (k : Hub) (d i : Nat) : (k.askClear d).pairOf i = k.pairOf i := pairOf_of_mode fun _ _ => mode_congr (askClear_regs ..) _
  have hfold := cell_foldl (κ := fun h i => h.pairOf (16 * g + i)) (T := askClear) (U := clearedCell)
    (q := fun h i => (bit mask i && h.flag (AFE_CELL_STAT_FAULT (h.pairOf (16 * g + i)))) = true) cell_askClear clearedCell_askClear
    (fun k d i => hpair ..) (fun k d i => by rw [hpair, flag_congr (askClear_regs k d)]) (List.range 16) h c
  refine hfold.trans ?_
  cases hasked : (List.range 16).any fun i => bit mask i && h.pairOf (16 * g + i) == c && h.flag (AFE_CELL_STAT_FAULT c)
  · refine if_neg ?_
    rintro ⟨i, hi, rfl, hq⟩
    simp only [List.any_eq_false, Bool.and_eq_true, beq_iff_eq, not_and] at hasked hq
    exact hasked i hi ⟨hq.1, rfl⟩ hq.2
  · obtain ⟨i, hi, hq⟩ := List.any_eq_true.1 hasked
    simp only [Bool.and_eq_true, beq_iff_eq] at hq
    obtain ⟨⟨hb, rfl⟩, hf⟩ := hq
    exact if_pos ⟨i, hi, rfl, by rw [hb, hf]; rfl⟩

theorem framed_requestClear (h : Hub) (g mask : Nat) : Framed (fun _ => False) [.afe] h (h.requestClear g mask) :=
  framed_foldl (fun k i => framed_ite (((framed_setCell ..).trans (framed_tryClear ..)).mono (by simp) (by simp))) _ _

end Hub

theorem cellCfgWrite_taken_completes {s : State} (ha : s.hub.awake) {p : Path} (hp : s.hub.livePath p) {c : Nat} {v : Word}
    (hb : s.hub.cellCfgBad c v.toNat = false) : Completes (.cellCfgWrite p c v) s fun k =>
      SMap.find? k.staged (AFE_CELL_CFG c) = some (v &&& 0xF3FF) ∧
      (∀ a, a ≠ AFE_CELL_CFG c → SMap.find? k.staged a = SMap.find? s.hub.staged a) ∧
      Framed (fun _ => False) [.staged] s.hub k := by
  refine completes_timeless rfl ha (fun _ hk => hk) ?_
  rw [Hub.writeCmdWith_live (h := s.hub.passTime) _ hp (Hub.writeCellCfg_taken hb), if_pos rfl]
  exact ⟨SMap.find?_insert_self .., fun a hne => SMap.find?_insert_ne _ _ hne, Hub.framed_stage s.hub.passTime ..⟩

theorem cellCfgWrite_refused_completes {s : State} (ha : s.hub.awake) {p : Path} (hp : s.hub.livePath p) {c : Nat} (hc : c < 512) {v : Word}
    (hb : s.hub.cellCfgBad c v.toNat = true) : Completes (.cellCfgWrite p c v) s fun k =>
      k.staged = s.hub.staged ∧ k.reg (AFE_CELL_CFG c) = s.hub.reg (AFE_CELL_CFG c) ∧ Hub.oneMore (c / 16) s.hub k := by
  refine completes_timeless rfl ha (fun _ hk => hk) ?_
  rw [Hub.writeCmdWith_live (h := s.hub.passTime) _ hp (Hub.writeCellCfg_refused hb), if_neg Bool.false_ne_true]
  obtain ⟨hreg, hpart⟩ := (framed_groupEvent s.hub.passTime (c / 16) 0x0A (c % 16) [AFE_CELL_CFG c - 0x20000, v.toNat]).trans
    (Hub.framed_report _ p .locked (AFE_CELL_CFG c) true)
  refine ⟨hpart .staged (by simp), hreg _ (by simp only [AFE_CELL_CFG, inBlocks, List.mem_singleton, false_or]; omega), ?_⟩
  rw [Hub.oneMore, Hub.occurrences_report _ _ _ _ _ (by omega), Hub.occurrences_groupEvent, if_pos rfl, Hub.occurrences_passTime]

/-- A request that a write leaves at the inputs of a mask. -/
theorem request_completes {c : Instr} {s : State} (ha : s.hub.awake) {p : Path} (hp : s.hub.livePath p) {addr g m : Nat} {u : Cell → Cell}
    (e : exec c s = s.onHub (Hub.writeCmd p addr .LV fun h => some (h.changeMasked u g m))) (hu : ∀ x, u (u x) = u x) :
    Completes c s fun k => (∀ c, k.cell c = if (c / 16 == g && bit m (c % 16)) = true then u (s.hub.cell c) else s.hub.cell c) ∧
      Framed (fun _ => False) [.afe] s.hub k := by
  refine completes_timeless e ha (fun _ hk => hk) ?_
  rw [Hub.writeCmd_live (h := s.hub.passTime) (f := fun h => some (h.changeMasked u g m)) _ hp rfl]
  exact ⟨fun c => Hub.cell_changeMasked hu g m s.hub.passTime c, Hub.framed_changeMasked u g m s.hub.passTime⟩

theorem faultClr_completes {s : State} (ha : s.hub.awake) {p : Path} (hp : s.hub.livePath p) (g m : Nat) :
    Completes (.faultClr p g m) s fun k =>
      (∀ c, k.cell c = if ((List.range 16).any fun i => bit m i && s.hub.pairOf (16 * g + i) == c && s.hub.flag (AFE_CELL_STAT_FAULT c))
        = false then s.hub.cell c else s.hub.clearedCell c) ∧ Framed (fun _ => False) [.afe] s.hub k := by
  refine completes_timeless rfl ha (fun _ hk => hk) ?_
  rw [Hub.writeCmd_live (h := s.hub.passTime) (h' := s.hub.passTime.requestClear g m) _ hp rfl]
  exact ⟨fun c => Hub.cell_requestClear s.hub.passTime g m c, Hub.framed_requestClear s.hub.passTime g m⟩

theorem Completes.mono {c : Instr} {s : State} {p q : Hub → Prop} (h : Completes c s p) (hpq : ∀ k, p k → q k) : Completes c s q := by
  obtain ⟨t, ht, hpend, hp⟩ := h
  exact ⟨t, ht, hpend, hpq _ hp⟩

/-- Settles O11: what a write of AFE.CELL_CFG leaves to the tick, and what a request leaves at the inputs of its mask. -/
theorem inputRegisterWrites : Obligations.InputRegisterWrites := by
  intro s p ha hp
  refine ⟨fun c v _ hb => cellCfgWrite_taken_completes ha hp hb, fun c v hc hb => cellCfgWrite_refused_completes ha hp hc hb,
    fun g m _ => ?_, fun g m _ => ?_, fun g m _ => faultClr_completes ha hp g m⟩
  · refine (request_completes ha hp (u := fun x => { x with zeroDue := true }) rfl fun _ => rfl).mono fun k hk => ⟨fun c => ?_, hk.2⟩
    rw [hk.1 c]
    cases c / 16 == g && bit m (c % 16) <;> simp
  · refine (request_completes ha hp (u := fun x => { x with capture := true }) rfl fun _ => rfl).mono fun k hk => ⟨fun c => ?_, hk.2⟩
    rw [hk.1 c]
    cases c / 16 == g && bit m (c % 16) <;> simp

end Sys2Proof.Machine
end
section
/-!
PROOFS. Open-detect and the lock-in of an input (R90, R94, R95).
-/

namespace Sys2Proof.Machine

namespace Hub

/-! ### Open-detect (R94, R95) -/

theorem pairOf_le (h : Hub) (c : Nat) : h.pairOf c ≤ c := by
  rw [pairOf]
  split_ifs <;> omega

/-- An input is the one whose settings hold for it, or the odd one of a pair. -/
theorem pairOf_cases (h : Hub) (c : Nat) : h.pairOf c = c ∨ h.pairOf c + 1 = c ∧ h.isPartner c = true := by
  rw [pairOf]
  split_ifs with hc
  · have hodd : c % 2 = 1 := by
      rw [isPartner, Bool.and_eq_true, beq_iff_eq] at hc
      exact hc.1
    exact .inr ⟨by omega, hc⟩
  · exact .inl rfl

/-- A ball of input `p`, or of its pair, has given FAULT_SUSPECT. -/
def suspected (h : Hub) (p : Nat) : Bool := (h.cell p).suspect || (h.isPartner (p + 1) && (h.cell (p + 1)).suspect)

theorem suspected_pairOf {h : Hub} {c : Nat} (hs : (h.cell c).suspect = true) : h.suspected (h.pairOf c) = true := by
  obtain hp | ⟨hp, hc⟩ := h.pairOf_cases c
  · rw [suspected, hp, hs, Bool.true_or]
  · rw [suspected, hp, hc, hs, Bool.true_and, Bool.or_true]

theorem flag_showSuspect (h : Hub) {p : Nat} (hp : p < 512) :
    (h.showSuspect p).flag (AFE_CELL_STAT_FAULT_SUSPECT p) = h.suspected p := by
  rw [showSuspect, flag_put_ne _ _ _ _ (by
      simp only [AFE_CELL_STAT_FAULT_SUSPECT, AFE_CELL_STAT, AFE_GRP_STAT_SUSPECT, AFE_GRP_STAT]; omega),
    flag_put_self _ _ _ rfl (by simp [AFE_CELL_STAT_FAULT_SUSPECT]), suspected]

@[simp] theorem cell_showSuspect (h : Hub) (p c : Nat) : (h.showSuspect p).cell c = h.cell c := by
  rw [showSuspect, cell_put, cell_put]

@[simp] theorem occurrences_showSuspect (h : Hub) (p n : Nat) : (h.showSuspect p).occurrences n = h.occurrences n := by
  rw [showSuspect, occurrences_put, occurrences_put]

theorem framed_showSuspect (h : Hub) (p : Nat) : Framed (among [AFE_CELL_STAT p, AFE_GRP_STAT (p / 16)]) [] h (h.showSuspect p) :=
  ((framed_put ..).trans (framed_put ..)).mono (by simp [AFE_CELL_STAT_FAULT_SUSPECT, AFE_GRP_STAT_SUSPECT]) (by simp)

theorem flag_tryClear (h : Hub) (c : Nat) (f : Fld) : (h.tryClear c).flag f = h.flag f := by
  rw [tryClear]
  split_ifs
  · exact flag_setCell ..
  · rfl

theorem suspect_tryClear (h : Hub) (c d : Nat) : ((h.tryClear c).cell d).suspect = (h.cell d).suspect := by
  rw [cell_tryClear]
  split_ifs with hd
  · rw [hd]
  · rw [hd]
  · rfl

/-- A ball that reads high for four ticks makes its input, or the even one of its pair, suspect. -/
theorem faultSuspect_eq {h : Hub} {c : Nat} (ticks : Nat) (hq : h.acquires (h.pairOf c) = true) (hm : h.mode (h.pairOf c) ≠ 2)
    (hp : h.afePowered (h.pairOf c / 16) = true) (hs : (h.cell c).suspect = false) : h.faultSuspect c ticks =
      let k := h.setCell c { h.cell c with openHi := true, suspect := decide (4 ≤ ticks) }
      if 4 ≤ ticks then (k.showSuspect (h.pairOf c)).groupEvent (h.pairOf c / 16) 1 (h.pairOf c % 16) (wide h.tickMt.pack) else k := by
  rw [faultSuspect]
  by_cases ht : 4 ≤ ticks
  · simp only [hq, beq_false_of_ne hm, hp, hs, ht, Nat.not_lt.2 ht, Bool.not_true, Bool.or_false, Bool.false_or, decide_true, decide_false,
      Bool.false_eq_true, if_false, if_true]
    rfl
  · simp only [hq, beq_false_of_ne hm, hp, hs, ht, Nat.lt_of_not_le ht, Bool.not_true, Bool.or_false, Bool.false_or, decide_true,
      decide_false, Bool.false_eq_true, if_false, if_true]

end Hub

theorem faultSuspect_completes {s : State} (ha : s.hub.awake) {c : Nat} (hc : c < 512) (ticks : Nat)
    (hq : s.hub.acquires (s.hub.pairOf c) = true) (hm : s.hub.mode (s.hub.pairOf c) ≠ 2)
    (hp : s.hub.afePowered (s.hub.pairOf c / 16) = true) (hs : (s.hub.cell c).suspect = false) :
    Completes (.faultSuspect ⟨c, ticks⟩) s fun k =>
      if 4 ≤ ticks then k.flag (AFE_CELL_STAT_FAULT_SUSPECT (s.hub.pairOf c)) = true ∧ Hub.oneMore (s.hub.pairOf c / 16) s.hub k ∧
        Framed (among [AFE_CELL_STAT (s.hub.pairOf c), AFE_GRP_STAT (s.hub.pairOf c / 16)]) (.afe :: eventParts) s.hub k
      else Framed (fun _ => False) [.afe] s.hub k := by
  refine completes_timeless rfl ha (fun _ hk => hk) ?_
  rw [Hub.faultSuspect_eq (h := s.hub.passTime) ticks hq hm hp hs]
  split_ifs with ht
  · refine ⟨?_, ?_, ?_⟩
    · rw [Hub.flag_groupEvent]
      refine (Hub.flag_showSuspect _ (lt_of_le_of_lt (Hub.pairOf_le ..) hc)).trans (Hub.suspected_pairOf ?_)
      rw [Hub.cell_setCell_self, decide_eq_true ht]
    · rw [Hub.oneMore, Hub.occurrences_groupEvent, if_pos (by rfl), Hub.occurrences_showSuspect, Hub.occurrences_setCell]
      rfl
    · have hpair : s.hub.passTime.pairOf c = s.hub.pairOf c := rfl
      rw [hpair]
      exact ((framed_setCell s.hub.passTime c _).trans ((Hub.framed_showSuspect ..).trans (framed_groupEvent ..))).mono (by simp)
        (by simp)
  · exact framed_setCell ..

/-- A ball that reads low for 16 frames is suspect no more, and its input is so where neither of its balls is. -/
theorem suspectClear_completes {s : State} (ha : s.hub.awake) {c : Nat} (hc : c < 512) (frames : Nat) :
    Completes (.suspectClear ⟨c, frames⟩) s fun k =>
      (k.cell c).suspect = ((s.hub.cell c).suspect && decide (frames < 16)) ∧
      k.flag (AFE_CELL_STAT_FAULT_SUSPECT (s.hub.pairOf c)) = ((k.cell (s.hub.pairOf c)).suspect ||
        (s.hub.isPartner (s.hub.pairOf c + 1) && (k.cell (s.hub.pairOf c + 1)).suspect)) ∧
      Framed (among [AFE_CELL_STAT (s.hub.pairOf c), AFE_GRP_STAT (s.hub.pairOf c / 16)]) [.afe] s.hub k := by
  refine completes_timeless rfl ha (fun _ hk => hk) ?_
  rw [Hub.suspectClear]
  refine ⟨?_, ?_, ?_⟩
  · rw [Hub.suspect_tryClear, Hub.cell_showSuspect, Hub.cell_setCell_self]
    rfl
  · rw [Hub.flag_tryClear, Hub.suspect_tryClear, Hub.suspect_tryClear, Hub.cell_showSuspect, Hub.cell_showSuspect]
    exact Hub.flag_showSuspect _ (lt_of_le_of_lt (Hub.pairOf_le ..) hc)
  · have hpair : s.hub.passTime.pairOf c = s.hub.pairOf c := rfl
    rw [hpair]
    exact ((framed_setCell s.hub.passTime c _).trans ((Hub.framed_showSuspect ..).trans (Hub.framed_tryClear ..))).mono (by simp) (by simp)

/-- A field of a register that a step leaves alone. -/
theorem Framed.fld_eq {r : Nat → Prop} {ps : List Part} {h k : Hub} (hf : Framed r ps h k) {f : Fld} (ha : ¬ r f.addr) :
    k.fld f = h.fld f := by
  rw [Hub.fld, hf.1 _ ha, Hub.fld]

theorem Framed.flag_eq {r : Nat → Prop} {ps : List Part} {h k : Hub} (hf : Framed r ps h k) {f : Fld} (ha : ¬ r f.addr) :
    k.flag f = h.flag f := by
  rw [Hub.flag, hf.fld_eq ha, Hub.flag]

namespace Hub

/-! ### A tone period (R90-R92) -/

/-- A write to DIP_BASE takes effect at the end of the tone period (R102). -/
def showBase (c : Nat) (h : Hub) : Hub := (h.cell c).baseDue.elim h (h.setReg (AFE_DIP_BASE c))

/-- The cell of an input, with the sums of the tone period that ended. -/
def withPeriod (c : Nat) (i q : Int) (h : Hub) : Cell :=
  { h.cell c with
    sums := ({ i := i, q := q, opened := h.periodTick } :: (h.cell c).sums).take 256, periods := (h.cell c).periods + 1
    lastPeriod := some (h.afe.dipFrames.getD 0 / h.fld AFE_DIP_STAT_DIV), baseDue := none }

/-- The result register shows the estimate at the end of every 256th period (R90). -/
def showEstimate (c : Nat) (x : Cell) (h : Hub) : Hub :=
  if x.periods % 256 = 0 then
    ((h.put (AFE_DIP_RESULT_MAG c) (dipMag x)).put (AFE_DIP_RESULT_PHASE c) (dipPhase x)).put (AFE_DIP_RESULT_VALID c) (ofBool true)
  else h

/-- A capture that was asked for takes the estimate of a full window as the base (R91, R102). -/
def captureBase (c : Nat) (x : Cell) (h : Hub) : Hub :=
  if x.periods % 256 = 0 && x.capture then
    (h.put (AFE_DIP_BASE_BASE_MAG c) (dipMag x)).setCell c { h.cell c with capture := false }
  else h

/-- A magnitude in the band counts towards the end of a fault, one outside it makes the input faulty (R91, R98). -/
def judgePeriod (c mag : Nat) (h : Hub) : Hub :=
  if !h.dipDecides c then h
  else if h.healthy c mag then (h.setCell c { h.cell c with inBand := (h.cell c).inBand + 1 }).tryClear c
  else h.setCell c { h.cell c with
    inBand := 0, dipFault := true, onset := if (h.cell c).dipFault then (h.cell c).onset else h.dipOnset c }

/-- The period that ended joins the sums. -/
def takePeriod (c : Nat) (i q : Int) (h : Hub) : Hub := (h.showBase c).setCell c (h.withPeriod c i q)

/-- The estimate of a full window is shown, captured and judged. -/
def closePeriod (c : Nat) (x : Cell) (h : Hub) : Hub := ((h.showEstimate c x).captureBase c x).judgePeriod c (dipMag x)

theorem dipPeriod_eq {h : Hub} {c : Nat} (i q : Int) (hr : h.toneRuns c = true) (h0 : h.fld AFE_DIP_STAT_DIV ≠ 0)
    (hd : h.fld AFE_DIP_STAT_DIV ≤ h.afe.dipFrames.getD 0)
    (hl : (h.cell c).lastPeriod ≠ some (h.afe.dipFrames.getD 0 / h.fld AFE_DIP_STAT_DIV)) : h.dipPeriod c i q =
      if (h.withPeriod c i q).sums.length < 256 then h.takePeriod c i q
      else (h.takePeriod c i q).closePeriod c (h.withPeriod c i q) := by
  rw [dipPeriod]
  simp only [hr, h0, Nat.not_lt.2 hd, beq_false_of_ne hl, Bool.not_true, decide_false, Bool.or_false, Bool.false_eq_true, if_false]
  rw [takePeriod, showBase]
  cases hb : (h.cell c).baseDue <;> rfl

/-- What the lock-in of an input has summed. -/
def lockIn (h : Hub) (c : Nat) : List ToneSum × Nat := ((h.cell c).sums, (h.cell c).periods)

theorem lockIn_setCell {h : Hub} {c : Nat} {x : Cell} (hs : x.sums = (h.cell c).sums) (hp : x.periods = (h.cell c).periods) :
    (h.setCell c x).lockIn c = h.lockIn c := by
  rw [lockIn, cell_setCell_self, hs, hp, lockIn]

theorem lockIn_put (h : Hub) (f : Fld) (v c : Nat) : (h.put f v).lockIn c = h.lockIn c := by rw [lockIn, cell_put, lockIn]

theorem lockIn_tryClear (h : Hub) (c : Nat) : (h.tryClear c).lockIn c = h.lockIn c := by
  rw [tryClear]
  split_ifs
  · exact lockIn_setCell rfl rfl
  · rfl

theorem lockIn_showEstimate (h : Hub) (c : Nat) (x : Cell) : (h.showEstimate c x).lockIn c = h.lockIn c := by
  rw [showEstimate]
  split_ifs
  · rw [lockIn_put, lockIn_put, lockIn_put]
  · rfl

theorem lockIn_captureBase (h : Hub) (c : Nat) (x : Cell) : (h.captureBase c x).lockIn c = h.lockIn c := by
  rw [captureBase]
  split_ifs
  · rw [lockIn_setCell, lockIn_put] <;> rw [cell_put]
  · rfl

theorem lockIn_judgePeriod (h : Hub) (c mag : Nat) : (h.judgePeriod c mag).lockIn c = h.lockIn c := by
  rw [judgePeriod]
  split_ifs
  · rfl
  · exact (lockIn_tryClear ..).trans (lockIn_setCell rfl rfl)
  · exact lockIn_setCell rfl rfl
  · exact lockIn_setCell rfl rfl

theorem framed_showBase (h : Hub) (c : Nat) : Framed (· = AFE_DIP_BASE c) [] h (h.showBase c) := by
  rw [showBase]
  cases (h.cell c).baseDue with
  | none => exact (framed_refl h).mono (fun _ hf => hf.elim) (by simp)
  | some v => exact framed_setReg ..

theorem framed_showEstimate (h : Hub) (c : Nat) (x : Cell) : Framed (· = AFE_DIP_RESULT c) [] h (h.showEstimate c x) :=
  framed_ite (((framed_put ..).trans ((framed_put ..).trans (framed_put ..))).mono
    (by simp [AFE_DIP_RESULT_MAG, AFE_DIP_RESULT_PHASE, AFE_DIP_RESULT_VALID]) (by simp))

theorem framed_captureBase (h : Hub) (c : Nat) (x : Cell) : Framed (· = AFE_DIP_BASE c) [.afe] h (h.captureBase c x) :=
  framed_ite (((framed_put ..).trans (framed_setCell ..)).mono (by simp [AFE_DIP_BASE_BASE_MAG]) (by simp))

theorem framed_judgePeriod (h : Hub) (c mag : Nat) : Framed (fun _ => False) [.afe] h (h.judgePeriod c mag) := by
  rw [judgePeriod]
  split_ifs
  · exact (framed_refl h).mono (fun _ hf => hf) (by simp)
  · exact ((framed_setCell ..).trans (framed_tryClear ..)).mono (by simp) (by simp)
  · exact framed_setCell ..
  · exact framed_setCell ..

/-- The estimate stands in the result register from the end of a 256th period on. -/
theorem result_showEstimate {h : Hub} {c : Nat} {x : Cell} (hx : x.periods % 256 = 0) :
    (h.showEstimate c x).fld (AFE_DIP_RESULT_MAG c) = dipMag x ∧ (h.showEstimate c x).flag (AFE_DIP_RESULT_VALID c) = true := by
  rw [showEstimate, if_pos hx]
  refine ⟨?_, flag_put_self _ _ true rfl (by simp [AFE_DIP_RESULT_VALID])⟩
  rw [fld_put_disjoint _ _ _ _ (by simp [AFE_DIP_RESULT_VALID]) (by simp [AFE_DIP_RESULT_VALID, AFE_DIP_RESULT_MAG]),
    fld_put_disjoint _ _ _ _ (by simp [AFE_DIP_RESULT_PHASE]) (by simp [AFE_DIP_RESULT_PHASE, AFE_DIP_RESULT_MAG]),
    fld_put_self _ _ _ (by simp [AFE_DIP_RESULT_MAG])]
  exact Nat.mod_eq_of_lt (Nat.lt_succ_of_le (min_le_left ..))

theorem lockIn_closePeriod (h : Hub) (c : Nat) (x : Cell) : (h.closePeriod c x).lockIn c = h.lockIn c := by
  rw [closePeriod, lockIn_judgePeriod, lockIn_captureBase, lockIn_showEstimate]

theorem framed_closePeriod (h : Hub) (c : Nat) (x : Cell) :
    Framed (among [AFE_DIP_BASE c, AFE_DIP_RESULT c]) [.afe] h (h.closePeriod c x) :=
  ((framed_showEstimate ..).trans ((framed_captureBase ..).trans (framed_judgePeriod ..))).mono (by simp) (by simp)

theorem framed_takePeriod (h : Hub) (c : Nat) (i q : Int) : Framed (· = AFE_DIP_BASE c) [.afe] h (h.takePeriod c i q) :=
  ((framed_showBase ..).trans (framed_setCell ..)).mono (by simp) (by simp)

/-- What is captured and judged leaves the estimate shown as it is. -/
theorem result_closePeriod {h : Hub} {c : Nat} {x : Cell} (hx : x.periods % 256 = 0) :
    (h.closePeriod c x).fld (AFE_DIP_RESULT_MAG c) = dipMag x ∧ (h.closePeriod c x).flag (AFE_DIP_RESULT_VALID c) = true := by
  have hlater := (framed_captureBase (h.showEstimate c x) c x).trans (framed_judgePeriod _ c (dipMag x))
  have hreg : ¬ (AFE_DIP_RESULT c = AFE_DIP_BASE c ∨ False) := by simp only [AFE_DIP_RESULT, AFE_DIP_BASE, or_false]; omega
  obtain ⟨hmag, hvalid⟩ := result_showEstimate (h := h) (c := c) hx
  exact ⟨(hlater.fld_eq hreg).trans hmag, (hlater.flag_eq hreg).trans hvalid⟩

/-- The magnitude depends on the sums alone. -/
theorem dipMag_congr {x y : Cell} (e : x.sums = y.sums) : dipMag x = dipMag y := by rw [dipMag, dipMag, e]

end Hub

theorem dipPeriodEnd_completes {s : State} (ha : s.hub.awake) {c : Nat} (i q : Int) (hr : s.hub.toneRuns c = true)
    (h0 : s.hub.fld AFE_DIP_STAT_DIV ≠ 0) (hd : s.hub.fld AFE_DIP_STAT_DIV ≤ s.hub.afe.dipFrames.getD 0)
    (hl : (s.hub.cell c).lastPeriod ≠ some (s.hub.afe.dipFrames.getD 0 / s.hub.fld AFE_DIP_STAT_DIV)) :
    Completes (.dipPeriodEnd c i q) s fun k =>
      (k.cell c).sums = ({ i := i, q := q, opened := s.hub.periodTick } :: (s.hub.cell c).sums).take 256 ∧
      (k.cell c).periods = (s.hub.cell c).periods + 1 ∧
      ((k.cell c).sums.length = 256 → (k.cell c).periods % 256 = 0 →
        k.fld (AFE_DIP_RESULT_MAG c) = Hub.dipMag (k.cell c) ∧ k.flag (AFE_DIP_RESULT_VALID c) = true) ∧
      Framed (among [AFE_DIP_BASE c, AFE_DIP_RESULT c]) [.afe] s.hub k := by
  refine completes_timeless rfl ha (fun _ hk => hk) ?_
  rw [Hub.dipPeriod_eq (h := s.hub.passTime) i q hr h0 hd hl]
  have hnew : (s.hub.passTime.takePeriod c i q).cell c = s.hub.passTime.withPeriod c i q := Hub.cell_setCell_self ..
  have hframe := Hub.framed_takePeriod s.hub.passTime c i q
  split_ifs with hshort
  · refine ⟨by rw [hnew]; rfl, by rw [hnew]; rfl, fun hfull => ?_, hframe.mono (by simp) (by simp)⟩
    rw [hnew] at hfull
    omega
  · have hlock := Hub.lockIn_closePeriod (s.hub.passTime.takePeriod c i q) c (s.hub.passTime.withPeriod c i q)
    rw [Hub.lockIn, Hub.lockIn, hnew, Prod.mk.injEq] at hlock
    obtain ⟨hsums, hperiods⟩ := hlock
    refine ⟨hsums, hperiods, fun _ hfull => ?_, (hframe.trans (Hub.framed_closePeriod ..)).mono (by simp) (by simp)⟩
    rw [hperiods] at hfull
    rw [Hub.dipMag_congr hsums]
    exact Hub.result_closePeriod hfull

end Sys2Proof.Machine
end
section
/-!
PROOFS. Comparator edges of an input and the urgent captures they request (R83-R87, R116-R119, R212), and what settles O13.
-/

namespace Sys2Proof.Machine

namespace Hub

/-! ### Comparator outputs (R83, R86, R87) -/

theorem cmpOut_raw {h : Hub} {c : Nat} (hf : h.flag (AFE_CELL_STAT_FAULT c) = false) (hz : h.flag (AFE_CELL_STAT_FROZEN c) = false)
    (hs : h.switchedOut c = false) (hq : h.acquires c = true) :
    h.cmpOut c = ((h.cell c).rawHi, (h.cell c).rawLo, (h.cell c).rawSw) := by
  rw [cmpOut]
  simp only [hf, hz, hs, hq, Bool.or_false, Bool.false_eq_true, if_false, if_true]

theorem cmpOut_kept {h : Hub} {c : Nat} (hf : h.flag (AFE_CELL_STAT_FAULT c) = false)
    (hz : h.flag (AFE_CELL_STAT_FROZEN c) = true ∨ h.switchedOut c = true) :
    h.cmpOut c = (h.flag (AFE_CELL_STAT_CMP_HI c), h.flag (AFE_CELL_STAT_CMP_LO c), h.flag (AFE_CELL_STAT_SW c)) := by
  rw [cmpOut]
  simp only [hf, Bool.or_eq_true, hz, Bool.false_eq_true, if_false, if_true]

theorem driveFlag_eq_self {h : Hub} {f : Fld} {on : Bool} (e : h.flag f = on) (number fine : Nat) : h.driveFlag f number fine on = h :=
  if_pos e

theorem flag_driveFlag_self (h : Hub) {f : Fld} (number fine : Nat) (on : Bool) (hw : f.width = 1) (hl : f.lo < 32) :
    (h.driveFlag f number fine on).flag f = on := by
  rw [driveFlag]
  split_ifs with e
  · exact e
  · exact (flag_congr rfl f).trans (flag_put_self h f on hw hl)

theorem flag_driveFlag_disjoint (h : Hub) {f g : Fld} (number fine : Nat) (on : Bool) (hf : f.lo + f.width ≤ 32)
    (hd : g.addr ≠ f.addr ∨ f.lo + f.width ≤ g.lo ∨ g.lo + g.width ≤ f.lo) : (h.driveFlag f number fine on).flag g = h.flag g := by
  rw [driveFlag]
  split_ifs with e
  · rfl
  · exact (flag_congr rfl g).trans (flag_put_disjoint h f g _ hf hd)

theorem window_driveFlag (h : Hub) (f : Fld) (number fine : Nat) (on : Bool) :
    (h.driveFlag f number fine on).trg.window = h.trg.window := by
  rw [driveFlag]
  split_ifs <;> rfl

theorem framed_driveFlag (h : Hub) (f : Fld) (number fine : Nat) (on : Bool) :
    Framed (· = f.addr) [.trg] h (h.driveFlag f number fine on) := by
  rw [driveFlag]
  split_ifs
  · exact (framed_refl h).mono (fun _ hr => hr.elim) (by simp)
  · exact ⟨fun a ha => (reg_congr rfl a).trans (reg_put_ne h f _ ha), fun p hp => by cases p <;> simp_all [Part.same]⟩

theorem driveCmpAt_eq (h : Hub) (c fine : Nat) : h.driveCmpAt c fine =
    ((h.driveFlag (AFE_CELL_STAT_CMP_HI c) c fine (h.cmpOut c).1).driveFlag (AFE_CELL_STAT_CMP_LO c) (512 + c) fine
      (h.cmpOut c).2.1).driveFlag (AFE_CELL_STAT_SW c) (1024 + c) fine (h.cmpOut c).2.2 := rfl

/-- Outputs that are kept are not driven. -/
theorem driveCmpAt_kept {h : Hub} {c : Nat} (hf : h.flag (AFE_CELL_STAT_FAULT c) = false)
    (hz : h.flag (AFE_CELL_STAT_FROZEN c) = true ∨ h.switchedOut c = true) (fine : Nat) : h.driveCmpAt c fine = h := by
  rw [driveCmpAt_eq, cmpOut_kept hf hz, driveFlag_eq_self rfl, driveFlag_eq_self rfl, driveFlag_eq_self rfl]

theorem flag_hi_driveCmpAt (h : Hub) (c fine : Nat) : (h.driveCmpAt c fine).flag (AFE_CELL_STAT_CMP_HI c) = (h.cmpOut c).1 := by
  rw [driveCmpAt_eq, flag_driveFlag_disjoint _ _ _ _ (by simp [AFE_CELL_STAT_SW]) (by simp [AFE_CELL_STAT_SW, AFE_CELL_STAT_CMP_HI]),
    flag_driveFlag_disjoint _ _ _ _ (by simp [AFE_CELL_STAT_CMP_LO]) (by simp [AFE_CELL_STAT_CMP_LO, AFE_CELL_STAT_CMP_HI]),
    flag_driveFlag_self _ _ _ _ rfl (by simp [AFE_CELL_STAT_CMP_HI])]

theorem flag_lo_driveCmpAt (h : Hub) (c fine : Nat) : (h.driveCmpAt c fine).flag (AFE_CELL_STAT_CMP_LO c) = (h.cmpOut c).2.1 := by
  rw [driveCmpAt_eq, flag_driveFlag_disjoint _ _ _ _ (by simp [AFE_CELL_STAT_SW]) (by simp [AFE_CELL_STAT_SW, AFE_CELL_STAT_CMP_LO]),
    flag_driveFlag_self _ _ _ _ rfl (by simp [AFE_CELL_STAT_CMP_LO])]

/-- A drive of the outputs changes no flag but theirs. -/
theorem flag_driveCmpAt_ne (h : Hub) (c fine : Nat) {f : Fld} (hh : f.lo + f.width ≤ 23 ∨ 26 ≤ f.lo) :
    (h.driveCmpAt c fine).flag f = h.flag f := by
  rw [driveCmpAt_eq, flag_driveFlag_disjoint, flag_driveFlag_disjoint, flag_driveFlag_disjoint]
  all_goals simp only [AFE_CELL_STAT_SW, AFE_CELL_STAT_CMP_LO, AFE_CELL_STAT_CMP_HI]; omega

theorem window_driveCmpAt (h : Hub) (c fine : Nat) : (h.driveCmpAt c fine).trg.window = h.trg.window := by
  rw [driveCmpAt_eq, window_driveFlag, window_driveFlag, window_driveFlag]

theorem framed_driveCmpAt (h : Hub) (c fine : Nat) : Framed (· = AFE_CELL_STAT c) [.trg] h (h.driveCmpAt c fine) := by
  rw [driveCmpAt_eq]
  exact ((framed_driveFlag ..).trans ((framed_driveFlag ..).trans (framed_driveFlag ..))).mono
    (by simp [AFE_CELL_STAT_CMP_HI, AFE_CELL_STAT_CMP_LO, AFE_CELL_STAT_SW]) (by simp)

/-! ### The group TDC and the channel bits (R205, R212) -/

/-- The window that runs, changed. -/
def setWindow (w : Window) (h : Hub) : Hub := { h with trg := { h.trg with window := some w } }

theorem framed_setWindow (h : Hub) (w : Window) : Framed (fun _ => False) [.trg] h (h.setWindow w) :=
  ⟨fun _ _ => rfl, fun p hp => by cases p <;> simp_all [Part.same, setWindow]⟩

theorem tdcEdge_none {h : Hub} (hw : h.trg.window = none) (c fine : Nat) : h.tdcEdge c fine = h := by
  rw [tdcEdge]
  simp only [hw]

theorem tdcEdge_first {h : Hub} {w : Window} (hw : h.trg.window = some w) {c : Nat} (hf : SMap.find? w.first (c / 16) = none) (fine : Nat) :
    h.tdcEdge c fine = ((((((h.setWindow { w with first := SMap.insert w.first (c / 16) (c, fine) }).put (TRG_TDC_VALID (c / 16)) 1).put
      (TRG_TDC_SLOTS (c / 16)) (fine / 1024)).put (TRG_TDC_FINE (c / 16)) (fine % 1024)).put (TRG_TDC_FRAME (c / 16)) w.frame).put
      (TRG_TDC_INPUT (c / 16)) (c % 16)).put (TRG_TDC_LATER (c / 16)) 0 := by
  rw [tdcEdge]
  simp only [hw, hf]
  rfl

theorem tdcEdge_later {h : Hub} {w : Window} (hw : h.trg.window = some w) {c : Nat} {e : Nat × Nat}
    (hf : SMap.find? w.first (c / 16) = some e) (fine : Nat) :
    h.tdcEdge c fine = (h.setWindow { w with
      later := SMap.set (fun _ => 0) w.later (c / 16) (SMap.get (fun _ => 0) w.later (c / 16) + 1) }).put
      (TRG_TDC_LATER (c / 16)) (min 4095 (SMap.get (fun _ => 0) w.later (c / 16) + 1)) := by
  rw [tdcEdge]
  simp only [hw, hf]
  rfl

theorem framed_tdcEdge (h : Hub) (c fine : Nat) :
    Framed (among [TRG_TDC_W0 (c / 16), TRG_TDC_W1 (c / 16)]) [.trg] h (h.tdcEdge c fine) := by
  cases hw : h.trg.window with
  | none =>
    rw [tdcEdge_none hw]
    exact (framed_refl h).mono (fun _ hr => hr.elim) (by simp)
  | some w => cases hf : SMap.find? w.first (c / 16) with
    | none =>
      rw [tdcEdge_first hw hf]
      exact ((framed_setWindow ..).trans (((framed_put ..).trans ((framed_put ..).trans (framed_put ..))).trans
        ((framed_put ..).trans ((framed_put ..).trans (framed_put ..))))).mono
          (by simp [TRG_TDC_VALID, TRG_TDC_SLOTS, TRG_TDC_FINE, TRG_TDC_FRAME, TRG_TDC_INPUT, TRG_TDC_LATER]) (by simp)
    | some e =>
      rw [tdcEdge_later hw hf]
      exact ((framed_setWindow ..).trans (framed_put ..)).mono (by simp [TRG_TDC_LATER]) (by simp)

theorem framed_noteChan (h : Hub) (c fine : Nat) : Framed (fun _ => False) [.trg] h (h.noteChan c fine) := by
  rw [noteChan]
  split
  · exact (framed_refl h).mono (fun _ hr => hr) (by simp)
  · exact framed_setWindow ..

/-- An edge is timed, and a channel bit that rises is noted, or neither. -/
def timed (c fine : Nat) (edge chan : Bool) (h : Hub) : Hub :=
  let h := if edge then h.tdcEdge c fine else h
  if chan then h.noteChan c fine else h

theorem framed_timed (h : Hub) (c fine : Nat) (edge chan : Bool) :
    Framed (among [TRG_TDC_W0 (c / 16), TRG_TDC_W1 (c / 16)]) [.trg] h (h.timed c fine edge chan) := by
  rw [timed]
  cases edge <;> cases chan
  · exact (framed_refl h).mono (fun _ hr => hr.elim) (by simp)
  · exact (framed_noteChan ..).mono (fun _ hr => hr.elim) (by simp)
  · exact framed_tdcEdge ..
  · exact ((framed_tdcEdge ..).trans (framed_noteChan ..)).mono (by simp) (by simp)

/-- The frame and the tick of the window that runs. -/
def windowTick (h : Hub) : Option (Nat × Int) := h.trg.window.map fun w => (w.frame, w.tick)

theorem windowTick_congr {h k : Hub} (e : h.trg = k.trg) : h.windowTick = k.windowTick := by rw [windowTick, windowTick, e]

theorem windowTick_put (h : Hub) (f : Fld) (v : Nat) : (h.put f v).windowTick = h.windowTick := windowTick_congr rfl

theorem windowTick_setWindow {h : Hub} {w v : Window} (hw : h.trg.window = some w) (hf : v.frame = w.frame) (ht : v.tick = w.tick) :
    (h.setWindow v).windowTick = h.windowTick := by
  rw [windowTick, windowTick, hw, setWindow, Option.map_some, Option.map_some, hf, ht]

theorem windowTick_tdcEdge (h : Hub) (c fine : Nat) : (h.tdcEdge c fine).windowTick = h.windowTick := by
  cases hw : h.trg.window with
  | none => rw [tdcEdge_none hw]
  | some w => cases hf : SMap.find? w.first (c / 16) with
    | none =>
      rw [tdcEdge_first hw hf, windowTick_put, windowTick_put, windowTick_put, windowTick_put, windowTick_put, windowTick_put]
      exact windowTick_setWindow hw rfl rfl
    | some e =>
      rw [tdcEdge_later hw hf, windowTick_put]
      exact windowTick_setWindow hw rfl rfl

theorem windowTick_noteChan (h : Hub) (c fine : Nat) : (h.noteChan c fine).windowTick = h.windowTick := by
  rw [noteChan]
  split
  · rfl
  · next w hw => exact windowTick_setWindow hw rfl rfl

theorem windowTick_timed (h : Hub) (c fine : Nat) (edge chan : Bool) : (h.timed c fine edge chan).windowTick = h.windowTick := by
  rw [timed]
  cases edge <;> cases chan
  · rfl
  · exact windowTick_noteChan ..
  · exact windowTick_tdcEdge ..
  · exact (windowTick_noteChan ..).trans (windowTick_tdcEdge ..)

/-! ### A crossing -/

/-- The comparators of an input as the signal has them after a crossing (R83). -/
def crossedCell (x : Cell) (high rises : Bool) : Cell :=
  if high then { x with rawHi := rises, rawSw := x.rawSw || rises } else { x with rawLo := rises, rawSw := x.rawSw && !rises }

/-- The crossing is held as the signal's state and driven. -/
def crossed (c : Nat) (high rises : Bool) (fine : Nat) (h : Hub) : Hub :=
  (h.setCell c (crossedCell (h.cell c) high rises)).driveCmpAt c (fine % 1024)

/-- A selected comparator of an INTERLOCK input rises from `h` to `k`, with urgent captures enabled (R116). -/
def urges (c : Nat) (h k : Hub) : Bool :=
  k.flag CNV_CTRL_URG_EN && k.flag (CNV_CH_CFG_ILK c) &&
    ((bit (k.fld (CNV_CH_CFG_URG_SRC c)) 0 && (!(h.cmpOut c).1 && (k.cmpOut c).1)) ||
      (bit (k.fld (CNV_CH_CFG_URG_SRC c)) 1 && (!(h.cmpOut c).2.1 && (k.cmpOut c).2.1)))

/-- A crossing whose instant has come is held, driven and timed, and requests a capture where it urges. -/
theorem crossing_eq {h : Hub} {c : Nat} (high rises : Bool) {fine : Nat} (hq : h.acquires c = true) (hp : h.afePowered (c / 16) = true)
    (hw : ∀ w, h.trg.window = some w → h.mt.lastEdge.getD w.tick + (fine / 1024 : Nat) ≤ h.now) :
    ∃ edge chan, h.crossing c high rises fine =
      if urges c h (h.crossed c high rises fine) then ((h.crossed c high rises fine).timed c fine edge chan).requestUrgent c fine
      else (h.crossed c high rises fine).timed c fine edge chan := by
  rw [crossing]
  cases hwin : h.trg.window with
  | none =>
    simp only [hq, hp, Bool.not_true, Bool.or_false, Bool.false_eq_true, if_false]
    exact ⟨_, _, rfl⟩
  | some w =>
    have hadv : h.advanceTo (h.mt.lastEdge.getD w.tick + (fine / 1024 : Nat)) = h := if_pos (.inl (hw w hwin))
    simp only [hq, hp, hadv, Bool.not_true, Bool.or_false, Bool.false_eq_true, if_false]
    exact ⟨_, _, rfl⟩

theorem framed_crossed (h : Hub) (c : Nat) (high rises : Bool) (fine : Nat) :
    Framed (· = AFE_CELL_STAT c) [.afe, .trg] h (h.crossed c high rises fine) :=
  ((framed_setCell ..).trans (framed_driveCmpAt ..)).mono (by simp) (by simp)

theorem cell_crossed (h : Hub) (c : Nat) (high rises : Bool) (fine : Nat) :
    (h.crossed c high rises fine).cell c = crossedCell (h.cell c) high rises := by
  have hafe : (h.crossed c high rises fine).afe = (h.setCell c (crossedCell (h.cell c) high rises)).afe :=
    (framed_driveCmpAt ..).2 .afe (by simp)
  rw [cell_congr (congrArg Afe.cells hafe), cell_setCell_self]

end Hub

/-- A crossing that requests nothing. -/
theorem crossing_completes {s : State} (ha : s.hub.awake) {c : Nat} (hc : c < 512) (high rises : Bool) {fine : Nat}
    (hq : s.hub.acquires c = true) (hp : s.hub.afePowered (c / 16) = true)
    (hu : s.hub.flag CNV_CTRL_URG_EN = false ∨ s.hub.flag (CNV_CH_CFG_ILK c) = false)
    (hw : ∀ w, s.hub.trg.window = some w → s.hub.mt.lastEdge.getD w.tick + (fine / 1024 : Nat) ≤ s.hub.now) :
    Completes (.comparatorCrossing c high rises fine) s fun k =>
      (k.cell c).rawHi = (if high then rises else (s.hub.cell c).rawHi) ∧
      (k.cell c).rawLo = (if high then (s.hub.cell c).rawLo else rises) ∧
      (k.cell c).rawSw = (if high then (s.hub.cell c).rawSw || rises else (s.hub.cell c).rawSw && !rises) ∧
      (s.hub.flag (AFE_CELL_STAT_FAULT c) = false → s.hub.flag (AFE_CELL_STAT_FROZEN c) = false → s.hub.switchedOut c = false →
        k.flag (if high then AFE_CELL_STAT_CMP_HI c else AFE_CELL_STAT_CMP_LO c) = rises) ∧
      (s.hub.flag (AFE_CELL_STAT_FROZEN c) = true ∨ s.hub.switchedOut c = true → s.hub.flag (AFE_CELL_STAT_FAULT c) = false →
        k.reg (AFE_CELL_STAT c) = s.hub.reg (AFE_CELL_STAT c)) ∧
      Framed (among [AFE_CELL_STAT c, TRG_TDC_W0 (c / 16), TRG_TDC_W1 (c / 16)]) [.afe, .trg] s.hub k := by
  refine completes_timeless rfl ha (fun _ hk => hk) ?_
  obtain ⟨edge, chan, hx⟩ := Hub.crossing_eq (h := s.hub.passTime) high rises hq hp hw
  have hcross := Hub.framed_crossed s.hub.passTime c high rises fine
  have hquiet : Hub.urges c s.hub.passTime (s.hub.passTime.crossed c high rises fine) = false := by
    rw [Hub.urges, hcross.flag_eq (f := CNV_CTRL_URG_EN) (by simp only [CNV_CTRL_URG_EN, CNV_CTRL, AFE_CELL_STAT]; omega),
      hcross.flag_eq (f := CNV_CH_CFG_ILK c) (by simp only [CNV_CH_CFG_ILK, CNV_CH_CFG, AFE_CELL_STAT]; omega)]
    have hu' : s.hub.passTime.flag CNV_CTRL_URG_EN = false ∨ s.hub.passTime.flag (CNV_CH_CFG_ILK c) = false := hu
    obtain hu | hu := hu' <;> simp [hu]
  rw [hx, if_neg (by simp [hquiet])]
  have htime := Hub.framed_timed (s.hub.passTime.crossed c high rises fine) c fine edge chan
  have hstat : ¬ among [TRG_TDC_W0 (c / 16), TRG_TDC_W1 (c / 16)] (AFE_CELL_STAT c) := by
    simp only [List.mem_cons, List.not_mem_nil, or_false, TRG_TDC_W0, TRG_TDC_W1, AFE_CELL_STAT]; omega
  have hcell : ((s.hub.passTime.crossed c high rises fine).timed c fine edge chan).cell c =
      Hub.crossedCell (s.hub.passTime.cell c) high rises :=
    (Hub.cell_congr (congrArg Afe.cells (htime.2 .afe (by simp))) c).trans (Hub.cell_crossed ..)
  refine ⟨?_, ?_, ?_, fun hf hz hs => ?_, fun hk hf => ?_, (hcross.trans htime).mono (by simp) (by simp)⟩
  · rw [hcell]; cases high <;> rfl
  · rw [hcell]; cases high <;> rfl
  · rw [hcell]; cases high <;> rfl
  · have hraw := Hub.cmpOut_raw (h := s.hub.passTime.setCell c (Hub.crossedCell (s.hub.passTime.cell c) high rises)) hf hz hs hq
    rw [Hub.cell_setCell_self] at hraw
    cases high
    · exact (htime.flag_eq hstat).trans ((Hub.flag_lo_driveCmpAt ..).trans (by rw [hraw]; rfl))
    · exact (htime.flag_eq hstat).trans ((Hub.flag_hi_driveCmpAt ..).trans (by rw [hraw]; rfl))
  · have hkept : s.hub.passTime.crossed c high rises fine =
        s.hub.passTime.setCell c (Hub.crossedCell (s.hub.passTime.cell c) high rises) :=
      Hub.driveCmpAt_kept (h := s.hub.passTime.setCell c (Hub.crossedCell (s.hub.passTime.cell c) high rises)) hf hk _
    rw [htime.1 _ hstat, hkept, Hub.reg_setCell]
    rfl

namespace Hub

/-! ### Urgent captures (R116-R119) -/

/-- A request that does not wait for the next tick captures now. -/
theorem requestUrgent_eq {h : Hub} (hg : h.cnv.gridNext = none ∨ h.cnv.series = none) (c fine : Nat) :
    h.requestUrgent c fine = h.captureAt c (captureTime fine h.bclk) := by
  rw [requestUrgent, if_neg]
  rintro ⟨hnext, hseries, -⟩
  obtain hg | hg := hg
  · rw [hg] at hnext
    exact absurd hnext (by simp)
  · rw [hg] at hseries
    exact absurd hseries (by simp)

theorem captureAt_closed {h : Hub} {c : Nat} (he : h.flag CNV_CTRL_URG_EN = true) (hi : h.flag (CNV_CH_CFG_ILK c) = true)
    (ha : h.adcIn c = true) (hs : h.switchedOut c = false) (hw : h.trg.window = none) (t : Nat) :
    h.captureAt c t = h.refuseCapture c (h.fld CNV_FRAME_NUM_FRAME) := by
  rw [captureAt]
  simp only [he, hi, ha, hs, hw, Bool.not_true, Bool.or_false, Bool.false_eq_true, if_false]

/-- The capture that window `w` takes of an input. -/
def captureOf (c : Nat) (w : Window) (h : Hub) : Conv :=
  { h.convOf c w.frame w.tick with
    urgent := true, holdover := w.holdover, reanchor := w.reanchor, base := h.mt.lastEdge.getD w.tick, ord := h.cnv.captures }

/-- A capture is numbered. -/
def countCapture (h : Hub) : Hub := { h with cnv := { h.cnv with captures := h.cnv.captures + 1 } }

theorem captureAt_open {h : Hub} {c t : Nat} {w : Window} (he : h.flag CNV_CTRL_URG_EN = true) (hi : h.flag (CNV_CH_CFG_ILK c) = true)
    (ha : h.adcIn c = true) (hs : h.switchedOut c = false) (hw : h.trg.window = some w) (hf : h.holdsCapture (h.servingCell c) t = false) :
    h.captureAt c t = h.countCapture.placeCapture (h.captureOf c w) (captureSlot t h.bclk) := by
  rw [captureAt]
  simp only [he, hi, ha, hs, hw, hf, Bool.not_true, Bool.or_false, Bool.false_eq_true, if_false]
  rfl

/-- Where nothing converts and the ADC holds nothing, no cell of it holds a capture. -/
theorem holdsCapture_idle {h : Hub} {n : Nat} (ha : h.adc (n / 34) = {}) (hc : h.cnv.convs = []) (t : Nat) :
    h.holdsCapture n t = false := by
  rw [holdsCapture, ha, hc]
  rfl

/-- The cell that serves an input belongs to the input's ADC (R105). -/
theorem servingCell_div (h : Hub) (c : Nat) : h.servingCell c / 34 = c / 32 := by
  rw [servingCell]
  split_ifs <;> omega

/-- A capture of an idle ADC, in a slot of the frame that is not the calibration's, is converted there. -/
theorem placeCapture_idle {h : Hub} {cv : Conv} {u : Nat} (ha : h.adc (cv.input / 32) = {}) (hc : h.cnv.convs = []) (hu : u < h.adcPeriods)
    (h32 : u ≠ 32) (h33 : u ≠ 33) : ∃ k : Hub, k.regs = h.regs ∧ k.cnv.convs = [{ cv with slot := u }] ∧
      h.placeCapture cv u = (k.bump (CNV_URG_CNT_SERVED (cv.input / 32)) 1).tally 188 1 := by
  have hholds : h.holdsConv (cv.input / 32) cv.frame u = false := by
    rw [holdsConv, ha, hc]
    simp [h32, h33]
  have hfree : freeSlot ({} : Adc).busy 200 u = u := rfl
  have hused : ({} : Adc).used < 2 := Nat.zero_lt_two
  rw [placeCapture]
  simp only [ha, hfree, hholds, hu, hused, and_self, Bool.false_eq_true, if_false, if_true]
  refine ⟨_, ?_, ?_, rfl⟩
  · rfl
  · simp [setAdc, hc]

/-! ### What an edge leaves alone -/

/-- The registers that an edge of an input may write. -/
abbrev edgeRegs (c : Nat) : Nat → Prop := among [AFE_CELL_STAT c, TRG_TDC_W0 (c / 16), TRG_TDC_W1 (c / 16)]

theorem not_edgeRegs {c a : Nat} (hc : c < 512) (ha : a < 0x21000 ∨ 0x21800 ≤ a ∧ a < 0x60400) : ¬ edgeRegs c a := by
  simp only [List.mem_cons, List.not_mem_nil, or_false, AFE_CELL_STAT, TRG_TDC_W0, TRG_TDC_W1]
  omega

section
variable {h k : Hub} {c : Nat} (hc : c < 512) (hf : Framed (edgeRegs c) [.afe, .trg] h k)
include hc hf

theorem mode_edge {d : Nat} (hd : d ≤ c) : k.mode d = h.mode d :=
  hf.fld_eq (not_edgeRegs hc (.inl (by simp only [AFE_CELL_CFG_MODE, AFE_CELL_CFG]; omega)))

theorem now_edge : k.now = h.now := by
  rw [now, now, spt, spt, hf.fld_eq (not_edgeRegs hc (by simp [MT_TURN_CFG_SPT_M1, MT_TURN_CFG])), show k.mt = h.mt from hf.2 .mt (by simp)]

theorem bclk_edge : k.bclk = h.bclk := by
  rw [bclk, bclk, hf.fld_eq (not_edgeRegs hc (by simp [MT_BCLK_MEAS_FREQ, MT_BCLK_MEAS])),
    hf.fld_eq (not_edgeRegs hc (by simp [MT_BCLK_NOM_KHZ, MT_BCLK_NOM])), show k.mt = h.mt from hf.2 .mt (by simp)]

theorem adcPeriods_edge : k.adcPeriods = h.adcPeriods := by
  rw [adcPeriods, adcPeriods, hf.fld_eq (not_edgeRegs hc (by simp [CNV_FRAME_PERIOD_SLOTS, CNV_FRAME_PERIOD]))]

theorem adcIn_edge : k.adcIn c = h.adcIn c :=
  hf.flag_eq (not_edgeRegs hc (by simp only [CNV_ADC_STAT_IN_SERVICE, CNV_ADC_STAT]; omega))

theorem urgEn_edge : k.flag CNV_CTRL_URG_EN = h.flag CNV_CTRL_URG_EN :=
  hf.flag_eq (not_edgeRegs hc (by simp [CNV_CTRL_URG_EN, CNV_CTRL]))

theorem ilk_edge : k.flag (CNV_CH_CFG_ILK c) = h.flag (CNV_CH_CFG_ILK c) :=
  hf.flag_eq (not_edgeRegs hc (by simp only [CNV_CH_CFG_ILK, CNV_CH_CFG]; omega))

theorem urgSrc_edge : k.fld (CNV_CH_CFG_URG_SRC c) = h.fld (CNV_CH_CFG_URG_SRC c) :=
  hf.fld_eq (not_edgeRegs hc (by simp only [CNV_CH_CFG_URG_SRC, CNV_CH_CFG]; omega))

theorem switchedOut_edge : k.switchedOut c = h.switchedOut c := by
  rw [switchedOut, switchedOut, pairOf_of_mode fun d hd => mode_edge hc hf hd, now_edge hc hf, show k.mt = h.mt from hf.2 .mt (by simp),
    show k.cal = h.cal from hf.2 .cal (by simp), show k.cnv = h.cnv from hf.2 .cnv (by simp)]

end

/-- What lets a rise of the high comparator of an input request a capture that is not held back (R116, R123). -/
structure UrgesOnRise (h : Hub) (c : Nat) : Prop where
  input : c < 512
  acquires : h.acquires c = true
  powered : h.afePowered (c / 16) = true
  converts : h.adcIn c = true
  enabled : h.flag CNV_CTRL_URG_EN = true
  ilk : h.flag (CNV_CH_CFG_ILK c) = true
  selected : bit (h.fld (CNV_CH_CFG_URG_SRC c)) 0 = true
  low : (h.cell c).rawHi = false
  sound : h.flag (AFE_CELL_STAT_FAULT c) = false
  thawed : h.flag (AFE_CELL_STAT_FROZEN c) = false
  connected : h.switchedOut c = false
  grid : h.cnv.gridNext = none ∨ h.cnv.series = none

/-- The time that a command takes shows in none of it. -/
theorem UrgesOnRise.passTime {h : Hub} {c : Nat} (hu : h.UrgesOnRise c) : h.passTime.UrgesOnRise c where
  input := hu.input
  acquires := hu.acquires
  powered := hu.powered
  converts := hu.converts
  enabled := hu.enabled
  ilk := hu.ilk
  selected := hu.selected
  low := hu.low
  sound := hu.sound
  thawed := hu.thawed
  connected := hu.connected
  grid := hu.grid

theorem urges_rise {h : Hub} {c : Nat} (hu : h.UrgesOnRise c) (fine : Nat) : urges c h (h.crossed c true true fine) = true := by
  have hcross : Framed (edgeRegs c) [.afe, .trg] h (h.crossed c true true fine) := (framed_crossed ..).mono (by simp) (by simp)
  have hrose : (h.crossed c true true fine).cmpOut c = (true, (h.cell c).rawLo, (h.cell c).rawSw || true) := by
    rw [cmpOut_raw, cell_crossed]
    · rfl
    · exact (flag_driveCmpAt_ne _ _ _ (.inr (by simp [AFE_CELL_STAT_FAULT]))).trans hu.sound
    · exact (flag_driveCmpAt_ne _ _ _ (.inl (by simp [AFE_CELL_STAT_FROZEN]))).trans hu.thawed
    · exact (switchedOut_edge hu.input hcross).trans hu.connected
    · exact (acquires_of_mode fun d hd => mode_edge hu.input hcross hd).trans hu.acquires
  rw [urges, urgEn_edge hu.input hcross, ilk_edge hu.input hcross, urgSrc_edge hu.input hcross, hu.enabled, hu.ilk, hu.selected, hrose,
    cmpOut_raw hu.sound hu.thawed hu.connected hu.acquires, hu.low]
  rfl

/-- A rise takes its capture in a hub that is as it was but for the edge, in the same window. -/
theorem crossing_urges {h : Hub} {c fine : Nat} (hu : h.UrgesOnRise c)
    (hw : ∀ w, h.trg.window = some w → h.mt.lastEdge.getD w.tick + (fine / 1024 : Nat) ≤ h.now) :
    ∃ k, Framed (edgeRegs c) [.afe, .trg] h k ∧ k.windowTick = h.windowTick ∧
      h.crossing c true true fine = k.captureAt c (captureTime fine h.bclk) := by
  obtain ⟨edge, chan, hx⟩ := crossing_eq true true hu.acquires hu.powered hw
  have hframe : Framed (edgeRegs c) [.afe, .trg] h ((h.crossed c true true fine).timed c fine edge chan) :=
    ((framed_crossed ..).trans (framed_timed ..)).mono (by simp) (by simp)
  have hcnv : ((h.crossed c true true fine).timed c fine edge chan).cnv = h.cnv := hframe.2 .cnv (by simp)
  refine ⟨_, hframe, ?_, ?_⟩
  · rw [windowTick_timed, windowTick, crossed, window_driveCmpAt]
    rfl
  · rw [hx, if_pos (urges_rise hu fine), requestUrgent_eq (by rw [hcnv]; exact hu.grid), bclk_edge hu.input hframe]

/-- Where no window is open, the capture is refused and counted. -/
theorem crossing_refused {h : Hub} {c : Nat} (hu : h.UrgesOnRise c) (hw : h.trg.window = none) (fine : Nat) :
    ∃ k, Framed (edgeRegs c) [.afe, .trg] h k ∧ h.crossing c true true fine = k.refuseCapture c (k.fld CNV_FRAME_NUM_FRAME) := by
  obtain ⟨k, hframe, hwin, hx⟩ := crossing_urges (fine := fine) hu (by simp [hw])
  refine ⟨k, hframe, hx.trans (captureAt_closed ((urgEn_edge hu.input hframe).trans hu.enabled) ((ilk_edge hu.input hframe).trans hu.ilk)
    ((adcIn_edge hu.input hframe).trans hu.converts) ((switchedOut_edge hu.input hframe).trans hu.connected) ?_ _)⟩
  rwa [windowTick, windowTick, hw, Option.map_none, Option.map_eq_none_iff] at hwin

/-- Where a window is open and the ADC is idle, the capture is placed in its slot of the frame. -/
theorem crossing_placed {h : Hub} {c fine : Nat} {w : Window} (hu : h.UrgesOnRise c) (hw : h.trg.window = some w)
    (hd : h.mt.lastEdge.getD w.tick + (fine / 1024 : Nat) ≤ h.now) (hc : h.cnv.convs = []) (ha : h.adc (c / 32) = {}) :
    ∃ k v, Framed (edgeRegs c) [.afe, .trg] h k ∧ v.frame = w.frame ∧ h.crossing c true true fine =
      k.countCapture.placeCapture (k.captureOf c v) (captureSlot (captureTime fine h.bclk) h.bclk) := by
  obtain ⟨k, hframe, hwin, hx⟩ := crossing_urges (fine := fine) hu (by rw [hw]; rintro _ ⟨⟩; exact hd)
  have hcnv : k.cnv = h.cnv := hframe.2 .cnv (by simp)
  rw [windowTick, windowTick, hw, Option.map_some, Option.map_eq_some_iff] at hwin
  obtain ⟨v, hv, hsame⟩ := hwin
  rw [Prod.mk.injEq] at hsame
  refine ⟨k, v, hframe, hsame.1, hx.trans ?_⟩
  rw [captureAt_open ((urgEn_edge hu.input hframe).trans hu.enabled) ((ilk_edge hu.input hframe).trans hu.ilk)
    ((adcIn_edge hu.input hframe).trans hu.converts) ((switchedOut_edge hu.input hframe).trans hu.connected) hv, bclk_edge hu.input hframe]
  refine holdsCapture_idle ?_ (by rw [hcnv, hc]) _
  rw [servingCell_div, adc, hcnv]
  exact ha

end Hub

theorem crossing_refused_completes {s : State} (ha : s.hub.awake) {c : Nat} (hu : s.hub.UrgesOnRise c) (hw : s.hub.trg.window = none)
    (fine : Nat) : Completes (.comparatorCrossing c true true fine) s fun k =>
      k.fld (CNV_URG_CNT_REFUSED (c / 32)) = satAdd (2 ^ 32 - 1) (s.hub.fld (CNV_URG_CNT_REFUSED (c / 32))) 1 ∧
      Hub.oneMore (32 + c / 32) s.hub k ∧ k.cnv = s.hub.cnv := by
  refine completes_timeless rfl ha (fun _ hk => hk) ?_
  obtain ⟨k, hframe, hx⟩ := Hub.crossing_refused hu.passTime hw fine
  rw [hx, Hub.refuseCapture]
  refine ⟨?_, ?_, ?_⟩
  · rw [Hub.fld_raise, Hub.fld_bump_self _ _ _ (by simp [CNV_URG_CNT_REFUSED]),
      hframe.fld_eq (Hub.not_edgeRegs hu.input (by have := hu.input; simp only [CNV_URG_CNT_REFUSED, CNV_URG_CNT_W2]; omega))]
    rfl
  · have hevt : k.evt = s.hub.evt := hframe.2 .evt (by simp)
    rw [Hub.oneMore, Hub.occurrences_raise, if_pos rfl, Hub.occurrences_bump, Hub.occurrences, hevt, Hub.occurrences]
  · exact (Hub.raise_cnv ..).trans (hframe.2 .cnv (by simp))

theorem crossing_placed_completes {s : State} (ha : s.hub.awake) {c fine u : Nat} {w : Window} (hu : s.hub.UrgesOnRise c)
    (hw : s.hub.trg.window = some w) (hd : s.hub.mt.lastEdge.getD w.tick + (fine / 1024 : Nat) ≤ s.hub.now) (hc : s.hub.cnv.convs = [])
    (hadc : s.hub.adc (c / 32) = {}) (hslot : u = Hub.captureSlot (Hub.captureTime fine s.hub.bclk) s.hub.bclk)
    (hp : u < s.hub.adcPeriods) (h32 : u ≠ 32) (h33 : u ≠ 33) : Completes (.comparatorCrossing c true true fine) s fun k =>
      (∃ cv, k.cnv.convs = [cv] ∧ cv.input = c ∧ cv.frame = w.frame ∧ cv.urgent = true ∧ cv.slot = u ∧ cv.defer = false ∧
        cv.redo = false) ∧
      k.fld (CNV_URG_CNT_SERVED (c / 32)) = satAdd (2 ^ 32 - 1) (s.hub.fld (CNV_URG_CNT_SERVED (c / 32))) 1 := by
  refine completes_timeless rfl ha (fun _ hk => hk) ?_
  obtain ⟨k, v, hframe, hv, hx⟩ := Hub.crossing_placed (h := s.hub.passTime) (fine := fine) hu.passTime hw hd hc hadc
  have hcnv : k.cnv = s.hub.cnv := hframe.2 .cnv (by simp)
  obtain ⟨l, hregs, hconvs, hl⟩ := Hub.placeCapture_idle (h := k.countCapture) (cv := k.captureOf c v) (u := u)
    (by rw [Hub.adc, Hub.countCapture, hcnv]; exact hadc) (by rw [Hub.countCapture, hcnv]; exact hc)
    (by exact (Hub.adcPeriods_edge hu.input hframe).symm ▸ hp) h32 h33
  subst hslot
  rw [hx.trans hl]
  refine ⟨⟨_, hconvs, rfl, hv, rfl, rfl, rfl, rfl⟩, ?_⟩
  refine (Hub.fld_bump_self l _ 1 (by simp [CNV_URG_CNT_SERVED])).trans ?_
  rw [Hub.fld_congr hregs]
  exact congrArg (satAdd _ · 1) (hframe.fld_eq (f := CNV_URG_CNT_SERVED (c / 32))
    (Hub.not_edgeRegs hu.input (by have := hu.input; simp only [CNV_URG_CNT_SERVED, CNV_URG_CNT_W0]; omega)))

/-- Settles O13: a crossing is a drive of the outputs with the edges it times, and a rise that urges captures in a hub that differs by the
edge alone; a tone period is taken, shown and judged in steps that leave the sums alone. -/
theorem comparatorsAndDipstick : Obligations.ComparatorsAndDipstick := by
  unfold Obligations.ComparatorsAndDipstick
  intro s c ha hc
  refine ⟨fun high rises fine hq hp hu hw => crossing_completes ha hc high rises hq hp hu hw,
    fun fine hq hp hadc he hi hb hr hf hz hs hg => ?_, ?_, ?_, fun i q hr h0 hd hl => dipPeriodEnd_completes ha i q hr h0 hd hl⟩
  · have hu : s.hub.UrgesOnRise c := ⟨hc, hq, hp, hadc, he, hi, hb, hr, hf, hz, hs, hg⟩
    exact ⟨fun hw => crossing_refused_completes ha hu hw fine,
      fun w hw hd hconvs hidle hslot h32 h33 => crossing_placed_completes ha hu hw hd hconvs hidle rfl hslot h32 h33⟩
  · rintro _ rfl hq hm hp hs ticks
    exact faultSuspect_completes ha hc ticks hq hm hp hs
  · rintro _ rfl frames
    exact suspectClear_completes ha hc frames

end Sys2Proof.Machine
end
section
/-!
PROOFS. The spare of a group that returns while the management plane stalls (R4, R100).
-/

namespace Sys2Proof.Machine

namespace Hub

/-- While the management plane stalls, the hand-over tick of a spare that returns from a visit changes nothing (R4). -/
theorem handover_of_stalled {h : Hub} {g : Nat} (hst : h.fld (CNV_SPARE_STAT_STATE g) = 3) (hv : (h.rotation g).visit.isSome = true)
    (hs : h.boot.stalled = true) : h.handover g = h := by
  simp [handover, hst, hv, hs]

end Hub

/-- A hub at a frame tick whose spare of group 0 hands input 0, in CA mode, back after a visit, while the management plane stalls. -/
def stalledReturn : State :=
  { hub := (((({} : Hub).put (AFE_CELL_CFG_MODE 0) 2).put (AFE_CELL_STAT_SPARE_IN 0) 1).put (CNV_SPARE_STAT_STATE 0) 3) |> fun h =>
      { h with mt := { h.mt with lastEdge := some 0 }, boot := { h.boot with stalled := true }
               cal := { h.cal with groups := [(0, { visit := some 0 })] } } }

/-- Refutes O14: its clause on a spare that hands back has no premise on the management plane. In `stalledReturn` the hand-over is ready,
but R4 keeps a spare that stands in for a visit where it is, so input 0 still shows SPARE_IN. -/
theorem not_sparesAndMaps : ¬ Obligations.SparesAndMaps := by
  rintro ⟨hspare, -⟩
  have hawake : stalledReturn.hub.awake := by decide
  obtain ⟨-, -, -, ⟨-, hreturn, -⟩, -⟩ := hspare stalledReturn .mc 0 hawake (by decide)
  have hdone := (completes_onHub_iff rfl hawake).1 (hreturn (by decide) (by decide) (by decide))
  rw [Hub.handover_of_stalled (by decide) (by decide) (by decide), Hub.flag_wrapTime, Hub.flag_passTime] at hdone
  exact absurd hdone.1 (by decide)

end Sys2Proof.Machine
end
section
/-!
PROOFS. What a hand-back applies, and to which cell (R362, R367, R368).
-/

namespace Sys2Proof.Machine

namespace Hub

@[simp] theorem setTap_cal (h : Hub) (n : Nat) : (h.setTap n).cal = h.cal := by
  simp only [setTap]
  split_ifs <;> simp

@[simp] theorem showCoef_cal (h : Hub) (n : Nat) : (h.showCoef n).cal = h.cal := rfl

@[simp] theorem setGroup_cal (h : Hub) (g : Nat) (x : Group) : (h.setGroup g x).cal = h.cal := rfl

@[simp] theorem joinSpare_cal (h : Hub) (c reason : Nat) : (h.joinSpare c reason).cal = h.cal := by
  rw [joinSpare, setTap_cal, showCoef_cal, setGroup_cal, put_cal, put_cal, put_cal]

@[simp] theorem markUnserved_cal (h : Hub) (g : Nat) : (h.markUnserved g).cal = h.cal := by
  refine foldl_keeps Hub.cal (fun k i => ?_) _ _
  split_ifs <;> rfl

/-- What the spare measures of itself lies within the limits of R375. -/
theorem gain_freshSpare (h : Hub) (c : Nat) :
    3932160 ≤ ((h.freshSpare c).coef (17 * (c / 16) + 16) (h.mode c) (h.setting c)).gain := by
  rw [freshSpare, coef, setCoef]
  simp only [tick, SMap.get_set_self]
  omega

/-- A visit starts with a set of the spare's own. -/
theorem gain_startVisit {h : Hub} {g c : Nat} (hq : (h.rotation g).queue.find? h.visitable = some c)
    (hfree : ((h.rotation g).visit.isSome || h.fld (CNV_SPARE_STAT_STATE g) != 0 || !h.spareVisits g || !h.flag CAL_CTRL_EN ||
      !h.afePowered g || h.boot.stalled) = false) :
    3932160 ≤ ((h.startVisit g).coef (17 * (c / 16) + 16) (h.mode c) (h.setting c)).gain := by
  simp -implicitDefEqProofs only [startVisit, hq, hfree, coef, joinSpare_cal, put_cal, Bool.false_eq_true, if_false]
  exact gain_freshSpare (h.setRotation ..) c

/-- The group's spare is idle, before a claim to it is looked for. -/
def idleSpare (g : Nat) (h : Hub) : Hub :=
  let h := (h.put (CNV_SPARE_STAT_STATE g) 0).put (CNV_SPARE_STAT_REASON g) 0
  (if (h.rotation g).visit.isSome then
    (h.setRotation g { h.rotation g with visit := none }).put (CAL_GRP_STAT_STATE g) 0
  else h).refreshRotation g

/-- A spare to which nothing has a claim is free for the next visit. -/
theorem chooseAssignment_unclaimed {h : Hub} {g : Nat} (hok : (h.group g).spareFailed = false) (hnext : (h.group g).fixNext = none)
    (hfailed : (h.idleSpare g).failedInput g = none) (hfix : (h.idleSpare g).flag (CNV_SPARE_FIX_EN g) = false) :
    h.chooseAssignment g = (h.idleSpare g).startVisit g := by
  rw [idleSpare] at hfailed hfix ⊢
  rw [chooseAssignment, hok, if_neg Bool.false_ne_true, hnext]
  rw [hfailed, hfix, if_neg Bool.false_ne_true]

/-- A spare that hands back an input it does not serve takes its next assignment at once. -/
theorem spareHandover_unserved {h : Hub} {g : Nat} (hready : h.handoverReady g = true) (hst : h.fld (CNV_SPARE_STAT_STATE g) = 3)
    (hin : h.spareIn (16 * g + h.fld (CNV_SPARE_STAT_INPUT g)) = false) : h.spareHandover g = h.nextAssignment g := by
  simp [spareHandover, hready, hst, hin]

/-- What a completed visit to input `c` brings into force, before the spare hands back (R362). -/
def applyVisit (g c : Nat) (m : CellMeas) (large : Bool) (h : Hub) : Hub :=
  let n := 17 * g + c % 16
  let h := h.putCoef n c { offset := m.offset, gain := m.gain, qr := m.qr } large false
  let h := (h.raiseApplied itemTap n 0 0).keepValue itemTap n 0 [BitVec.ofNat 32 m.tap] large false
  let h := ((h.sput (CAL_CMP_TRIM_TRIM_HI n) m.trimHi).sput (CAL_CMP_TRIM_TRIM_LO n) m.trimLo).raiseApplied itemTrim n 0 0
  let h := h.keepValue itemTrim n 0 [h.reg (CAL_CMP_TRIM n)] large false
  let h := ((h.resetAge itemCoef n).put (CAL_CELL_STAT_FALLBACK n) 0).bump (CAL_GRP_STAT_VISITS g) 1
  (h.setRotation g { h.rotation g with result := none, large := false, measured := false }).setTap n

theorem handBack_eq {h : Hub} {g c : Nat} {m : CellMeas} (hv : (h.rotation g).visit = some c) (hr : (h.rotation g).result = some m)
    (hm : (h.rotation g).measured = true) : h.handBack g = (h.applyVisit g c m (h.rotation g).large).spareHandover g := by
  rw [handBack, hv, hr, hm, applyVisit]
  rfl

theorem calApplied_handBack {h : Hub} {g : Nat} (hs : h.boot.stalled = false) (he : h.mt.lastEdge = some h.now)
    (hst : h.fld (CNV_SPARE_STAT_STATE g) = 3) (hv : (h.rotation g).visit.isSome = true) (hr : h.handoverReady g = true) :
    h.calApplied g 0 = h.handBack g := by
  simp [calApplied, hs, he, hst, hv, hr]

end Hub

/-- What a visit may measure: the values of a cell without error. -/
def nominalMeas : CellMeas := { offset := 0, gain := 4194304, qr := 0, tap := 32, trimHi := 0, trimLo := 0 }

/-- A hub at the hand-back tick of a visit to input 0, in whose rotation of group 0 input 16, of group 1, waits. The spare of group 1 has a
set for input 16 with gain 0. -/
def strayVisit : State :=
  { hub := (((((({} : Hub).put (AFE_CELL_CFG_MODE 0) 1).put (AFE_CELL_CFG_MODE 16) 1).put PWR_DOM_STAT_AFE 1).put CAL_CTRL_EN 1).put
      (CNV_SPARE_STAT_STATE 0) 3) |> fun h =>
      { h with mt := { h.mt with lastEdge := some 0 }
               cal := { h.cal with
                 groups := [(0, { queue := [16], visit := some 0, result := some nominalMeas, measured := true })]
                 sets := [(Hub.coefKey 33 1 0, { gain := 0 })] } } }

/-- That hub when the spare is free for the next visit, with `h` the hub at the tick. -/
def Hub.betweenVisits (h : Hub) : Hub := (h.applyVisit 0 0 nominalMeas false).idleSpare 0

/-- At the hand-back tick of `strayVisit` the next visit starts. -/
theorem calApplied_strayVisit : strayVisit.hub.passTime.calApplied 0 0 =
    (strayVisit.hub.passTime.betweenVisits.startVisit 0).markUnserved 0 := by
  rw [Hub.calApplied_handBack (by decide) (by decide) (by decide) (by decide) (by decide +kernel),
    Hub.handBack_eq (c := 0) (m := nominalMeas) (by decide) (by decide) (by decide),
    Hub.spareHandover_unserved (by decide +kernel) (by decide +kernel) (by decide +kernel), Hub.nextAssignment,
    Hub.chooseAssignment_unclaimed (by decide +kernel) (by decide +kernel) (by decide +kernel) (by decide +kernel)]
  rfl

/-- Refutes O43: its clause on the hand-back says that no set changes but the input's and those of the group's spare. In `strayVisit` the
next visit of group 0 starts at that tick, to an input of group 1, and the spare of group 1 takes a set with a gain of at least 3932160. -/
theorem not_visitsMeasureAndApply : ¬ Obligations.VisitsMeasureAndApply := by
  intro hall
  have hawake : strayVisit.hub.awake := by decide
  obtain ⟨-, hback, -⟩ := hall strayVisit 0 0 nominalMeas hawake (by decide) (by decide) (by decide) (by decide)
  obtain ⟨-, -, hothers, -⟩ := (completes_onHub_iff rfl hawake).1
    (hback (by decide) (by decide) (by decide) (by decide) (by decide) (by decide +kernel))
  have hkept : (strayVisit.hub.passTime.calApplied 0 0).wrapTime.coef 33 1 0 = strayVisit.hub.coef 33 1 0 :=
    hothers (Hub.coefKey 33 1 0) (by decide) (by decide)
  have hnew := Hub.gain_startVisit (h := strayVisit.hub.passTime.betweenVisits) (g := 0) (c := 16) (by decide +kernel) (by decide +kernel)
  rw [Hub.coef, Hub.wrapTime_cal, calApplied_strayVisit, Hub.markUnserved_cal] at hkept
  have hsetting : strayVisit.hub.passTime.betweenVisits.mode 16 = 1 ∧ strayVisit.hub.passTime.betweenVisits.setting 16 = 0 := by
    decide +kernel
  rw [hsetting.1, hsetting.2] at hnew
  exact absurd (hnew.trans_eq (congrArg Coef.gain hkept)) (by decide)

end Sys2Proof.Machine
end
section
/-!
PROOFS. The end of a series, the grid that runs on after it, and the re-arming of the Standpipe (R123, R220, R223, R225): what settles O23.
-/

namespace Sys2Proof.Machine

namespace Hub

/-- The count does not run to a slot that it has reached. -/
theorem advanceTo_of_le {h : Hub} {t : Int} (ht : t ≤ h.now) : h.advanceTo t = h := by rw [advanceTo, if_pos (.inl ht)]

/-! ### TRG.SP_STAT -/

/-- STATE of TRG.SP_STAT: OFF, FILLING, READY, OPEN, REARM, and HOLD after a capped close (R218, R223). -/
def standpipeState (h : Hub) : Nat :=
  if !h.flag TRG_SP_CFG_EN then 0
  else if h.sp.burst.isSome then 3
  else if h.sp.rearmTo.isSome then (if h.sp.capped then 5 else 4)
  else if h.sp.f0.elim 0 (h.cnv.taken - ·) < h.fld TRG_SP_DEPTH_PRE then 1 else 2

theorem showStandpipe_eq (h : Hub) : h.showStandpipe =
    (h.put TRG_SP_STAT_STATE h.standpipeState).put TRG_SP_STAT_NCH ((List.range 512).countP h.spSelects) := by
  unfold showStandpipe standpipeState
  cases h.sp.f0 <;> rfl

theorem framed_showStandpipe (h : Hub) : Framed (among [TRG_SP_STAT]) [] h h.showStandpipe := by
  rw [showStandpipe_eq]
  exact ((framed_put ..).trans (framed_put ..)).mono (by simp [TRG_SP_STAT_STATE, TRG_SP_STAT_NCH]) (by simp)

@[simp] theorem showStandpipe_cnv (h : Hub) : h.showStandpipe.cnv = h.cnv := by rw [showStandpipe_eq, put_cnv, put_cnv]
@[simp] theorem showStandpipe_sp (h : Hub) : h.showStandpipe.sp = h.sp := by rw [showStandpipe_eq, put_sp, put_sp]

theorem standpipeState_lt (h : Hub) : h.standpipeState < 8 := by
  unfold standpipeState
  split_ifs <;> decide

theorem fld_state_showStandpipe (h : Hub) : h.showStandpipe.fld TRG_SP_STAT_STATE = h.standpipeState := by
  rw [showStandpipe_eq, fld_put_disjoint _ _ _ _ (by decide) (by decide), fld_put_self _ _ _ (by decide)]
  exact Nat.mod_eq_of_lt h.standpipeState_lt

/-- A Standpipe that waits for no frame does not show that it re-arms. -/
theorem standpipeState_of_rearmed {h : Hub} (hr : h.sp.rearmTo = none) : h.standpipeState ≤ 3 := by
  rw [standpipeState, hr, Option.isSome_none, if_neg Bool.false_ne_true]
  split_ifs <;> decide

/-! ### The end of a series (R123) -/

theorem refuseCapture_cnv (h : Hub) (c frame : Nat) : (h.refuseCapture c frame).cnv = h.cnv := by simp [refuseCapture]

/-- With the last window the series is over, and the grid goes on by the period it had. -/
theorem cnv_stopFrames (h : Hub) (g : Int) : ∃ x : Frames, (h.stopFrames g).cnv = { x with
    series := none, lastPeriod := h.fld CNV_FRAME_PERIOD_SLOTS, gridNext := some (g + (h.fld CNV_FRAME_PERIOD_SLOTS : Int))
    restart := false, spill := [] } := by
  rw [stopFrames, showStandpipe_cnv, put_cnv, put_cnv, foldl_keeps Hub.cnv fun _ _ => refuseCapture_cnv ..]
  exact ⟨_, rfl⟩

theorem framePeriod_stopFrames (h : Hub) (g : Int) : (h.stopFrames g).fld CNV_FRAME_PERIOD_SLOTS = 0 := by
  rw [stopFrames, (framed_showStandpipe _).fld_eq (by decide), fld_put_ne _ _ _ _ (by decide), fld_put_self _ _ _ (by decide)]
  rfl

/-- A series that is spent ends at the slot of the grid at which its next tick would have fallen. -/
theorem gridInstance_of_spent {h : Hub} {i : Nat} {g : Int} (hs : h.cnv.series = some i) (hg : h.cnv.gridNext = some g)
    (hr : h.cnv.restart = false) (he : (h.entry i).spent = true) (hn : g ≤ h.now) : h.gridInstance = h.stopFrames g := by
  have hover : ¬ (h.cnv.restart = true ∨
      (h.entry i).type = 1 ∧ (h.entry i).enable = true ∧ (h.entry i).ran = true ∧ ¬ (h.entry i).spent = true) := by simp [hr, he]
  simp only [gridInstance, endSeries, hs, hg, if_neg hover, advanceTo_of_le hn, bne_self_eq_false, Bool.or_self, Bool.false_eq_true,
    if_false]

/-! ### The grid after a series (R225) -/

/-- With no burst open and none waiting a frame period passes without emission. -/
theorem emission_of_empty {h : Hub} (hq : h.sp.queue = []) (hb : h.sp.burst = none) :
    (if h.framesCount then h.finishEmission.emitBurst else h) = h := by
  have hfinish : h.finishEmission = h := by simp only [finishEmission, hq]
  have hemit : h.emitBurst = h := by simp only [emitBurst, hq, hb]
  rw [hfinish, hemit, ite_self]

/-- Where no series runs and the Standpipe has nothing to emit, the grid goes on one period later, and nothing else changes. -/
theorem gridInstance_of_idle {h : Hub} {g : Int} (hs : h.cnv.series = none) (hg : h.cnv.gridNext = some g) (hn : g ≤ h.now)
    (hq : h.sp.queue = []) (hb : h.sp.burst = none) : h.gridInstance = h.setGrid (g + h.cnv.lastPeriod) := by
  simp only [gridInstance, setGrid, hs, hg, advanceTo_of_le hn, Option.isSome_none, Bool.false_eq_true, if_false]
  exact emission_of_empty hq hb

theorem framed_setGrid (h : Hub) (g : Int) : Framed (fun _ => False) [.cnv] h (h.setGrid g) :=
  ⟨fun _ _ => rfl, fun p hp => by cases p <;> simp_all [Part.same, setGrid]⟩

/-! ### Re-arming (R223) -/

/-- The Standpipe waits for no frame any more. -/
def rearmed (h : Hub) : Hub := { h with sp := { h.sp with rearmTo := none } }

theorem framed_rearmed (h : Hub) : Framed (fun _ => False) [.sp] h h.rearmed :=
  ⟨fun _ _ => rfl, fun p hp => by cases p <;> simp_all [Part.same, rearmed]⟩

/-- Frame E + PRE has been recorded once 800 ns have passed since its tick. -/
theorem rearm_of_recorded {h : Hub} {r : Nat} {f : SpFrame} (hr : h.sp.rearmTo = some r) (hf : SMap.find? h.sp.frames r = some f)
    (hn : f.tick + h.slots800ns ≤ h.now) : h.rearm = h.rearmed.showStandpipe := by
  simp only [rearm, hr, hf, advanceTo_of_le hn, rearmed]

end Hub

theorem seriesEnd_completes {s : State} (ha : s.hub.awake) {i : Nat} {g : Int} (hs : s.hub.cnv.series = some i)
    (hg : s.hub.cnv.gridNext = some g) (hr : s.hub.cnv.restart = false) (he : (s.hub.entry i).spent = true) (hn : g ≤ s.hub.now) :
    Completes .seriesEndGridInstance s fun k => k.cnv.series = none ∧ k.fld CNV_FRAME_PERIOD_SLOTS = 0 ∧
      k.cnv.lastPeriod = s.hub.fld CNV_FRAME_PERIOD_SLOTS ∧
      k.cnv.gridNext = some (g + (s.hub.fld CNV_FRAME_PERIOD_SLOTS : Int)) := by
  refine completes_timeless rfl ha (fun _ hk => hk) ?_
  rw [Hub.gridInstance_of_spent (h := s.hub.passTime) hs hg hr he hn]
  obtain ⟨x, hx⟩ := Hub.cnv_stopFrames s.hub.passTime g
  rw [hx]
  exact ⟨rfl, Hub.framePeriod_stopFrames .., rfl, rfl⟩

theorem gridInstance_idle_completes {s : State} (ha : s.hub.awake) {g : Int} (hs : s.hub.cnv.series = none)
    (hg : s.hub.cnv.gridNext = some g) (hn : g ≤ s.hub.now) (hq : s.hub.sp.queue = []) (hb : s.hub.sp.burst = none) :
    Completes .seriesEndGridInstance s fun k => k.cnv = { s.hub.cnv with gridNext := some (g + s.hub.cnv.lastPeriod) } ∧
      Framed (fun _ => False) [.cnv] s.hub k := by
  refine completes_timeless rfl ha (fun _ hk => hk) ?_
  rw [Hub.gridInstance_of_idle (h := s.hub.passTime) hs hg hn hq hb]
  exact ⟨rfl, Hub.framed_setGrid s.hub.passTime _⟩

theorem standpipeRearm_completes {s : State} (ha : s.hub.awake) {r : Nat} {f : SpFrame} (hr : s.hub.sp.rearmTo = some r)
    (hf : SMap.find? s.hub.sp.frames r = some f) (hn : f.tick + s.hub.slots800ns ≤ s.hub.now) :
    Completes .standpipeRearm s fun k => k.sp = { s.hub.sp with rearmTo := none } ∧ k.fld TRG_SP_STAT_STATE ≠ 4 ∧
      k.fld TRG_SP_STAT_STATE ≠ 5 ∧ Framed (among [TRG_SP_STAT]) [.sp] s.hub k := by
  refine completes_timeless rfl ha (fun _ hk => hk) ?_
  rw [Hub.rearm_of_recorded (h := s.hub.passTime) hr hf hn]
  have hstate := Hub.standpipeState_of_rearmed (h := s.hub.passTime.rearmed) rfl
  rw [Hub.fld_state_showStandpipe]
  refine ⟨?_, by omega, by omega, ?_⟩
  · rw [Hub.showStandpipe_sp]
    rfl
  · exact ((Hub.framed_rearmed s.hub.passTime).trans (Hub.framed_showStandpipe _)).mono (by simp) (by simp)

/-- Settles O23: the end of a series, a step of the grid after it, and the re-arming each come down to one equation of what the command
does where it acts. -/
theorem seriesEndAndRearm : Obligations.SeriesEndAndRearm := fun _ ha =>
  ⟨fun _ _ hs hg hr he hn => seriesEnd_completes ha hs hg hr he hn,
    fun _ hs hg hn hq hb => gridInstance_idle_completes ha hs hg hn hq hb,
    fun _ _ hr hf hn => standpipeRearm_completes ha hr hf hn⟩

end Sys2Proof.Machine
end
section
/-!
PROOFS. What the recipes' chains, a move of recipes between engines and the spare's bookkeeping leave alone (R150, R156, R161-R163).
-/

namespace Sys2Proof.Machine

namespace Hub

/-! ### Recipes -/

theorem recipe_congr {h k : Hub} (e : h.se = k.se) (r : Nat) : h.recipe r = k.recipe r := by rw [recipe, recipe, e]

@[simp] theorem recipe_setRecipe_self (h : Hub) (r : Nat) (x : RecipeState) : (h.setRecipe r x).recipe r = x := SMap.get_set_self ..

/-! ### SE.ENG_STAT -/

theorem fld_state_put_state (h : Hub) (e f v : Nat) : (h.put (SE_ENG_STAT_STATE e) v).fld (SE_ENG_STAT_STATE f) =
    if f = e then v % 8 else h.fld (SE_ENG_STAT_STATE f) := by
  split_ifs with hf
  · subst hf
    exact fld_put_self _ _ _ (Nat.le_refl 32)
  · exact fld_put_ne _ _ _ _ (by simp only [SE_ENG_STAT_STATE, SE_ENG_STAT]; omega)

@[simp] theorem fld_state_put_cause (h : Hub) (e f v : Nat) :
    (h.put (SE_ENG_STAT_CAUSE e) v).fld (SE_ENG_STAT_STATE f) = h.fld (SE_ENG_STAT_STATE f) :=
  fld_put_disjoint _ _ _ _ (by simp [SE_ENG_STAT_CAUSE]) (.inr (.inl (Nat.le_refl 29)))

@[simp] theorem fld_state_put_serves (h : Hub) (e f v : Nat) :
    (h.put (SE_ENG_STAT_SERVES e) v).fld (SE_ENG_STAT_STATE f) = h.fld (SE_ENG_STAT_STATE f) :=
  fld_put_disjoint _ _ _ _ (by simp [SE_ENG_STAT_SERVES]) (.inr (.inl (by simp [SE_ENG_STAT_SERVES, SE_ENG_STAT_STATE])))

@[simp] theorem fld_serves_put_state (h : Hub) (e f v : Nat) :
    (h.put (SE_ENG_STAT_STATE e) v).fld (SE_ENG_STAT_SERVES f) = h.fld (SE_ENG_STAT_SERVES f) :=
  fld_put_disjoint _ _ _ _ (by simp [SE_ENG_STAT_STATE]) (.inr (.inr (by simp [SE_ENG_STAT_SERVES, SE_ENG_STAT_STATE])))

theorem fld_serves_put_serves (h : Hub) (e : Nat) {v : Nat} (hv : v < 32) :
    (h.put (SE_ENG_STAT_SERVES e) v).fld (SE_ENG_STAT_SERVES e) = v :=
  (fld_put_self _ _ _ (by simp [SE_ENG_STAT_SERVES])).trans (Nat.mod_eq_of_lt hv)

theorem fld_cause_put_cause (h : Hub) (e : Nat) {v : Nat} (hv : v < 16) :
    (h.put (SE_ENG_STAT_CAUSE e) v).fld (SE_ENG_STAT_CAUSE e) = v :=
  (fld_put_self _ _ _ (by simp [SE_ENG_STAT_CAUSE])).trans (Nat.mod_eq_of_lt hv)

/-! ### The spare -/

/-- The engines' part of the hub with nothing but the spare's bookkeeping left: chains, flags and counts of thresholds are blanked. -/
def spareDuty (h : Hub) : Engines := { h.se with recipes := [], dt := 0, dtHi := [], dtLo := [] }

end Hub

theorem framed_withSe (h : Hub) (x : Engines) : Framed (fun _ => False) [.se] h { h with se := x } :=
  ⟨fun _ _ => rfl, fun p hp => by cases p <;> simp_all [Part.same]⟩

/-- What lies 20 µs ahead is made of the count and of the registers of Machine Time. -/
theorem Framed.ahead_eq {r : Nat → Prop} {ps : List Part} {h k : Hub} (hf : Framed r ps h k) (hr : ∀ a, r a → 0x40000 ≤ a)
    (hp : Part.mt ∉ ps) : k.now + k.slots20us = h.now + h.slots20us := by
  have hmt : k.mt = h.mt := hf.2 .mt hp
  have hfld {f : Fld} (ha : f.addr < 0x40000) : k.fld f = h.fld f := hf.fld_eq fun hx => absurd (hr _ hx) (by omega)
  rw [Hub.now, Hub.now, Hub.slots20us, Hub.slots20us, Hub.spt, Hub.spt, Hub.bclk, Hub.bclk, hmt, hfld (f := MT_TURN_CFG_SPT_M1) (by decide),
    hfld (f := MT_BCLK_MEAS_FREQ) (by decide), hfld (f := MT_BCLK_NOM_KHZ) (by decide)]

/-- From `h` to `k` only recipes move: their registers from SE.RECIPE_STAT on, their chains, and the flags and zones they drive. The state of
the engines and what waits for the spare stay. -/
structure RecipesOnly (h k : Hub) : Prop where
  framed : Framed (0x41000 ≤ ·) [.se, .trg] h k
  duty : k.spareDuty = h.spareDuty

namespace RecipesOnly

theorem refl (h : Hub) : RecipesOnly h h := ⟨(framed_refl h).mono (fun _ hf => hf.elim) (by simp), rfl⟩

theorem trans {h k l : Hub} (a : RecipesOnly h k) (b : RecipesOnly k l) : RecipesOnly h l :=
  ⟨(a.framed.trans b.framed).mono (by simp) (by simp), b.duty.trans a.duty⟩

theorem foldl {β : Type} {f : Hub → β → Hub} (hf : ∀ k b, RecipesOnly k (f k b)) (l : List β) (h : Hub) : RecipesOnly h (l.foldl f h) := by
  induction l generalizing h with
  | nil => exact refl h
  | cons b l ih => exact (hf h b).trans (ih _)

theorem ite {h k : Hub} {c : Prop} [Decidable c] (hk : RecipesOnly h k) : RecipesOnly h (if c then k else h) := by
  split_ifs
  · exact hk
  · exact refl h

theorem put (h : Hub) {f : Fld} (v : Nat) (hf : 0x41000 ≤ f.addr) : RecipesOnly h (h.put f v) :=
  ⟨(framed_put h f v).mono (fun a ha => ha ▸ hf) (by simp), rfl⟩

theorem setRecipe (h : Hub) (r : Nat) (x : RecipeState) : RecipesOnly h (h.setRecipe r x) :=
  ⟨(framed_withSe h _).mono (fun _ hf => hf.elim) (by simp), rfl⟩

theorem dtFail (h : Hub) (c : Nat) : RecipesOnly h (h.dtFail c) :=
  ⟨(framed_withSe h _).mono (fun _ hf => hf.elim) (by simp), rfl⟩

theorem setZone (h : Hub) (z : Nat) (on : Bool) : RecipesOnly h (h.setZone z on) :=
  ⟨⟨fun _ _ => rfl, fun p hp => by cases p <;> simp_all [Part.same, Hub.setZone]⟩, rfl⟩

theorem restartChain (h : Hub) (r : Nat) (t : Int) : RecipesOnly h (h.restartChain r t) := setRecipe ..

/-- The recipes of an engine are paced as FILL (R161). -/
theorem fillEngine (h : Hub) (e : Nat) : RecipesOnly h (h.fillEngine e) := by
  refine foldl (fun k r => ?_) _ _
  have hfill : RecipesOnly k ((k.setRecipe r { k.recipe r with failHold := true, paced := 0 }).put (SE_RECIPE_STAT_FILLING r) 1) :=
    (setRecipe ..).trans (put _ _ (by simp only [SE_RECIPE_STAT_FILLING, SE_RECIPE_STAT]; omega))
  exact (hfill.trans (foldl (fun k c => ite (dtFail k c)) _ _)).trans
    (foldl (fun k st => ite (foldl (fun k z => setZone k ..) _ _)) _ _)

/-- After what SE_SPARE shows of itself, its service of an engine is a matter of the engine's recipes (R162). -/
theorem spareServes (h : Hub) (e : Nat) (t : Int) :
    RecipesOnly ((h.put (SE_ENG_STAT_STATE 16) 5).put (SE_ENG_STAT_SERVES 16) e) (h.spareServes e t) := by
  refine foldl (fun k r => ?_) _ _
  exact (((setRecipe k r _).trans (put _ _ (by simp only [SE_RECIPE_STAT_ENGINE, SE_RECIPE_STAT]; omega))).trans
    (put _ _ (by simp only [SE_RECIPE_STAT_FILLING, SE_RECIPE_STAT]; omega))).trans (restartChain ..)

variable {h k : Hub} (a : RecipesOnly h k)
include a

theorem fld_eq {f : Fld} (hf : f.addr < 0x41000) : k.fld f = h.fld f := a.framed.fld_eq (by omega)

theorem reg_eq {n : Nat} (hn : n < 0x41000) : k.reg n = h.reg n := a.framed.1 n (by omega)

theorem occurrences_eq (n : Nat) : k.occurrences n = h.occurrences n := Hub.occurrences_congr (a.framed.2 .evt (by simp)) n

theorem takeover_eq : k.se.takeover = h.se.takeover := (congrArg Engines.takeover a.duty :)

theorem swap_eq : k.se.swap = h.se.swap := (congrArg Engines.swap a.duty :)

theorem spareOut_eq : k.se.spareOut = h.se.spareOut := (congrArg Engines.spareOut a.duty :)

theorem ahead_eq : k.now + k.slots20us = h.now + h.slots20us := a.framed.ahead_eq (fun _ hx => by omega) (by simp)

end RecipesOnly

end Sys2Proof.Machine
end
section
/-!
PROOFS. The failure of an engine and of SE_SPARE, and the boundary of a takeover (R160, R162, R164): what settles O15.
-/

namespace Sys2Proof.Machine

namespace Hub

/-! ### Failure -/

/-- Engine `e` shows that it has failed and why, and its event is raised (R160). -/
def declareFailed (e cause : Nat) (h : Hub) : Hub :=
  let h := (h.put (SE_ENG_STAT_STATE e) 4).put (SE_ENG_STAT_CAUSE e) cause
  h.raise (48 + e) 1 (cause :: wide h.mtNow.pack)

theorem fld_state_declareFailed (h : Hub) (e cause : Nat) : (h.declareFailed e cause).fld (SE_ENG_STAT_STATE e) = 4 := by
  rw [declareFailed, fld_raise, fld_state_put_cause, fld_state_put_state, if_pos rfl]

theorem fld_cause_declareFailed (h : Hub) (e : Nat) {cause : Nat} (hc : cause < 16) :
    (h.declareFailed e cause).fld (SE_ENG_STAT_CAUSE e) = cause := by
  rw [declareFailed, fld_raise, fld_cause_put_cause _ _ hc]

@[simp] theorem declareFailed_se (h : Hub) (e cause : Nat) : (h.declareFailed e cause).se = h.se := by
  rw [declareFailed, raise_se, put_se, put_se]

theorem occurrences_declareFailed (h : Hub) (e cause : Nat) :
    (h.declareFailed e cause).occurrences (48 + e) = satAdd (2 ^ 24 - 1) (h.occurrences (48 + e)) 1 := by
  rw [declareFailed, occurrences_raise, if_pos rfl, occurrences_put, occurrences_put]

theorem framed_declareFailed (h : Hub) (e cause : Nat) : Framed (· = SE_ENG_STAT e) eventParts h (h.declareFailed e cause) :=
  (((framed_put ..).trans (framed_put ..)).trans (framed_raise ..)).mono (by simp [SE_ENG_STAT_STATE, SE_ENG_STAT_CAUSE]) (by simp)

/-- What becomes of the spare when engine `e` has failed: `serving` says that it serves an engine already (R162-R164). -/
def assignSpare (e : Nat) (serving : Bool) (h : Hub) : Hub :=
  if h.se.spareOut || (serving && !h.se.planned) then h.loseEngine e
  else match h.se.takeover with
    | some (f, t) =>
      if e < f then { h.loseEngine f with se := { h.se with takeover := some (e, h.now + h.slots20us) } }
      else { h.loseEngine e with se := { h.se with takeover := some (f, t) } }
    | none =>
      let k : Hub := { h with se := { h.se with takeover := some (e, h.now + h.slots20us), swap := none } }
      if serving then k else k.put (SE_ENG_STAT_STATE 16) 3

/-- The failure of an engine: it is declared, its recipes may be paced as FILL, and the spare is assigned. -/
theorem failEngine_engine {h : Hub} {e : Nat} (he : e < 16) (hs : h.fld (SE_ENG_STAT_STATE e) ≠ 4) (cause : Nat) :
    ∃ k, RecipesOnly (h.declareFailed e cause) k ∧ h.failEngine e cause = k.assignSpare e (h.fld (SE_ENG_STAT_STATE 16) == 5) := by
  have hfails : ¬ (decide (17 ≤ e) || h.fld (SE_ENG_STAT_STATE e) == 4) = true := by simp [hs]; omega
  have hengine : e ≠ 16 := by omega
  rw [failEngine, if_neg hfails]
  dsimp only
  rw [if_neg hengine]
  refine ⟨_, ?_, rfl⟩
  split_ifs
  · exact .refl _
  · exact .fillEngine ..

theorem reg_assignSpare (h : Hub) (e : Nat) (serving : Bool) {a : Nat} (ha : a ≠ SE_ENG_STAT 16) :
    (h.assignSpare e serving).reg a = h.reg a := by
  rw [assignSpare]
  split
  · exact reg_raise ..
  · split
    · split <;> exact reg_raise ..
    · dsimp only
      split
      · rfl
      · exact reg_put_ne _ (SE_ENG_STAT_STATE 16) _ ha

/-- A spare that is free loads for the engine, and the takeover waits. -/
theorem assignSpare_free {h : Hub} (hout : h.se.spareOut = false) (hw : h.se.takeover = none) (e : Nat) :
    h.assignSpare e false = ({ h with se := { h.se with takeover := some (e, h.now + h.slots20us), swap := none } } : Hub).put
      (SE_ENG_STAT_STATE 16) 3 := by
  simp only [assignSpare, hout, hw, Bool.false_and, Bool.or_self, Bool.false_eq_true, if_false]

theorem failed_failEngine {h : Hub} {e cause : Nat} (he : e < 16) (hs : h.fld (SE_ENG_STAT_STATE e) ≠ 4) (hc : cause < 16) :
    (h.failEngine e cause).fld (SE_ENG_STAT_STATE e) = 4 ∧ (h.failEngine e cause).fld (SE_ENG_STAT_CAUSE e) = cause := by
  obtain ⟨k, hk, hfail⟩ := failEngine_engine he hs cause
  have hreg : (h.failEngine e cause).reg (SE_ENG_STAT e) = (h.declareFailed e cause).reg (SE_ENG_STAT e) := by
    rw [hfail, reg_assignSpare _ _ _ (by simp only [SE_ENG_STAT]; omega), hk.reg_eq (by simp only [SE_ENG_STAT]; omega)]
  exact ⟨(congrArg (SE_ENG_STAT_STATE e).get hreg).trans (fld_state_declareFailed ..),
    (congrArg (SE_ENG_STAT_CAUSE e).get hreg).trans (fld_cause_declareFailed h e hc)⟩

/-- With the spare free, the failure of an engine makes it load, and the takeover waits from 20 µs on. -/
theorem takeover_failEngine {h : Hub} {e : Nat} (he : e < 16) (hs : h.fld (SE_ENG_STAT_STATE e) ≠ 4) (hout : h.se.spareOut = false)
    (hidle : h.fld (SE_ENG_STAT_STATE 16) ≠ 5) (hw : h.se.takeover = none) (cause : Nat) :
    (h.failEngine e cause).se.takeover = some (e, h.now + h.slots20us) ∧ (h.failEngine e cause).se.swap = none ∧
      (h.failEngine e cause).fld (SE_ENG_STAT_STATE 16) = 3 := by
  obtain ⟨k, hk, hfail⟩ := failEngine_engine he hs cause
  have htime : k.now + k.slots20us = h.now + h.slots20us :=
    hk.ahead_eq.trans ((framed_declareFailed h e cause).ahead_eq (by simp only [SE_ENG_STAT]; omega) (by simp))
  rw [hfail, beq_eq_false_iff_ne.2 hidle, assignSpare_free (by rw [hk.spareOut_eq, declareFailed_se, hout])
    (by rw [hk.takeover_eq, declareFailed_se, hw]), htime, fld_state_put_state]
  exact ⟨rfl, rfl, rfl⟩

/-! ### Failure of SE_SPARE (R164) -/

/-- SE_SPARE leaves service, and no swap waits any more. -/
def spareLeaves (cause : Nat) (h : Hub) : Hub :=
  ({ h with se := { h.se with spareOut := true, swap := none } } : Hub).raise 64 8 [cause]

/-- The engine that SE_SPARE served is lost. -/
def dropServed (e : Nat) (h : Hub) : Hub := (({ h with se := { h.se with planned := false } } : Hub).fillEngine e).loseEngine e

/-- The engine that waited for SE_SPARE is lost. -/
def dropWaiting (h : Hub) : Hub :=
  match h.se.takeover with
  | some (f, _) => { h.loseEngine f with se := { h.se with takeover := none } }
  | none => h

theorem failEngine_spare {h : Hub} (hs : h.fld (SE_ENG_STAT_STATE 16) ≠ 4) (cause : Nat) : h.failEngine 16 cause =
    (if h.fld (SE_ENG_STAT_STATE 16) == 5 then ((h.declareFailed 16 cause).spareLeaves cause).dropServed (h.fld (SE_ENG_STAT_SERVES 16))
      else (h.declareFailed 16 cause).spareLeaves cause).dropWaiting := by
  rw [failEngine, if_neg (by simp [hs])]
  rfl

theorem dropWaiting_se (h : Hub) : h.dropWaiting.se = { h.se with takeover := none } := by
  rw [dropWaiting]
  split
  · rfl
  · next hw => rw [← hw]

theorem dropWaiting_none {h : Hub} (hw : h.se.takeover = none) : h.dropWaiting = h := by rw [dropWaiting, hw]

theorem spareLeaves_se (h : Hub) (cause : Nat) : (h.spareLeaves cause).se = { h.se with spareOut := true, swap := none } := raise_se ..

theorem dropServed_keeps (h : Hub) (e : Nat) :
    (h.dropServed e).se.spareOut = h.se.spareOut ∧ (h.dropServed e).se.swap = h.se.swap := by
  have hse : (h.dropServed e).se = (({ h with se := { h.se with planned := false } } : Hub).fillEngine e).se := raise_se ..
  rw [hse]
  exact ⟨(RecipesOnly.fillEngine ..).spareOut_eq, (RecipesOnly.fillEngine ..).swap_eq⟩

/-- With SE_SPARE out of service nothing waits for it. -/
theorem nothingWaits_failSpare {h : Hub} (hs : h.fld (SE_ENG_STAT_STATE 16) ≠ 4) (cause : Nat) :
    (h.failEngine 16 cause).se.spareOut = true ∧ (h.failEngine 16 cause).se.takeover = none ∧ (h.failEngine 16 cause).se.swap = none := by
  rw [failEngine_spare hs, dropWaiting_se]
  dsimp only
  split_ifs
  · obtain ⟨hout, hswap⟩ := dropServed_keeps ((h.declareFailed 16 cause).spareLeaves cause) (h.fld (SE_ENG_STAT_SERVES 16))
    rw [spareLeaves_se] at hout hswap
    exact ⟨hout, rfl, hswap⟩
  · rw [spareLeaves_se]
    exact ⟨rfl, rfl, rfl⟩

/-- An idle SE_SPARE that no takeover waits for fails like an engine, and is reported as the spare too. -/
theorem failEngine_idleSpare {h : Hub} (hs : h.fld (SE_ENG_STAT_STATE 16) ≠ 4) (hidle : h.fld (SE_ENG_STAT_STATE 16) ≠ 5)
    (hw : h.se.takeover = none) (cause : Nat) : h.failEngine 16 cause = (h.declareFailed 16 cause).spareLeaves cause := by
  rw [failEngine_spare hs, if_neg (by simpa using hidle), dropWaiting_none]
  rw [spareLeaves_se, declareFailed_se]
  exact hw

theorem occurrences_spareLeaves (h : Hub) (cause : Nat) :
    (h.spareLeaves cause).occurrences 64 = satAdd (2 ^ 24 - 1) (h.occurrences 64) 1 := (occurrences_raise ..).trans (if_pos rfl)

theorem fld_spareLeaves (h : Hub) (cause : Nat) (f : Fld) : (h.spareLeaves cause).fld f = h.fld f := fld_raise ..

/-! ### The boundary of a takeover (R162) -/

/-- With no swap in force and the recipe shadow loaded, SE_SPARE serves the engine from the boundary on. -/
theorem takeOver_eq {h : Hub} {e : Nat} {t : Int} (hw : h.se.takeover = some (e, t)) (hn : h.boundaryFrom t ≤ h.now)
    (hd : e ∉ h.se.shadowDue) (hp : h.se.planned = false) : ∃ d, h.takeOver =
      ({ h.spareServes e (h.boundaryFrom t) with se := { (h.spareServes e (h.boundaryFrom t)).se with takeover := none } } : Hub).raise
        64 2 d := by
  simp only [takeOver, hw, advanceTo_of_le hn, List.contains_iff_mem, hd, hp, Bool.false_eq_true, if_false]
  exact ⟨_, rfl⟩

theorem spareServes_shows (h : Hub) {e : Nat} (he : e < 16) (t : Int) : (h.spareServes e t).fld (SE_ENG_STAT_STATE 16) = 5 ∧
    (h.spareServes e t).fld (SE_ENG_STAT_SERVES 16) = e := by
  have hk := RecipesOnly.spareServes h e t
  rw [hk.fld_eq (by decide), hk.fld_eq (by decide), fld_state_put_serves, fld_state_put_state, fld_serves_put_serves _ _ (by omega)]
  exact ⟨rfl, rfl⟩

theorem occurrences_spareServes (h : Hub) (e : Nat) (t : Int) (n : Nat) : (h.spareServes e t).occurrences n = h.occurrences n := by
  rw [(RecipesOnly.spareServes h e t).occurrences_eq, occurrences_put, occurrences_put]

end Hub

theorem engineFail_completes {s : State} (ha : s.hub.awake) {e cause : Nat} (he : e < 16) (hc : cause < 16)
    (hs : s.hub.fld (SE_ENG_STAT_STATE e) ≠ 4) : Completes (.engineFail e cause) s fun k =>
      k.fld (SE_ENG_STAT_STATE e) = 4 ∧ k.fld (SE_ENG_STAT_CAUSE e) = cause ∧
      (s.hub.se.spareOut = false → s.hub.fld (SE_ENG_STAT_STATE 16) ≠ 5 → s.hub.se.takeover = none →
        k.se.takeover = some (e, s.hub.now + s.hub.slots20us) ∧ k.se.swap = none ∧ k.fld (SE_ENG_STAT_STATE 16) = 3) := by
  refine completes_timeless rfl ha (fun _ hk => hk) ?_
  obtain ⟨hstate, hcause⟩ := Hub.failed_failEngine (h := s.hub.passTime) he hs hc
  exact ⟨hstate, hcause, fun hout hidle hw => Hub.takeover_failEngine (h := s.hub.passTime) he hs hout hidle hw cause⟩

theorem spareFail_completes {s : State} (ha : s.hub.awake) {cause : Nat} (hc : cause < 16) (hs : s.hub.fld (SE_ENG_STAT_STATE 16) ≠ 4) :
    Completes (.engineFail 16 cause) s fun k => k.se.spareOut = true ∧ k.se.takeover = none ∧ k.se.swap = none ∧
      (s.hub.fld (SE_ENG_STAT_STATE 16) ≠ 5 → s.hub.se.takeover = none →
        k.fld (SE_ENG_STAT_STATE 16) = 4 ∧ k.fld (SE_ENG_STAT_CAUSE 16) = cause ∧
        k.occurrences 64 = satAdd (2 ^ 24 - 1) (satAdd (2 ^ 24 - 1) (s.hub.occurrences 64) 1) 1) := by
  refine completes_timeless rfl ha (fun _ hk => hk) ?_
  obtain ⟨hout, htake, hswap⟩ := Hub.nothingWaits_failSpare (h := s.hub.passTime) hs cause
  refine ⟨hout, htake, hswap, fun hidle hw => ?_⟩
  rw [Hub.failEngine_idleSpare (h := s.hub.passTime) hs hidle hw, Hub.fld_spareLeaves, Hub.fld_spareLeaves, Hub.fld_state_declareFailed,
    Hub.fld_cause_declareFailed _ _ hc, Hub.occurrences_spareLeaves, Hub.occurrences_declareFailed s.hub.passTime 16]
  exact ⟨rfl, rfl, rfl⟩

theorem seTakeover_completes {s : State} (ha : s.hub.awake) {e : Nat} (he : e < 16) {t : Int} (hw : s.hub.se.takeover = some (e, t))
    (hn : s.hub.boundaryFrom t ≤ s.hub.now) (hd : e ∉ s.hub.se.shadowDue) (hp : s.hub.se.planned = false) :
    Completes .seTakeover s fun k => k.fld (SE_ENG_STAT_STATE 16) = 5 ∧ k.fld (SE_ENG_STAT_SERVES 16) = e ∧ k.se.takeover = none ∧
      Hub.oneMore 64 s.hub k := by
  refine completes_timeless rfl ha (fun _ hk => hk) ?_
  obtain ⟨d, hk⟩ := Hub.takeOver_eq (h := s.hub.passTime) hw hn hd hp
  obtain ⟨hstate, hserves⟩ := s.hub.passTime.spareServes_shows he (s.hub.passTime.boundaryFrom t)
  rw [hk, Hub.fld_raise, Hub.fld_raise, Hub.raise_se, Hub.oneMore, Hub.occurrences_raise, if_pos rfl]
  refine ⟨hstate, hserves, rfl, ?_⟩
  exact congrArg (satAdd (2 ^ 24 - 1) · 1) (s.hub.passTime.occurrences_spareServes e _ 64)

/-- Settles O15: a failure is what the engine shows of it, its recipes, and what becomes of the spare; a takeover is what SE_SPARE shows of it
and the recipes it takes. That the failure of SE_SPARE raises both ENGINE_FAIL and SPARE_UNAVAILABLE on EV64, and when the spare shows LOADING,
is the model's choice (log entries 18 and 175). -/
theorem engineFailureAndTakeover : Obligations.EngineFailureAndTakeover := fun _ _ _ ha he hc =>
  ⟨fun hs => engineFail_completes ha he hc hs, fun hs => spareFail_completes ha hc hs,
    fun _ hw hn hd hp => seTakeover_completes ha he hw hn hd hp⟩

end Sys2Proof.Machine
end
section
/-!
PROOFS. Planned swaps of engines and hand-backs (R163): what settles O16.
-/

namespace Sys2Proof.Machine

namespace Hub

/-- A write over a path that reaches live registers is reported where its effect is refused (R12). -/
theorem writeCmd_refused {h : Hub} {p : Path} {f : Hub → Option Hub} (addr : Nat) (hp : h.livePath p) (hf : f h = none) :
    h.writeCmd p addr .LV f = h.report p .locked addr true := by
  obtain ⟨hd, hlc⟩ := hp
  simp [writeCmd, writeTo, hd, writable, hlc, hf]

end Hub

/-- A refused write leaves but its report (R12, R302). -/
theorem refused_completes {c : Instr} {s : State} {p : Path} {addr : Nat} {f : Hub → Option Hub}
    (e : exec c s = s.onHub (Hub.writeCmd p addr .LV f)) (ha : s.hub.awake) (hp : s.hub.livePath p) (hf : f s.hub.passTime = none) :
    Completes c s fun k => Framed (inBlocks [9]) (.wl :: eventParts) s.hub k := by
  refine completes_timeless e ha (fun _ hk => hk) ?_
  rw [Hub.writeCmd_refused (h := s.hub.passTime) _ hp hf]
  exact Hub.framed_report s.hub.passTime ..

namespace Hub

/-! ### Requests -/

/-- A swap waits, SE.SWAP shows it, and the spare loads. -/
def askSwap (e : Nat) (h : Hub) : Hub :=
  (({ h with se := { h.se with swap := some (e, false, h.now + h.slots20us) } } : Hub).setReg SE_SWAP (BitVec.ofNat 32 (16 + e))).put
    (SE_ENG_STAT_STATE 16) 3

theorem requestSwap_taken {h : Hub} {e : Nat} (he : e < 16) (hfree : h.spareFree = true) (hw : h.se.takeover = none)
    (hs : h.fld (SE_ENG_STAT_STATE e) ≠ 4) : h.requestSwap e = some (h.askSwap e) := by
  have hok : (decide (e < 16) && h.spareFree && h.se.takeover.isNone && h.fld (SE_ENG_STAT_STATE e) != 4) = true := by
    simp [he, hfree, hw, hs]
  rw [requestSwap, if_pos hok]
  rfl

theorem requestSwap_refused {h : Hub} {e : Nat}
    (hno : h.spareFree = false ∨ h.se.takeover ≠ none ∨ h.fld (SE_ENG_STAT_STATE e) = 4) : h.requestSwap e = none := by
  refine if_neg fun hok => ?_
  simp only [Bool.and_eq_true, Option.isNone_iff_eq_none, bne_iff_ne] at hok
  obtain ⟨⟨⟨-, hfree⟩, hw⟩, hs⟩ := hok
  obtain hno | hno | hno := hno
  · exact absurd hfree (by simp [hno])
  · exact hno hw
  · exact hs hno

theorem reg_askSwap (h : Hub) {e : Nat} (he : e < 16) : ((h.askSwap e).reg SE_SWAP).toNat = 16 + e := by
  rw [askSwap, reg_put_ne _ _ _ (by decide), reg_setReg_self, BitVec.toNat_ofNat, Nat.mod_eq_of_lt (by omega)]

theorem fld_state_askSwap (h : Hub) (e : Nat) : (h.askSwap e).fld (SE_ENG_STAT_STATE 16) = 3 := by
  rw [askSwap, fld_state_put_state, if_pos rfl]

theorem framed_askSwap (h : Hub) (e : Nat) : Framed (among [SE_SWAP, SE_ENG_STAT 16]) [.se] h (h.askSwap e) :=
  (((framed_withSe ..).trans (framed_setReg ..)).trans (framed_put ..)).mono (by simp [SE_ENG_STAT_STATE]) (by simp)

/-- A swap in force is handed back 20 µs on. -/
def askReturn (e : Nat) (h : Hub) : Hub :=
  { h.setReg SE_SWAP (BitVec.ofNat 32 (e % 16)) with
    se := { h.se with swap := some (h.fld (SE_ENG_STAT_SERVES 16), true, h.now + h.slots20us) } }

theorem requestHandBack_planned {h : Hub} (hp : h.se.planned = true) (e : Nat) : h.requestHandBack e = some (h.askReturn e) := by
  have hf := framed_setReg h SE_SWAP (BitVec.ofNat 32 (e % 16))
  have htime := hf.ahead_eq (by rintro a rfl; decide) (by simp)
  have hserves := hf.fld_eq (f := SE_ENG_STAT_SERVES 16) (by decide)
  simp only [requestHandBack, setReg_se, hp, if_true, hserves, htime, askReturn]

/-- What waits is taken back, and a spare that loads for it is idle again. -/
def dropSwap (e : Nat) (h : Hub) : Hub :=
  let h := h.setReg SE_SWAP (BitVec.ofNat 32 (e % 16))
  let h := if h.fld (SE_ENG_STAT_STATE 16) == 3 && h.se.swap.isSome then h.put (SE_ENG_STAT_STATE 16) 2 else h
  { h with se := { h.se with swap := none } }

theorem requestHandBack_unplanned {h : Hub} (hp : h.se.planned = false) (e : Nat) : h.requestHandBack e = some (h.dropSwap e) :=
  if_neg (by rw [setReg_se, hp]; decide)

theorem fld_state_dropSwap (h : Hub) (e : Nat) : (h.dropSwap e).fld (SE_ENG_STAT_STATE 16) =
    if h.fld (SE_ENG_STAT_STATE 16) = 3 ∧ h.se.swap ≠ none then 2 else h.fld (SE_ENG_STAT_STATE 16) := by
  have hf := (framed_setReg h SE_SWAP (BitVec.ofNat 32 (e % 16))).fld_eq (f := SE_ENG_STAT_STATE 16) (by decide)
  have hloads : (h.fld (SE_ENG_STAT_STATE 16) == 3 && h.se.swap.isSome) = true ↔
      h.fld (SE_ENG_STAT_STATE 16) = 3 ∧ h.se.swap ≠ none := by simp [Option.isSome_iff_ne_none]
  refine (apply_ite (fun k : Hub => k.fld (SE_ENG_STAT_STATE 16)) _ _ _).trans ?_
  rw [fld_state_put_state, if_pos rfl, hf, setReg_se]
  exact if_congr hloads rfl rfl

theorem framed_dropSwap (h : Hub) (e : Nat) : Framed (among [SE_SWAP, SE_ENG_STAT 16]) [.se] h (h.dropSwap e) :=
  (((framed_setReg ..).trans (framed_ite (framed_put ..))).trans (framed_withSe ..)).mono (by simp [SE_ENG_STAT_STATE]) (by simp)

/-! ### The boundary -/

/-- SE_SPARE is idle again, and an engine that was idle for it runs. -/
def showReturn (h : Hub) : Hub :=
  let e := h.fld (SE_ENG_STAT_SERVES 16)
  let h := (h.put (SE_ENG_STAT_STATE 16) 2).put (SE_ENG_STAT_SERVES 16) 31
  if h.fld (SE_ENG_STAT_STATE e) == 2 then h.put (SE_ENG_STAT_STATE e) 1 else h

theorem showReturn_shows {h : Hub} (he : h.fld (SE_ENG_STAT_SERVES 16) < 16) :
    h.showReturn.fld (SE_ENG_STAT_STATE 16) = 2 ∧ h.showReturn.fld (SE_ENG_STAT_SERVES 16) = 31 := by
  have hne : 16 ≠ h.fld (SE_ENG_STAT_SERVES 16) := by omega
  rw [showReturn]
  split_ifs
  · rw [fld_state_put_state, if_neg hne, fld_state_put_serves, fld_state_put_state, fld_serves_put_state,
      fld_serves_put_serves _ _ (by decide)]
    exact ⟨rfl, rfl⟩
  · rw [fld_state_put_serves, fld_state_put_state, fld_serves_put_serves _ _ (by decide)]
    exact ⟨rfl, rfl⟩

theorem occurrences_showReturn (h : Hub) (n : Nat) : h.showReturn.occurrences n = h.occurrences n := by
  rw [showReturn]
  split_ifs <;> simp only [occurrences_put]

theorem spareReturns_recipesOnly (h : Hub) (t : Int) : RecipesOnly h.showReturn (h.spareReturns t) :=
  .foldl (fun k r => (RecipesOnly.put k _ (by simp only [SE_RECIPE_STAT_ENGINE, SE_RECIPE_STAT]; omega)).trans (.restartChain ..)) _ _

/-- At the boundary of a swap the spare serves the engine, which is idle, or hands back. -/
def moveRecipes (e : Nat) (back : Bool) (t : Int) (h : Hub) : Hub :=
  if back then h.spareReturns t else (h.put (SE_ENG_STAT_STATE e) 2).spareServes e t

theorem swapDone_eq {h : Hub} {e : Nat} {back : Bool} {t : Int} (hs : h.se.swap = some (e, back, t)) (hn : h.boundaryFrom t ≤ h.now) :
    h.swapDone = ({ h.moveRecipes e back (h.boundaryFrom t) with
      se := { (h.moveRecipes e back (h.boundaryFrom t)).se with swap := none, planned := !back } } : Hub).raise 64 4 [e, ofBool back] := by
  simp only [swapDone, hs, advanceTo_of_le hn, Option.isNone_some, Bool.false_eq_true, if_false]
  rfl

theorem occurrences_moveRecipes (h : Hub) (e : Nat) (back : Bool) (t : Int) (n : Nat) :
    (h.moveRecipes e back t).occurrences n = h.occurrences n := by
  rw [moveRecipes]
  split_ifs
  · rw [(h.spareReturns_recipesOnly t).occurrences_eq, occurrences_showReturn]
  · rw [occurrences_spareServes, occurrences_put]

theorem moveRecipes_shows {h : Hub} {e : Nat} (he : e < 16) {back : Bool} (hb : back = true → h.fld (SE_ENG_STAT_SERVES 16) = e) (t : Int) :
    let k := h.moveRecipes e back t
    if back then k.fld (SE_ENG_STAT_STATE 16) = 2 ∧ k.fld (SE_ENG_STAT_SERVES 16) = 31
    else k.fld (SE_ENG_STAT_STATE e) = 2 ∧ k.fld (SE_ENG_STAT_STATE 16) = 5 ∧ k.fld (SE_ENG_STAT_SERVES 16) = e := by
  cases back with
  | true =>
    have hk := h.spareReturns_recipesOnly t
    obtain ⟨hstate, hserves⟩ := showReturn_shows (h := h) (by rw [hb rfl]; exact he)
    exact ⟨(hk.fld_eq (by decide)).trans hstate, (hk.fld_eq (by decide)).trans hserves⟩
  | false =>
    have hk := RecipesOnly.spareServes (h.put (SE_ENG_STAT_STATE e) 2) e t
    refine ⟨?_, (h.put (SE_ENG_STAT_STATE e) 2).spareServes_shows he t⟩
    refine (hk.fld_eq (by simp only [SE_ENG_STAT_STATE, SE_ENG_STAT]; omega)).trans ?_
    rw [fld_state_put_serves, fld_state_put_state, if_neg (by omega), fld_state_put_state, if_pos rfl]

end Hub

theorem seSwap_taken_completes {s : State} (ha : s.hub.awake) {p : Path} (hp : s.hub.livePath p) {e : Nat} (he : e < 16)
    (hfree : s.hub.spareFree = true) (hw : s.hub.se.takeover = none) (hs : s.hub.fld (SE_ENG_STAT_STATE e) ≠ 4) :
    Completes (.seSwap p e) s fun k =>
      k.se.swap = some (e, false, s.hub.now + s.hub.slots20us) ∧ (k.reg SE_SWAP).toNat = 16 + e ∧
      k.fld (SE_ENG_STAT_STATE 16) = 3 ∧ Framed (among [SE_SWAP, SE_ENG_STAT 16]) [.se] s.hub k := by
  refine completes_timeless rfl ha (fun _ hk => hk) ?_
  rw [Hub.writeCmd_live (h := s.hub.passTime) _ hp (Hub.requestSwap_taken he hfree hw hs)]
  exact ⟨rfl, Hub.reg_askSwap _ he, Hub.fld_state_askSwap .., Hub.framed_askSwap s.hub.passTime e⟩

theorem seHandBack_planned_completes {s : State} (ha : s.hub.awake) {p : Path} (hp : s.hub.livePath p) (hs : s.hub.se.planned = true) (e : Nat) :
    Completes (.seHandBack p e) s fun k =>
      k.se.swap = some (s.hub.fld (SE_ENG_STAT_SERVES 16), true, s.hub.now + s.hub.slots20us) ∧ Framed (among [SE_SWAP]) [.se] s.hub k := by
  refine completes_timeless rfl ha (fun _ hk => hk) ?_
  rw [Hub.writeCmd_live (h := s.hub.passTime) _ hp (Hub.requestHandBack_planned (h := s.hub.passTime) hs e)]
  exact ⟨rfl, ((framed_setReg s.hub.passTime ..).trans (framed_withSe ..)).mono (by simp) (by simp)⟩

theorem seHandBack_unplanned_completes {s : State} (ha : s.hub.awake) {p : Path} (hp : s.hub.livePath p) (hs : s.hub.se.planned = false)
    (e : Nat) : Completes (.seHandBack p e) s fun k => k.se.swap = none ∧
      k.fld (SE_ENG_STAT_STATE 16) = (if s.hub.fld (SE_ENG_STAT_STATE 16) = 3 ∧ s.hub.se.swap ≠ none then 2
        else s.hub.fld (SE_ENG_STAT_STATE 16)) ∧
      Framed (among [SE_SWAP, SE_ENG_STAT 16]) [.se] s.hub k := by
  refine completes_timeless rfl ha (fun _ hk => hk) ?_
  rw [Hub.writeCmd_live (h := s.hub.passTime) _ hp (Hub.requestHandBack_unplanned (h := s.hub.passTime) hs e)]
  exact ⟨rfl, s.hub.passTime.fld_state_dropSwap e, s.hub.passTime.framed_dropSwap e⟩

theorem swapDone_completes {s : State} (ha : s.hub.awake) {e : Nat} (he : e < 16) {back : Bool} {t : Int}
    (hs : s.hub.se.swap = some (e, back, t)) (hb : back = true → s.hub.fld (SE_ENG_STAT_SERVES 16) = e)
    (hn : s.hub.boundaryFrom t ≤ s.hub.now) :
    Completes .swapDone s fun k => k.se.swap = none ∧ k.se.planned = !back ∧ Hub.oneMore 64 s.hub k ∧
      if back then k.fld (SE_ENG_STAT_STATE 16) = 2 ∧ k.fld (SE_ENG_STAT_SERVES 16) = 31
      else k.fld (SE_ENG_STAT_STATE e) = 2 ∧ k.fld (SE_ENG_STAT_STATE 16) = 5 ∧ k.fld (SE_ENG_STAT_SERVES 16) = e := by
  refine completes_timeless rfl ha (fun _ hk => hk) ?_
  rw [Hub.swapDone_eq (h := s.hub.passTime) hs hn, Hub.raise_se, Hub.oneMore, Hub.occurrences_raise, if_pos rfl]
  refine ⟨rfl, rfl, congrArg (satAdd (2 ^ 24 - 1) · 1) (s.hub.passTime.occurrences_moveRecipes e back _ 64), ?_⟩
  simp only [Hub.fld_raise]
  exact Hub.moveRecipes_shows (h := s.hub.passTime) he hb _

/-- Settles O16: a request is one change of what waits or a report alone, and at the boundary the recipes move with what SE_SPARE shows. That
a refused swap raises no SPARE_UNAVAILABLE, and when the spare shows LOADING, is the model's choice (log entries 40 and 175). -/
theorem engineSwaps : Obligations.EngineSwaps := fun _ _ _ ha he =>
  ⟨fun hp hfree hw hs => seSwap_taken_completes ha hp he hfree hw hs,
    fun hp hno => (refused_completes rfl ha hp (Hub.requestSwap_refused hno)).mono fun _ hk => ⟨hk.2 .se (by simp), hk.1 _ (by decide)⟩,
    fun hp hs => seHandBack_planned_completes ha hp hs _, fun hp hs => seHandBack_unplanned_completes ha hp hs _,
    fun _ _ hs hb hn => swapDone_completes ha he hs hb hn⟩

end Sys2Proof.Machine
end
section
/-!
PROOFS. Bank selection and the registers of digital thresholds (R153, R156, R157): what settles O17.
-/

namespace Sys2Proof.Machine

namespace Hub

/-! ### Banks -/

/-- Another bank of a recipe is shown at once, and waits. -/
theorem selectBank_taken {h : Hub} {r b : Nat} (hl : r ∈ h.loaded) (ht : h.twoBanks r = true) (hb : b < 2)
    (hs : h.fld (SE_BANK_SEL_BANK r) ≠ b) : h.selectBank r b =
      some ((h.setRecipe r { h.recipe r with bankDue := some (b, h.now + h.slots20us) }).put (SE_BANK_SEL_BANK r) b) := by
  simp [selectBank, hl, ht, hs, Nat.mod_eq_of_lt hb]

/-- The chain's restart with the bank that waited is noted, and nothing waits. -/
def noteRestart (r b : Nat) (t : Int) (h : Hub) : Hub :=
  let x := h.recipe r
  h.setRecipe r { x with
    bankDue := none
    restarts := x.restarts ++ [(t, x.recipe.stages.findIdx fun s => decide (2 ≤ s.banks.length), b)] }

theorem bankSwitch_eq {h : Hub} {r b : Nat} {t : Int} (hd : (h.recipe r).bankDue = some (b, t)) (hn : h.boundaryFrom t ≤ h.now) :
    ∃ src d, h.bankSwitch r = ((h.noteRestart r b (h.boundaryFrom t)).put (SE_RECIPE_STAT_BANK r) b).raise src 5 d := by
  simp only [bankSwitch, hd, advanceTo_of_le hn]
  exact ⟨_, _, rfl⟩

/-! ### Thresholds -/

theorem writeDt_hi (h : Hub) (c : Nat) (v : Word) : h.writeDt .hi c v =
    if signed 24 (h.written (SE_DT_TH_LO c)).toNat < signed 24 v.toNat then some (h.stage (SE_DT_TH_HI c) (v &&& 0xFFFFFF)) else none := by
  simp [writeDt]

theorem writeDt_lo (h : Hub) (c : Nat) (v : Word) : h.writeDt .lo c v =
    if signed 24 v.toNat < signed 24 (h.written (SE_DT_TH_HI c)).toNat then some (h.stage (SE_DT_TH_LO c) (v &&& 0xFFFFFF)) else none := by
  simp [writeDt]

/-- With SRC 0 no recipe is asked for. -/
theorem writeDt_cfg (h : Hub) (c : Nat) {v : Word} (hs : bit v.toNat 13 = false) : h.writeDt .cfg c v =
    if bits v.toNat 23 16 ≠ 0 then some (h.stage (SE_DT_CFG c) (v &&& 0xFFE0FF)) else none := by
  have hsrc : (SE_DT_CFG_SRC c).get v ≠ 1 := by simpa [bit, Fld.get, SE_DT_CFG_SRC] using hs
  simp only [writeDt, hsrc, decide_false, Bool.false_and, Bool.false_eq_true, if_false, ite_not]
  rfl

end Hub

theorem bankSel_completes {s : State} (ha : s.hub.awake) {p : Path} (hp : s.hub.livePath p) {r b : Nat} (hl : r ∈ s.hub.loaded)
    (ht : s.hub.twoBanks r = true) (hb : b < 2) (hs : s.hub.fld (SE_BANK_SEL_BANK r) ≠ b) :
    Completes (.bankSel p r b) s fun k => k.fld (SE_BANK_SEL_BANK r) = b ∧
      (k.recipe r).bankDue = some (b, s.hub.now + s.hub.slots20us) ∧ Framed (among [SE_BANK_SEL r]) [.se] s.hub k := by
  refine completes_timeless rfl ha (fun _ hk => hk) ?_
  rw [Hub.writeCmd_live (h := s.hub.passTime) _ hp (Hub.selectBank_taken hl ht hb hs)]
  refine ⟨(Hub.fld_put_self _ _ _ (by simp [SE_BANK_SEL_BANK])).trans (Nat.mod_eq_of_lt hb), ?_, ?_⟩
  · exact congrArg RecipeState.bankDue (Hub.recipe_setRecipe_self ..)
  · exact ((framed_withSe s.hub.passTime _).trans (framed_put ..)).mono (by simp [SE_BANK_SEL_BANK]) (by simp)

theorem bankSwitch_completes {s : State} (ha : s.hub.awake) {r b : Nat} (hb : b < 2) {t : Int}
    (hd : (s.hub.recipe r).bankDue = some (b, t)) (hn : s.hub.boundaryFrom t ≤ s.hub.now) :
    Completes (.bankSwitch r) s fun k => (k.recipe r).bankDue = none ∧
      (k.recipe r).restarts = (s.hub.recipe r).restarts ++ [(s.hub.boundaryFrom t,
        (s.hub.recipe r).recipe.stages.findIdx (fun st => decide (2 ≤ st.banks.length)), b)] ∧
      k.fld (SE_RECIPE_STAT_BANK r) = b ∧ Framed (among [SE_RECIPE_STAT r]) (.se :: eventParts) s.hub k := by
  refine completes_timeless rfl ha (fun _ hk => hk) ?_
  obtain ⟨src, d, hk⟩ := Hub.bankSwitch_eq (h := s.hub.passTime) hd hn
  rw [hk, Hub.recipe_congr (Hub.raise_se ..), Hub.recipe_congr (Hub.put_se ..), Hub.noteRestart, Hub.recipe_setRecipe_self, Hub.fld_raise,
    Hub.fld_put_self _ _ _ (by simp [SE_RECIPE_STAT_BANK])]
  refine ⟨rfl, rfl, Nat.mod_eq_of_lt hb, ?_⟩
  exact (((framed_withSe s.hub.passTime _).trans (framed_put ..)).trans (framed_raise ..)).mono (by simp [SE_RECIPE_STAT_BANK]) (by simp)

/-- A write to a threshold register is held for the tick where it is taken, and leaves but its report where it is refused. -/
theorem dtCfg_completes {s : State} (ha : s.hub.awake) {p : Path} (hp : s.hub.livePath p) (which : DtReg) (c : Nat) (v w : Word)
    {ok : Prop} [Decidable ok]
    (hw : s.hub.passTime.writeDt which c v = if ok then some (s.hub.passTime.stage (Hub.dtAddr which c) w) else none) :
    Completes (.dtCfg p which c v) s fun k =>
      if ok then SMap.find? k.staged (Hub.dtAddr which c) = some w ∧ Framed (fun _ => False) [.staged] s.hub k
      else k.staged = s.hub.staged := by
  by_cases hok : ok
  · simp only [hok, if_true] at hw ⊢
    refine completes_timeless rfl ha (fun _ hk => hk) ?_
    rw [Hub.writeCmd_live (h := s.hub.passTime) _ hp hw]
    exact ⟨SMap.find?_insert_self .., Hub.framed_stage s.hub.passTime ..⟩
  · simp only [hok, if_false] at hw ⊢
    exact (refused_completes rfl ha hp hw).mono fun _ hk => hk.2 .staged (by simp)

/-- Settles O17: each command is one equation of what it does where it acts, and a write to a threshold register is held or reported. -/
theorem banksAndThresholds : Obligations.BanksAndThresholds := by
  intro s p ha
  refine ⟨fun r b hp hl ht hb hs => bankSel_completes ha hp hl ht hb hs, fun r b t hb hd hn => bankSwitch_completes ha hb hd hn,
    fun c v _ hp => ⟨?_, ?_, fun hs => ?_⟩⟩
  · exact dtCfg_completes ha hp .hi c v _ (Hub.writeDt_hi ..)
  · exact dtCfg_completes ha hp .lo c v _ (Hub.writeDt_lo ..)
  · exact (dtCfg_completes ha hp .cfg c v _ (Hub.writeDt_cfg _ _ hs)).mono fun k hk => by rwa [ite_not] at hk

end Sys2Proof.Machine
end
section
/-!
PROOFS. RADCs judged at the close of a DTS cycle (R375, R379-R382): what declaring a unit failed leaves alone.
-/

namespace Sys2Proof.Machine

namespace Hub

theorem framed_withFi (h : Hub) (x : Fibre) : Framed (fun _ => False) [.fi] h { h with fi := x } :=
  ⟨fun _ _ => rfl, fun p hp => by cases p <;> simp_all [Part.same]⟩

/-- The value of a key goes to a page of its own in the journal. -/
def writeEntry (k : Nat) (h : Hub) : Hub :=
  let seq := h.fld CAL_JOURNAL_STAT_SEQ
  let page := h.fld CAL_JOURNAL_STAT_PAGES
  let v := { h.calValue k with seq := seq }
  let h : Hub := { h with cal := { h.cal with
    values := SMap.set (fun _ => {}) h.cal.values k v
    stored := SMap.set (fun _ => {}) h.cal.stored k v
    wrote := SMap.insert h.cal.wrote k h.lt } }
  (((h.nvmWrite (journalAt + 256 * page) (entryBytes k v)).put CAL_JOURNAL_STAT_SEQ (seq + 1)).put CAL_JOURNAL_STAT_PAGES (page + 1)).raise
    213 0 [0, seq, page + 1]

theorem appendEntry_eq (h : Hub) (k : Nat) : h.appendEntry k =
    if h.boot.stalled then
      (if h.cal.journalDue.contains k then h else { h with cal := { h.cal with journalDue := h.cal.journalDue ++ [k] } })
    else if 12288 ≤ h.fld CAL_JOURNAL_STAT_PAGES then h
    else if (h.writeEntry k).fld CAL_JOURNAL_CFG_COMPACT_PCT * 12288 < 100 * (h.fld CAL_JOURNAL_STAT_PAGES + 1) then (h.writeEntry k).compact
    else h.writeEntry k := rfl

end Hub

/-- The registers, parts and events that declaring RADCs failed may touch: FI.STAT and those of the journal, RADC_FAIL, CAL_FAIL and
JOURNAL. -/
structure JudgesRadcs (h k : Hub) : Prop where
  framed : Framed (fun a => a = FI_STAT ∨ inBlocks [14] a) (.fi :: .cal :: .boot :: eventParts) h k
  counts : ∀ n, n ∉ [72, 73, 210, 213] → k.occurrences n = h.occurrences n

namespace JudgesRadcs

theorem refl (h : Hub) : JudgesRadcs h h := ⟨(framed_refl h).mono (fun _ hf => hf.elim) (by simp), fun _ _ => rfl⟩

theorem trans {h k l : Hub} (a : JudgesRadcs h k) (b : JudgesRadcs k l) : JudgesRadcs h l :=
  ⟨(a.framed.trans b.framed).mono (fun _ hx => hx.elim id id) (by simp), fun n hn => (b.counts n hn).trans (a.counts n hn)⟩

theorem ite {h k : Hub} {c : Prop} [Decidable c] (hk : JudgesRadcs h k) : JudgesRadcs h (if c then k else h) := by
  split_ifs
  · exact hk
  · exact refl h

/-- A step without events. -/
theorem of_framed {r : Nat → Prop} {ps : List Part} {h k : Hub} (hf : Framed r ps h k) (hr : ∀ a, r a → a = FI_STAT ∨ inBlocks [14] a)
    (hp : ps ⊆ [.fi, .cal, .boot]) : JudgesRadcs h k :=
  ⟨hf.mono hr fun _ hq => List.mem_append_left eventParts (hp hq), fun n _ =>
    Hub.occurrences_congr (hf.2 .evt fun he => absurd (hp he) (by decide)) n⟩

theorem put (h : Hub) {f : Fld} (v : Nat) (hf : f.addr = FI_STAT ∨ inBlocks [14] f.addr) : JudgesRadcs h (h.put f v) :=
  of_framed (framed_put h f v) (fun _ ha => ha ▸ hf) (by simp)

theorem raise (h : Hub) {src : Nat} (cause : Nat) (d : List Nat) (hs : src ∈ [72, 73, 210, 213]) : JudgesRadcs h (h.raise src cause d) :=
  ⟨(framed_raise h src cause d).mono (fun _ hf => hf.elim) (by simp), fun n hn =>
    (Hub.occurrences_raise ..).trans (if_neg (by rintro rfl; exact hn hs))⟩

theorem withCal (h : Hub) (x : Calib) : JudgesRadcs h { h with cal := x } :=
  of_framed (r := fun _ => False) (ps := [.cal]) ⟨fun _ _ => rfl, fun p hp => by cases p <;> simp_all [Part.same]⟩ (by simp) (by simp)

theorem withBoot (h : Hub) (x : Boot) : JudgesRadcs h { h with boot := x } :=
  of_framed (r := fun _ => False) (ps := [.boot]) ⟨fun _ _ => rfl, fun p hp => by cases p <;> simp_all [Part.same]⟩ (by simp) (by simp)

theorem withFi (h : Hub) (x : Fibre) : JudgesRadcs h { h with fi := x } := of_framed (Hub.framed_withFi h x) (by simp) (by simp)

theorem compact (h : Hub) : JudgesRadcs h h.compact := by
  refine ((((((((withBoot h _).trans (withBoot _ _)).trans (withBoot _ _)).trans (put _ _ (.inr ?_))).trans
    (put _ _ (.inr ?_))).trans (put _ _ (.inr ?_))).trans (put _ _ (.inr ?_))).trans (raise _ _ _ ?_))
  all_goals decide

theorem writeEntry (h : Hub) (k : Nat) : JudgesRadcs h (h.writeEntry k) := by
  refine ((((withCal h _).trans (withBoot _ _)).trans (put _ _ (.inr ?_))).trans (put _ _ (.inr ?_))).trans (raise _ _ _ ?_)
  all_goals decide

theorem appendEntry (h : Hub) (k : Nat) : JudgesRadcs h (h.appendEntry k) := by
  rw [Hub.appendEntry_eq]
  split_ifs
  · exact refl h
  · exact withCal h _
  · exact refl h
  · exact (writeEntry h k).trans (compact _)
  · exact writeEntry h k

theorem keepValue (h : Hub) (item index setting : Nat) (payload : List Word) (large fallback : Bool) :
    JudgesRadcs h (h.keepValue item index setting payload large fallback) := (withCal h _).trans (ite (appendEntry _ _))

theorem failRadc (h : Hub) {m : Nat} (hm : m < 2) (code : Nat) : JudgesRadcs h (h.failRadc m code) := by
  rw [Hub.failRadc]
  split_ifs
  · exact refl h
  · have hs : 72 + m ∈ [72, 73, 210, 213] := by interval_cases m <;> decide
    exact ((((withFi h _).trans (put _ _ (.inl rfl))).trans (raise _ _ _ hs)).trans (keepValue ..)).trans (raise _ _ _ (by decide))

theorem judgeRadc (h : Hub) : JudgesRadcs h h.judgeRadc := (ite (failRadc h (by decide) 6)).trans (ite (failRadc _ (by decide) 6))

theorem fld_eq {h k : Hub} (a : JudgesRadcs h k) {f : Fld} (hf : f.addr ≠ FI_STAT ∧ f.addr / 0x10000 ≠ 14) : k.fld f = h.fld f :=
  a.framed.fld_eq (by simpa using hf)

theorem loaded_eq {h k : Hub} (a : JudgesRadcs h k) : k.loaded = h.loaded := by
  have hse : k.se = h.se := a.framed.2 .se (by simp)
  rw [Hub.loaded, hse, Hub.loaded]

end JudgesRadcs

end Sys2Proof.Machine
end
section
/-!
PROOFS. The laser, the module's pins, the live settings of the fibre and the close of a DTS cycle (R170, R172, R196, R200, R201): what
settles O18.
-/

namespace Sys2Proof.Machine

namespace Hub

/-! ### The laser (R170) -/

theorem lasReason_lt (h : Hub) : h.lasReason < 2 ^ 4 := by
  rw [lasReason]
  split_ifs <;> decide

/-- No condition of R170 fails. -/
theorem lasReason_eq_zero {h : Hub} : h.lasReason = 0 ↔ h.bootStep = 6 ∧ h.pwr.draining = false ∧ h.fiaOn = true ∧ h.holdsActive = true ∧
    h.flag FI_LASER_LASER_EN = true ∧ h.flag FI_STAT_MOD_PRESENT = true ∧ h.flag FI_STAT_MOD_ALARM = false ∧ h.pwr.shutdown = false := by
  simp [lasReason, ite_eq_iff, and_assoc]

/-- Hubs that agree in what R170 reads agree in the first condition that fails. -/
theorem lasReason_congr {h k : Hub} (hp : k.pwr = h.pwr) (ht : k.twn = h.twn)
    (hf : ∀ f ∈ [DEV_STATE_STEP, PWR_DOM_STAT_FIA, TWN_STAT_ROLE, FI_LASER_LASER_EN, FI_STAT_MOD_PRESENT, FI_STAT_MOD_ALARM],
      k.fld f = h.fld f) : k.lasReason = h.lasReason := by
  simp only [List.forall_mem_cons] at hf
  obtain ⟨hstep, hfia, hrole, hen, hpresent, halarm, -⟩ := hf
  unfold lasReason bootStep fiaOn holdsActive flag
  rw [hp, ht, hstep, hfia, hrole, hen, hpresent, halarm]

/-- What LASER_DIS_N is to be driven with (R170). -/
def driveDue (h : Hub) : Nat :=
  if h.lasReason = 0 then 2 else if h.heldLow then min 1 h.fi.drive else if h.lasReason ≤ 2 then 0 else 1

theorem driveDue_eq_two {h : Hub} : h.driveDue = 2 ↔ h.lasReason = 0 := by
  rw [driveDue]
  split_ifs <;> simp_all
  omega

/-- FI.STAT shows whether the laser is on, and why not. -/
def showLaser (h : Hub) : Hub := (h.put FI_STAT_LASER_ON (ofBool (h.lasReason == 0))).put FI_STAT_LAS_REASON h.lasReason

theorem refreshLaser_eq (h : Hub) : h.refreshLaser = if h.driveDue = h.showLaser.fi.drive then h.showLaser else
    ({ h.showLaser with fi := { h.showLaser.fi with drive := h.driveDue } } : Hub).raise 67 0 [ofBool (h.driveDue != 2), h.lasReason] := rfl

theorem fld_withFi (h : Hub) (x : Fibre) (f : Fld) : ({ h with fi := x } : Hub).fld f = h.fld f := fld_congr rfl f

theorem occurrences_withFi (h : Hub) (x : Fibre) (n : Nat) : ({ h with fi := x } : Hub).occurrences n = h.occurrences n :=
  occurrences_congr rfl n

theorem framed_showLaser (h : Hub) : Framed (among [FI_STAT]) [] h h.showLaser :=
  ((framed_put ..).trans (framed_put ..)).mono (by simp [FI_STAT_LASER_ON, FI_STAT_LAS_REASON]) (by simp)

theorem framed_refreshLaser (h : Hub) : Framed (among [FI_STAT]) (.fi :: eventParts) h h.refreshLaser := by
  rw [refreshLaser_eq]
  split_ifs
  · exact (framed_showLaser h).mono (fun _ ha => ha) (by simp)
  · exact (((framed_showLaser h).trans (framed_withFi ..)).trans (framed_raise ..)).mono (by simp) (by simp)

theorem drive_refreshLaser (h : Hub) : h.refreshLaser.fi.drive = h.driveDue := by
  rw [refreshLaser_eq]
  split_ifs with hd
  · exact hd.symm
  · rw [raise_fi]

theorem fld_refreshLaser (h : Hub) (f : Fld) : h.refreshLaser.fld f = h.showLaser.fld f := by
  rw [refreshLaser_eq]
  split_ifs
  · rfl
  · exact (fld_raise ..).trans (fld_withFi ..)

theorem occurrences_refreshLaser (h : Hub) {n : Nat} (hn : n ≠ 67) : h.refreshLaser.occurrences n = h.occurrences n := by
  have hshow : h.showLaser.occurrences n = h.occurrences n := by rw [showLaser, occurrences_put, occurrences_put]
  rw [refreshLaser_eq]
  split_ifs
  · exact hshow
  · exact (occurrences_raise ..).trans ((if_neg hn).trans ((occurrences_withFi ..).trans hshow))

/-- The laser shows in LASER_ON and LAS_REASON alone. -/
theorem fld_refreshLaser_disjoint (h : Hub) {f : Fld} (hf : f.addr ≠ FI_STAT ∨ (20 ≤ f.lo ∧ f.lo + f.width ≤ 31)) :
    h.refreshLaser.fld f = h.fld f := by
  rw [fld_refreshLaser, showLaser, fld_put_disjoint, fld_put_disjoint]
  all_goals simp only [FI_STAT_LAS_REASON, FI_STAT_LASER_ON]; omega

theorem flag_refreshLaser_disjoint (h : Hub) {f : Fld} (hf : f.addr ≠ FI_STAT ∨ (20 ≤ f.lo ∧ f.lo + f.width ≤ 31)) :
    h.refreshLaser.flag f = h.flag f := by
  rw [flag, fld_refreshLaser_disjoint h hf, flag]

theorem lasReason_refreshLaser (h : Hub) : h.refreshLaser.lasReason = h.lasReason := by
  have hframe := h.framed_refreshLaser
  refine lasReason_congr (hframe.2 .pwr (by simp)) (hframe.2 .twn (by simp)) fun f hf => fld_refreshLaser_disjoint h ?_
  revert f
  decide

/-- After the laser has followed, FI.STAT shows the first condition that fails, and the drive is high where none does. -/
theorem refreshLaser_follows (h : Hub) : h.refreshLaser.fld FI_STAT_LAS_REASON = h.refreshLaser.lasReason ∧
    (h.refreshLaser.fi.drive = 2 ↔ h.refreshLaser.lasReason = 0) := by
  rw [lasReason_refreshLaser, drive_refreshLaser, fld_refreshLaser]
  exact ⟨(fld_put_self _ _ _ (by decide)).trans (Nat.mod_eq_of_lt h.lasReason_lt), driveDue_eq_two⟩

/-- LASER_EN takes the value written. -/
def enableLaser (on : Bool) (h : Hub) : Hub := h.put FI_LASER_LASER_EN (ofBool on)

theorem writeLaser_eq (h : Hub) (on : Bool) : h.writeLaser on = some (h.enableLaser on).refreshLaser := rfl

theorem flag_enableLaser (h : Hub) (on : Bool) : (h.enableLaser on).flag FI_LASER_LASER_EN = on := flag_put_self _ _ _ rfl (by decide)

theorem framed_enableLaser (h : Hub) (on : Bool) : Framed (among [FI_LASER]) [] h (h.enableLaser on) :=
  (framed_put ..).mono (by simp [FI_LASER_LASER_EN]) (by simp)

/-- LASER_EN is one of the conditions of R170, and bears on no other. -/
theorem lasReason_enableLaser_eq_zero {h : Hub} (hs : h.pwr.shutdown = false) (on : Bool) : (h.enableLaser on).lasReason = 0 ↔
    on = true ∧ h.bootStep = 6 ∧ h.pwr.draining = false ∧ h.fiaOn = true ∧ h.holdsActive = true ∧
      h.flag FI_STAT_MOD_PRESENT = true ∧ h.flag FI_STAT_MOD_ALARM = false := by
  have hpwr : (h.enableLaser on).pwr = h.pwr := put_pwr ..
  have hstep : (h.enableLaser on).bootStep = h.bootStep := fld_put_ne _ _ _ _ (by decide)
  have hfia : (h.enableLaser on).fiaOn = h.fiaOn := flag_put_ne _ _ _ _ (by decide)
  have hactive : (h.enableLaser on).holdsActive = h.holdsActive := by
    rw [holdsActive, enableLaser, put_twn, fld_put_ne _ _ _ _ (by decide), holdsActive]
  have hpresent : (h.enableLaser on).flag FI_STAT_MOD_PRESENT = h.flag FI_STAT_MOD_PRESENT := flag_put_ne _ _ _ _ (by decide)
  have halarm : (h.enableLaser on).flag FI_STAT_MOD_ALARM = h.flag FI_STAT_MOD_ALARM := flag_put_ne _ _ _ _ (by decide)
  rw [lasReason_eq_zero, hpwr, hstep, hfia, hactive, flag_enableLaser, hpresent, halarm]
  tauto

/-! ### The module's pins (R172) -/

/-- FI.STAT shows the module's pins. -/
def showPins (present ready alarm : Bool) (h : Hub) : Hub :=
  ((h.put FI_STAT_MOD_PRESENT (ofBool present)).put FI_STAT_MOD_READY (ofBool ready)).put FI_STAT_MOD_ALARM (ofBool alarm)

/-- A field of one bit is its flag. -/
theorem fld_eq_ofBool_flag (h : Hub) {f : Fld} (hw : f.width = 1) : h.fld f = ofBool (h.flag f) := by
  have hlt : h.fld f < 2 := by simpa [hw] using h.fld_lt f
  rw [flag]
  interval_cases h.fld f <;> rfl

theorem pinCode_inj : ∀ p r a p' r' a' : Bool, ofBool p * 4 + ofBool r * 2 + ofBool a = ofBool p' * 4 + ofBool r' * 2 + ofBool a' ↔
    p = p' ∧ r = r' ∧ a = a' := by decide

/-- MOD_STATUS is raised, and the laser follows, where a pin changes. -/
theorem modStatus_eq (h : Hub) (a b c : Bool) : ∃ d, h.modStatus a b c =
    if h.flag FI_STAT_MOD_PRESENT = a ∧ h.flag FI_STAT_MOD_READY = b ∧ h.flag FI_STAT_MOD_ALARM = c then h.showPins a b c
    else ((h.showPins a b c).raise 66 0 d).refreshLaser := by
  simp only [modStatus, h.fld_eq_ofBool_flag (f := FI_STAT_MOD_PRESENT) rfl, h.fld_eq_ofBool_flag (f := FI_STAT_MOD_READY) rfl,
    h.fld_eq_ofBool_flag (f := FI_STAT_MOD_ALARM) rfl, pinCode_inj]
  exact ⟨_, rfl⟩

theorem showPins_shows (h : Hub) (a b c : Bool) : (h.showPins a b c).flag FI_STAT_MOD_PRESENT = a ∧
    (h.showPins a b c).flag FI_STAT_MOD_READY = b ∧ (h.showPins a b c).flag FI_STAT_MOD_ALARM = c := by
  refine ⟨?_, ?_, flag_put_self _ _ _ rfl (by decide)⟩
  · rw [showPins, flag_put_disjoint _ _ _ _ (by decide) (by decide), flag_put_disjoint _ _ _ _ (by decide) (by decide)]
    exact flag_put_self _ _ _ rfl (by decide)
  · rw [showPins, flag_put_disjoint _ _ _ _ (by decide) (by decide)]
    exact flag_put_self _ _ _ rfl (by decide)

theorem framed_showPins (h : Hub) (a b c : Bool) : Framed (among [FI_STAT]) [] h (h.showPins a b c) :=
  (((framed_put ..).trans (framed_put ..)).trans (framed_put ..)).mono
    (by simp [FI_STAT_MOD_PRESENT, FI_STAT_MOD_READY, FI_STAT_MOD_ALARM]) (by simp)

theorem occurrences_showPins (h : Hub) (a b c : Bool) (n : Nat) : (h.showPins a b c).occurrences n = h.occurrences n := by
  rw [showPins, occurrences_put, occurrences_put, occurrences_put]

/-! ### Live settings (R200) -/

theorem writeGauge_gauge (h : Hub) (v : Word) : h.writeGauge false v =
    if 2 ≤ bits v.toNat 6 0 ∧ bits v.toNat 6 0 ≤ 64 ∧ bits v.toNat 6 0 < h.ngates then
      some { h with fi := { h.fi with gaugeDue := some (h.now + h.slots20us, bits v.toNat 6 0) } }
    else none := by
  simp only [writeGauge, Bool.false_eq_true, if_false]
  split_ifs <;> simp_all <;> omega

theorem writeGauge_track (h : Hub) (v : Word) : h.writeGauge true v =
    if 2 ≤ bits v.toNat 3 0 ∧ bits v.toNat 3 0 ≤ 12 then
      some { h with fi := { h.fi with trackDue := some (h.now + h.slots20us, v &&& 0xFFFF000F) } }
    else none := by
  simp only [writeGauge, if_true]
  split_ifs <;> simp_all <;> omega

/-! ### DTS cycles (R196) -/

/-- The read bank and the memory behind it at the close of a cycle; the next DTS_TAP is the one in force. -/
def fillBank (bins : SMap DtsBin) (poison : List Nat) (h : Hub) : Hub :=
  { h with
    mem := { h.mem with poison := poison }
    fi := { h.fi with bins := bins, dtsTap := h.fld FI_RANGE_ZERO_DTS_TAP } }

theorem fld_fillBank (h : Hub) (bins : SMap DtsBin) (poison : List Nat) (f : Fld) : (h.fillBank bins poison).fld f = h.fld f :=
  fld_congr rfl f

theorem occurrences_fillBank (h : Hub) (bins : SMap DtsBin) (poison : List Nat) (n : Nat) :
    (h.fillBank bins poison).occurrences n = h.occurrences n := occurrences_congr rfl n

/-- FI.DTS_STAT counts the cycle, and FI.CNT one with clipped bins. -/
def countCycle (clipped : Nat) (h : Hub) : Hub :=
  let h := (h.put FI_DTS_STAT_LAUNCHES 0).bumpMod FI_DTS_STAT_CYCLE 1
  if clipped = 0 then h else h.bump FI_CNT_DTS_CLIP 1

/-- SE.DTS_REF_T takes the value that is held for it (R157). -/
def takeRefTemp (h : Hub) : Hub :=
  match SMap.find? h.staged SE_DTS_REF_T with
  | some v => { h.setReg SE_DTS_REF_T v with staged := SMap.erase h.staged SE_DTS_REF_T }
  | none => h

theorem framed_withStaged (h : Hub) (m : SMap Word) : Framed (fun _ => False) [.staged] h { h with staged := m } :=
  ⟨fun _ _ => rfl, fun p hp => by cases p <;> simp_all [Part.same]⟩

theorem framed_takeRefTemp (h : Hub) : Framed (among [SE_DTS_REF_T]) [.staged] h h.takeRefTemp := by
  rw [takeRefTemp]
  split
  · exact ((framed_setReg ..).trans (framed_withStaged ..)).mono (by simp) (by simp)
  · exact (framed_refl h).mono (fun _ hf => hf.elim) (by simp)

/-- A full cycle closes, and the recipes take it. -/
theorem closeCycle_eq {h : Hub} (hn : h.fld FI_DTS_CFG_NACC ≠ 0) (hl : h.fld FI_DTS_CFG_NACC ≤ h.fld FI_DTS_STAT_LAUNCHES) :
    ∃ bins poison clipped d run, h.closeCycle =
      let k := (((h.judgeRadc.fillBank bins poison).countCycle clipped).raise 77 0 d).takeRefTemp
      k.loaded.foldl run k := by
  have hopen : (decide (h.fld FI_DTS_CFG_NACC = 0) || decide (h.fld FI_DTS_STAT_LAUNCHES < h.fld FI_DTS_CFG_NACC)) = false := by
    simpa using ⟨hn, hl⟩
  rw [closeCycle, hopen]
  exact ⟨_, _, _, _, _, rfl⟩

theorem countCycle_shows (h : Hub) (clipped : Nat) : (h.countCycle clipped).fld FI_DTS_STAT_LAUNCHES = 0 ∧
    (h.countCycle clipped).fld FI_DTS_STAT_CYCLE = (h.fld FI_DTS_STAT_CYCLE + 1) % 2 ^ 16 := by
  have hclip (f : Fld) (hf : f.addr = FI_DTS_STAT) : (h.countCycle clipped).fld f =
      ((h.put FI_DTS_STAT_LAUNCHES 0).bumpMod FI_DTS_STAT_CYCLE 1).fld f := by
    rw [countCycle]
    split_ifs
    · rfl
    · exact fld_bump_ne _ _ _ _ (by rw [hf]; decide)
  rw [hclip _ rfl, hclip _ rfl, bumpMod, fld_put_disjoint _ _ _ _ (by decide) (by decide), fld_put_self _ _ _ (by decide),
    fld_put_self _ _ _ (by decide), fld_put_disjoint _ _ _ _ (by decide) (by decide)]
  exact ⟨rfl, rfl⟩

theorem countCycle_fi (h : Hub) (clipped : Nat) : (h.countCycle clipped).fi = h.fi := by
  rw [countCycle]
  split_ifs
  · rw [bumpMod_fi, put_fi]
  · rw [bump_fi, bumpMod_fi, put_fi]

theorem countCycle_se (h : Hub) (clipped : Nat) : (h.countCycle clipped).se = h.se := by
  rw [countCycle]
  split_ifs
  · rw [bumpMod_se, put_se]
  · rw [bump_se, bumpMod_se, put_se]

theorem occurrences_countCycle (h : Hub) (clipped n : Nat) : (h.countCycle clipped).occurrences n = h.occurrences n := by
  rw [countCycle]
  split_ifs
  · rw [occurrences_bumpMod, occurrences_put]
  · rw [occurrences_bump, occurrences_bumpMod, occurrences_put]

/-- With no recipe loaded the close of a full cycle is its bank, its counts and its event. -/
theorem closeCycle_of_unloaded {h : Hub} (hn : h.fld FI_DTS_CFG_NACC ≠ 0) (hl : h.fld FI_DTS_CFG_NACC ≤ h.fld FI_DTS_STAT_LAUNCHES)
    (hr : h.loaded = []) : ∃ bins poison clipped d, h.closeCycle =
      (((h.judgeRadc.fillBank bins poison).countCycle clipped).raise 77 0 d).takeRefTemp := by
  obtain ⟨bins, poison, clipped, d, run, hk⟩ := closeCycle_eq hn hl
  refine ⟨bins, poison, clipped, d, ?_⟩
  have hse : (((h.judgeRadc.fillBank bins poison).countCycle clipped).raise 77 0 d).takeRefTemp.se = h.judgeRadc.se :=
    ((framed_takeRefTemp _).2 .se (by simp)).trans ((raise_se ..).trans (countCycle_se ..))
  have hnone : (((h.judgeRadc.fillBank bins poison).countCycle clipped).raise 77 0 d).takeRefTemp.loaded = [] := by
    rw [loaded, hse]
    exact (JudgesRadcs.judgeRadc h).loaded_eq.trans hr
  rw [hk]
  dsimp only
  rw [hnone, List.foldl_nil]

/-! ### Weak gates (R201) -/

theorem weakSummary_eq {h : Hub} (hn : h.fld (FI_LAUNCH_SEQ_SEQ 0) ≠ 0) (hm : h.fld (FI_LAUNCH_SEQ_SEQ 0) % 1024 = 0) :
    ∃ d, h.weakSummary = h.raise 76 0 d := ⟨_, by rw [weakSummary, if_pos (by simp [hn, hm])]⟩

end Hub

theorem modStatus_completes {s : State} (ha : s.hub.awake) (a b c : Bool) : Completes (.modStatus a b c) s fun k =>
    k.flag FI_STAT_MOD_PRESENT = a ∧ k.flag FI_STAT_MOD_READY = b ∧ k.flag FI_STAT_MOD_ALARM = c ∧
    (s.hub.flag FI_STAT_MOD_PRESENT ≠ a ∨ s.hub.flag FI_STAT_MOD_READY ≠ b ∨ s.hub.flag FI_STAT_MOD_ALARM ≠ c →
      Hub.oneMore 66 s.hub k ∧ k.fld FI_STAT_LAS_REASON = k.lasReason ∧ (k.fi.drive = 2 ↔ k.lasReason = 0)) ∧
    Framed (among [FI_STAT]) (.fi :: eventParts) s.hub k := by
  refine completes_timeless rfl ha (fun _ hk => hk) ?_
  obtain ⟨d, hk⟩ := s.hub.passTime.modStatus_eq a b c
  obtain ⟨hp, hr, hc⟩ := s.hub.passTime.showPins_shows a b c
  have hshow := Hub.framed_showPins s.hub.passTime a b c
  rw [hk]
  split_ifs with hsame
  · obtain ⟨rfl, rfl, rfl⟩ := hsame
    exact ⟨hp, hr, hc, fun hne => by simp at hne, hshow.mono (fun _ hx => hx) (by simp)⟩
  · have hflag {f : Fld} (hf : f.addr ≠ FI_STAT ∨ (20 ≤ f.lo ∧ f.lo + f.width ≤ 31)) :
        ((s.hub.passTime.showPins a b c).raise 66 0 d).refreshLaser.flag f = (s.hub.passTime.showPins a b c).flag f :=
      (Hub.flag_refreshLaser_disjoint _ hf).trans (Hub.flag_raise ..)
    refine ⟨(hflag (by decide)).trans hp, (hflag (by decide)).trans hr, (hflag (by decide)).trans hc,
      fun _ => ⟨?_, Hub.refreshLaser_follows _⟩, ?_⟩
    · rw [Hub.oneMore, Hub.occurrences_refreshLaser _ (by decide), Hub.occurrences_raise, if_pos rfl, Hub.occurrences_showPins]
      rfl
    · exact ((hshow.trans (framed_raise ..)).trans (Hub.framed_refreshLaser _)).mono (by simp) (by simp)

theorem laserEn_completes {s : State} (ha : s.hub.awake) {p : Path} (hp : s.hub.livePath p) (on : Bool) :
    Completes (.laserEn p on) s fun k => k.flag FI_LASER_LASER_EN = on ∧ k.fld FI_STAT_LAS_REASON = k.lasReason ∧
      (k.fi.drive = 2 ↔ on = true ∧ s.hub.bootStep = 6 ∧ s.hub.pwr.draining = false ∧ s.hub.fiaOn = true ∧
        s.hub.holdsActive = true ∧ s.hub.flag FI_STAT_MOD_PRESENT = true ∧ s.hub.flag FI_STAT_MOD_ALARM = false) ∧
      Framed (among [FI_LASER, FI_STAT]) (.fi :: eventParts) s.hub k := by
  have ⟨_, _, _, hshut⟩ := ha
  refine completes_timeless rfl ha (fun _ hk => hk) ?_
  rw [Hub.writeCmd_live (h := s.hub.passTime) _ hp (Hub.writeLaser_eq ..)]
  obtain ⟨hshows, hdrive⟩ := (s.hub.passTime.enableLaser on).refreshLaser_follows
  refine ⟨(Hub.flag_refreshLaser_disjoint _ (by decide)).trans (Hub.flag_enableLaser ..), hshows, ?_, ?_⟩
  · rw [hdrive, Hub.lasReason_refreshLaser]
    exact Hub.lasReason_enableLaser_eq_zero (h := s.hub.passTime) hshut on
  · exact ((Hub.framed_enableLaser s.hub.passTime on).trans (Hub.framed_refreshLaser _)).mono (by simp) (by simp)

/-- A write to FI.GAUGE or FI.TRACK waits where it is taken, and leaves but its report where it is refused. -/
theorem gaugeWrite_completes {s : State} (ha : s.hub.awake) {p : Path} (hp : s.hub.livePath p) (track : Bool) (v : Word) {x : Fibre}
    {ok : Prop} [Decidable ok]
    (hw : s.hub.passTime.writeGauge track v = if ok then some { s.hub.passTime with fi := x } else none) :
    Completes (.gaugeWrite p track v) s fun k => k.fi = (if ok then x else s.hub.fi) ∧ ∀ a, a / 0x10000 ≠ 9 → k.reg a = s.hub.reg a := by
  by_cases hok : ok
  · simp only [hok, if_true] at hw ⊢
    refine completes_timeless rfl ha (fun _ hk => hk) ?_
    rw [Hub.writeCmd_live (h := s.hub.passTime) _ hp hw]
    exact ⟨rfl, fun _ _ => rfl⟩
  · simp only [hok, if_false] at hw ⊢
    exact (refused_completes rfl ha hp hw).mono fun k hk => ⟨hk.2 .fi (by simp), fun a hx => hk.1 a (by simpa using hx)⟩

theorem dtsCycle_completes {s : State} (ha : s.hub.awake) (hn : s.hub.fld FI_DTS_CFG_NACC ≠ 0)
    (hl : s.hub.fld FI_DTS_CFG_NACC ≤ s.hub.fld FI_DTS_STAT_LAUNCHES) (hr : s.hub.loaded = []) :
    Completes .dtsCycle s fun k => k.fld FI_DTS_STAT_LAUNCHES = 0 ∧
      k.fld FI_DTS_STAT_CYCLE = (s.hub.fld FI_DTS_STAT_CYCLE + 1) % 65536 ∧
      k.fi.dtsTap = s.hub.fld FI_RANGE_ZERO_DTS_TAP ∧ Hub.oneMore 77 s.hub k := by
  refine completes_timeless rfl ha (fun _ hk => hk) ?_
  obtain ⟨bins, poison, clipped, d, hk⟩ := Hub.closeCycle_of_unloaded (h := s.hub.passTime) hn hl hr
  have hj := JudgesRadcs.judgeRadc s.hub.passTime
  have href := Hub.framed_takeRefTemp (((s.hub.passTime.judgeRadc.fillBank bins poison).countCycle clipped).raise 77 0 d)
  obtain ⟨hlaunches, hcycle⟩ := (s.hub.passTime.judgeRadc.fillBank bins poison).countCycle_shows clipped
  rw [Hub.fld_fillBank, hj.fld_eq (by decide), Hub.fld_passTime] at hcycle
  rw [hk, href.fld_eq (by decide), href.fld_eq (by decide), Hub.fld_raise, Hub.fld_raise]
  refine ⟨hlaunches, hcycle, ?_, ?_⟩
  · have hfi := href.2 .fi (by simp)
    rw [show _ = _ from hfi, Hub.raise_fi, Hub.countCycle_fi]
    exact hj.fld_eq (by decide)
  · rw [Hub.oneMore, Hub.occurrences_congr (href.2 .evt (by simp)), Hub.occurrences_raise, if_pos rfl, Hub.occurrences_countCycle, Hub.occurrences_fillBank,
      hj.counts 77 (by decide), Hub.occurrences_passTime]

theorem weakSummary_completes {s : State} (ha : s.hub.awake) (hn : s.hub.fld (FI_LAUNCH_SEQ_SEQ 0) ≠ 0)
    (hm : s.hub.fld (FI_LAUNCH_SEQ_SEQ 0) % 1024 = 0) :
    Completes .weakSummary s fun k => Hub.oneMore 76 s.hub k ∧ Framed (fun _ => False) eventParts s.hub k := by
  refine completes_timeless rfl ha (fun _ hk => hk) ?_
  obtain ⟨d, hk⟩ := Hub.weakSummary_eq (h := s.hub.passTime) hn hm
  rw [hk, Hub.oneMore, Hub.occurrences_raise, if_pos rfl]
  exact ⟨rfl, framed_raise s.hub.passTime 76 0 d⟩

/-- Settles O18: the laser follows the first condition of R170 that fails, a live setting waits or is reported, and a full cycle closes
around what judging the RADCs leaves alone. -/
theorem laserAndModule : Obligations.LaserAndModule := by
  refine ⟨fun s p ha => ⟨modStatus_completes ha, fun on hp => laserEn_completes ha hp on, fun v hp => ?_, fun v hp => ?_⟩,
    fun s ha => ⟨dtsCycle_completes ha, weakSummary_completes ha⟩⟩
  · refine (gaugeWrite_completes ha hp false v (ok := 2 ≤ bits v.toNat 6 0 ∧ bits v.toNat 6 0 ≤ 64 ∧ bits v.toNat 6 0 < s.hub.ngates)
      (Hub.writeGauge_gauge ..)).mono fun k ⟨hfi, hreg⟩ => ?_
    rw [hfi]
    exact ⟨apply_ite Fibre.gaugeDue .., (apply_ite Fibre.trackDue ..).trans (ite_self _), hreg _ (by decide)⟩
  · refine (gaugeWrite_completes ha hp true v (Hub.writeGauge_track ..)).mono fun k ⟨hfi, hreg⟩ => ?_
    rw [hfi]
    exact ⟨apply_ite Fibre.trackDue .., (apply_ite Fibre.gaugeDue ..).trans (ite_self _), hreg _ (by decide)⟩

end Sys2Proof.Machine
end
section
/-!
PROOFS. Bits of numbers, when a pattern matches and when a trigger fires (R207, R208, R210, R211): what settles O19.
-/

namespace Sys2Proof.Machine

/-! ### Bits -/

theorem bit_eq_testBit (w n : Nat) : bit w n = w.testBit n := by
  rw [bit, Nat.testBit_eq_decide_div_mod_eq, beq_eq_decide]

theorem bit_mod_two_pow (w : Nat) {n k : Nat} (hk : k < n) : bit (w % 2 ^ n) k = bit w k := by
  rw [bit_eq_testBit, bit_eq_testBit, Nat.testBit_mod_two_pow, decide_eq_true hk, Bool.true_and]

theorem lt_of_testBit {w n k : Nat} (hw : w < 2 ^ n) (hk : w.testBit k = true) : k < n :=
  (Nat.pow_lt_pow_iff_right one_lt_two).mp ((Nat.ge_two_pow_of_testBit hk).trans_lt hw)

/-- A set bit is taken away without a borrow. -/
theorem testBit_sub_two_pow {w n : Nat} (hw : w.testBit n = true) (k : Nat) :
    (w - 2 ^ n).testBit k = if k = n then false else w.testBit k := by
  have hodd : w / 2 ^ n % 2 = 1 := by simpa [Nat.testBit_eq_decide_div_mod_eq] using hw
  have hr : w % 2 ^ n < 2 ^ n := Nat.mod_lt _ (Nat.two_pow_pos n)
  have hsplit : w = 2 ^ n * (w / 2 ^ n) + w % 2 ^ n := (Nat.div_add_mod ..).symm
  generalize w / 2 ^ n = q at *
  generalize w % 2 ^ n = r at *
  have hsub : w - 2 ^ n = 2 ^ n * (q - 1) + r := by
    rw [hsplit, Nat.mul_sub, mul_one, Nat.sub_add_comm (Nat.le_mul_of_pos_right _ (by omega))]
  rw [hsub, hsplit, Nat.testBit_two_pow_mul_add _ hr, Nat.testBit_two_pow_mul_add _ hr]
  rcases lt_trichotomy k n with hk | rfl | hk
  · rw [if_pos hk, if_pos hk, if_neg hk.ne]
  · rw [if_neg (lt_irrefl k), if_pos rfl, Nat.sub_self, Nat.testBit_zero, decide_eq_false (by omega)]
  · obtain ⟨j, hj⟩ : ∃ j, k - n = j + 1 := ⟨k - n - 1, by omega⟩
    rw [if_neg hk.not_gt, if_neg hk.ne', if_neg hk.not_gt, hj, Nat.testBit_succ, Nat.testBit_succ, show (q - 1) / 2 = q / 2 by omega]

theorem bit_putBit (w n : Nat) (b : Bool) (k : Nat) : bit (putBit w n b) k = if k = n then b else bit w k := by
  simp only [bit_eq_testBit]
  cases b
  · cases hw : w.testBit n
    · simp only [putBit, bit_eq_testBit, hw, Bool.false_eq_true, if_false]
      split_ifs with hk
      · rw [hk, hw]
      · rfl
    · simp only [putBit, bit_eq_testBit, hw, Bool.false_eq_true, if_false, if_true]
      exact testBit_sub_two_pow hw k
  · simp only [putBit, if_true, Nat.testBit_or, Nat.testBit_two_pow]
    split_ifs with hk
    · simp [hk]
    · simp [Ne.symm hk]

namespace Hub

/-! ### Patterns (R207) -/

/-- A mask that is not all zero, and no bit it cares for that differs. -/
theorem patternMatches_iff (v : BitVec 608) {mask value : Nat} (hm : mask < 2 ^ 608) : patternMatches v (mask, value) = true ↔
    mask ≠ 0 ∧ ∀ b < 608, bit mask b = true → bit value b = v.getLsbD b := by
  simp only [patternMatches, Bool.and_eq_true, bne_iff_ne, beq_iff_eq, bit_eq_testBit]
  refine and_congr_right fun _ => ⟨fun h b _ hb => ?_, fun h => Nat.eq_of_testBit_eq fun b => ?_⟩
  · have hcare : ((v.toNat ^^^ value) &&& mask).testBit b = false := by rw [h, Nat.zero_testBit]
    rw [Nat.testBit_and, Nat.testBit_xor, hb, Bool.and_true, bne_eq_false_iff_eq] at hcare
    exact hcare.symm
  · rw [Nat.testBit_and, Nat.testBit_xor, Nat.zero_testBit]
    cases hb : mask.testBit b
    · exact Bool.and_false _
    · rw [h b (lt_of_testBit hm hb) hb]
      simp [BitVec.getLsbD]

theorem patternMatches_unmasked (v : BitVec 608) {p : Nat × Nat} (hp : p.1 = 0) : patternMatches v p = false := by
  rw [patternMatches, hp, bne_self_eq_false, Bool.false_and]

/-! ### Fires (R208, R210, R211) -/

/-- A match of trigger `t` in window `w` that counts: the trigger did not match in the frame before, or counts as new (R208). -/
def freshMatch (h : Hub) (w : Window) (v : BitVec 608) (t : Nat) : Bool :=
  patternMatches v (windowPattern w t) && (w.renewed.getLsbD t || !h.trg.prevMatch.getLsbD t)

/-- Auto mode has counted its turns for trigger `t` (R211). -/
def autoDue (h : Hub) (w : Window) (t : Nat) : Bool :=
  (w.cfg.getD t (0, 0)).2 != 0 && decide ((w.cfg.getD t (0, 0)).2 ≤ h.boundaries w t)

/-- An armed trigger outside holdoff fires by a match that counts, or else where auto mode forces it; no other fires. -/
theorem firesIn_eq (h : Hub) (w : Window) (v : BitVec 608) (t : Nat) : h.firesIn w v t =
    if w.armed.getLsbD t = true ∧ SMap.get (fun _ => 0) h.trg.holdoff t = 0 then
      if h.freshMatch w v t then some (h.timeFire w v t) else if h.autoDue w t then some { trg := t, forced := true } else none
    else none := by
  by_cases ha : w.armed.getLsbD t = true
  · by_cases hh : SMap.get (fun _ => 0) h.trg.holdoff t = 0
    · simp only [firesIn, ha, hh, bne_self_eq_false, Bool.not_true, Bool.false_eq_true, and_self, if_true, if_false]
      rfl
    · simp only [firesIn, ha, hh, bne_iff_ne, ne_eq, not_false_eq_true, Bool.not_true, Bool.false_eq_true, and_false, if_true, if_false]
  · simp [firesIn, ha]

theorem isSome_firesIn (h : Hub) (w : Window) (v : BitVec 608) (t : Nat) : (h.firesIn w v t).isSome = true ↔
    w.armed.getLsbD t = true ∧ SMap.get (fun _ => 0) h.trg.holdoff t = 0 ∧ (h.freshMatch w v t = true ∨ h.autoDue w t = true) := by
  rw [firesIn_eq, ← and_assoc]
  split_ifs with ha hf hd
  · simp [ha, hf]
  · simp [ha, hd]
  · simp [hf, hd]
  · simp [ha]

theorem timeFire_trg (h : Hub) (w : Window) (v : BitVec 608) (t : Nat) : (h.timeFire w v t).trg = t := by
  unfold timeFire
  generalize List.filter _ (List.range 608) = cared
  dsimp only
  split
  · rfl
  · split
    · rfl
    · split_ifs <;> rfl

theorem trg_of_firesIn {h : Hub} {w : Window} {v : BitVec 608} {t : Nat} {f : Fire} (hf : h.firesIn w v t = some f) : f.trg = t := by
  rw [firesIn_eq] at hf
  split_ifs at hf
  · exact Option.some.inj hf ▸ timeFire_trg ..
  · exact Option.some.inj hf ▸ rfl

/-- Without a match only auto mode fires. -/
theorem forced_of_unmasked {h : Hub} {w : Window} {v : BitVec 608} {t : Nat} {f : Fire} (hm : (windowPattern w t).1 = 0)
    (hf : h.firesIn w v t = some f) : f.forced = true := by
  have hfresh : h.freshMatch w v t = false := by rw [freshMatch, patternMatches_unmasked v hm, Bool.false_and]
  simp only [firesIn_eq, hfresh, Bool.false_eq_true, if_false] at hf
  split_ifs at hf
  rw [← Option.some.inj hf]

end Hub

/-- Settles O19: bit by bit, and by the two ways in which a trigger fires. -/
theorem patternMatch : Obligations.PatternMatch :=
  ⟨fun v _ _ hm => Hub.patternMatches_iff v hm, fun _ _ _ _ _ hm hf => Hub.forced_of_unmasked hm hf⟩

end Sys2Proof.Machine
end
section
/-!
PROOFS. Trigger inputs, writes of TRG.ARM and pattern commits (R205, R209, R236, R481): what settles O21.
-/

namespace Sys2Proof.Machine

/-- The count of slots is that of the machine's time and of SLOTS_PER_TURN. -/
theorem Framed.now_eq {r : Nat → Prop} {ps : List Part} {h k : Hub} (hf : Framed r ps h k) (hr : ¬ r MT_TURN_CFG) (hp : .mt ∉ ps) :
    k.now = h.now := by
  have hmt : k.mt = h.mt := hf.2 .mt hp
  rw [Hub.now, Hub.now, Hub.spt, Hub.spt, hmt, hf.fld_eq (f := MT_TURN_CFG_SPT_M1) hr]

namespace Hub

/-- A state of the triggers in place of the one that was. -/
theorem framed_withTrg (h : Hub) (x : Trig) : Framed (fun _ => False) [.trg] h { h with trg := x } :=
  ⟨fun _ _ => rfl, fun p hp => by cases p <;> simp_all [Part.same]⟩

theorem fld_withTrg (h : Hub) (x : Trig) (f : Fld) : ({ h with trg := x } : Hub).fld f = h.fld f := fld_congr rfl f

theorem flag_withTrg (h : Hub) (x : Trig) (f : Fld) : ({ h with trg := x } : Hub).flag f = h.flag f := flag_congr rfl f

/-! ### Trigger inputs (R205) -/

/-- TRG.TRIG_IN shows the sample of ball `i`. -/
def showTrigIn (i : Nat) (high : Bool) (h : Hub) : Hub := h.put TRG_TRIG_IN_LEVEL (putBit (h.fld TRG_TRIG_IN_LEVEL) i high)

/-- What a sample of ball `i` marks in a window: a high one its bit, and the rise where the ball was low; a low one in the slot of the
tick takes both away. -/
def sampledWindow (i : Nat) (high was ticked : Bool) (w : Window) : Window :=
  let b := BitVec.ofNat 16 (2 ^ i)
  if high then { w with trigIn := w.trigIn ||| b, trigRose := if was then w.trigRose else w.trigRose ||| b }
  else if ticked then { w with trigIn := w.trigIn &&& ~~~b, trigRose := w.trigRose &&& ~~~b }
  else w

theorem setWindow_self {h : Hub} {w : Window} (hw : h.trg.window = some w) : h.setWindow w = h := by
  rw [setWindow, ← hw]

theorem trigIn_closed {h : Hub} (hw : h.trg.window = none) (i : Nat) (high : Bool) : h.trigIn i high = h.showTrigIn i high := by
  simp only [trigIn, put_trg, hw, showTrigIn]

theorem trigIn_open {h : Hub} {w : Window} (hw : h.trg.window = some w) (i : Nat) (high : Bool) : h.trigIn i high =
    (h.showTrigIn i high).setWindow (sampledWindow i high (bit (h.fld TRG_TRIG_IN_LEVEL) i) (decide (w.tick = h.now)) w) := by
  have hnow : (h.showTrigIn i high).now = h.now := (framed_put ..).now_eq (by decide) (by simp)
  have hself : (h.showTrigIn i high).setWindow w = h.showTrigIn i high := setWindow_self hw
  rw [← hnow]
  simp only [trigIn, put_trg, hw]
  cases high
  · by_cases ht : w.tick = (h.showTrigIn i false).now
    · rw [decide_eq_true ht]
      exact (if_pos rfl).trans (if_pos ht)
    · rw [decide_eq_false ht]
      exact (if_pos rfl).trans ((if_neg ht).trans hself.symm)
  · rfl

theorem level_showTrigIn (h : Hub) (i : Nat) (high : Bool) {j : Nat} (hj : j < 16) :
    bit ((h.showTrigIn i high).fld TRG_TRIG_IN_LEVEL) j = if j = i then high else bit (h.fld TRG_TRIG_IN_LEVEL) j := by
  rw [showTrigIn, fld_put_self _ _ _ (by decide), ← bit_putBit]
  exact bit_mod_two_pow _ hj

theorem framed_showTrigIn (h : Hub) (i : Nat) (high : Bool) : Framed (among [TRG_TRIG_IN]) [] h (h.showTrigIn i high) :=
  (framed_put ..).mono (by simp [TRG_TRIG_IN_LEVEL]) (by simp)

theorem level_trigIn (h : Hub) (i : Nat) (high : Bool) {j : Nat} (hj : j < 16) :
    bit ((h.trigIn i high).fld TRG_TRIG_IN_LEVEL) j = if j = i then high else bit (h.fld TRG_TRIG_IN_LEVEL) j := by
  rw [← level_showTrigIn h i high hj]
  cases hw : h.trg.window with
  | none => rw [trigIn_closed hw]
  | some w => rw [trigIn_open hw, (framed_setWindow ..).fld_eq id]

theorem framed_trigIn (h : Hub) (i : Nat) (high : Bool) : Framed (among [TRG_TRIG_IN]) [.trg] h (h.trigIn i high) := by
  have hshown := framed_showTrigIn h i high
  cases hw : h.trg.window with
  | none => rw [trigIn_closed hw]; exact hshown.mono (by simp) (by simp)
  | some w => rw [trigIn_open hw]; exact (hshown.trans (framed_setWindow ..)).mono (by simp) (by simp)

/-! ### Pattern commits (R236) -/

/-- TRG.PAT_STATUS and TRG.PAT_COMMIT name the trigger of a commit. -/
def nameCommit (t : Nat) (h : Hub) : Hub := (h.put TRG_PAT_STATUS_TRG t).put TRG_PAT_COMMIT_TRG t

theorem commitPattern_busy {h : Hub} (hd : h.trg.patDue.isSome = true) (t : Nat) :
    h.commitPattern t = (h.nameCommit t).put TRG_PAT_STATUS_RESULT 1 := by
  simp only [commitPattern, put_trg, hd, if_true, nameCommit]

theorem stagedVector_nameCommit (h : Hub) (f : Nat → Nat → Nat) (t : Nat) (hf : ∀ w, 0x61000 ≤ f t w) :
    (h.nameCommit t).stagedVector f t = h.stagedVector f t := by
  refine List.foldl_ext _ _ _ fun n w _ => ?_
  have hw := hf w
  rw [nameCommit, reg_put_ne _ _ _ (by simp only [TRG_PAT_COMMIT_TRG, TRG_PAT_COMMIT]; omega),
    reg_put_ne _ _ _ (by simp only [TRG_PAT_STATUS_TRG, TRG_PAT_STATUS]; omega)]

theorem commitPattern_free {h : Hub} (hd : ¬ h.trg.patDue.isSome = true) (t : Nat) : h.commitPattern t =
    { ((h.nameCommit t).put TRG_PAT_STATUS_RESULT 0).put TRG_PAT_STATUS_PENDING 1 with
      trg := { h.trg with patDue := some (t, h.stagedVector TRG_MASK t, h.stagedVector TRG_VALUE t) } } := by
  have hmask := h.stagedVector_nameCommit TRG_MASK t fun w => by simp only [TRG_MASK]; omega
  have hvalue := h.stagedVector_nameCommit TRG_VALUE t fun w => by simp only [TRG_VALUE]; omega
  rw [← hmask, ← hvalue]
  simp only [commitPattern, put_trg, hd, nameCommit]
  rfl

theorem trg_nameCommit (h : Hub) {t : Nat} (ht : t < 16) : (h.nameCommit t).fld TRG_PAT_STATUS_TRG = t := by
  rw [nameCommit, fld_put_ne _ _ _ _ (by decide), fld_put_self _ _ _ (by decide)]
  exact Nat.mod_eq_of_lt ht

theorem framed_nameCommit (h : Hub) (t : Nat) : Framed (among [TRG_PAT_STATUS, TRG_PAT_COMMIT]) [] h (h.nameCommit t) :=
  ((framed_put ..).trans (framed_put ..)).mono (by simp [TRG_PAT_STATUS_TRG, TRG_PAT_COMMIT_TRG]) (by simp)

theorem framed_putStatus (h : Hub) {f : Fld} (hf : f.addr = TRG_PAT_STATUS) (v : Nat) :
    Framed (among [TRG_PAT_STATUS, TRG_PAT_COMMIT]) [] h (h.put f v) := (framed_put ..).mono (by simp [hf]) (by simp)

end Hub

/-- What a live write does that is never refused. -/
theorem liveWrite_completes {c : Instr} {s : State} {p : Path} {addr : Nat} {f : Hub → Hub} {q : Hub → Prop}
    (e : exec c s = s.onHub (Hub.writeCmd p addr .LV fun h => some (f h))) (ha : s.hub.awake) (hp : s.hub.livePath p)
    (ht : ∀ k, q k → q k.wrapTime) (hq : q (f s.hub.passTime)) : Completes c s q := by
  refine completes_timeless e ha ht ?_
  rwa [Hub.writeCmd_live (h := s.hub.passTime) (f := fun h => some (f h)) _ hp rfl]

theorem trigIn_completes {s : State} (ha : s.hub.awake) (i : Nat) (high : Bool) : Completes (.trigIn i high) s fun k =>
    (∀ j < 16, bit (k.fld TRG_TRIG_IN_LEVEL) j = if j = i then high else bit (s.hub.fld TRG_TRIG_IN_LEVEL) j) ∧
    (∀ w, s.hub.trg.window = some w → ∃ w', k.trg.window = some w' ∧
      w'.trigIn = (if high then w.trigIn ||| BitVec.ofNat 16 (2 ^ i)
        else if w.tick = s.hub.now then w.trigIn &&& ~~~BitVec.ofNat 16 (2 ^ i) else w.trigIn) ∧ w'.mmsg = w.mmsg ∧ w'.armed = w.armed) ∧
    Framed (among [TRG_TRIG_IN]) [.trg] s.hub k := by
  refine completes_timeless rfl ha (fun _ hk => hk) ⟨fun j hj => ?_, fun w hw => ?_, Hub.framed_trigIn s.hub.passTime i high⟩
  · rw [Hub.level_trigIn _ _ _ hj, Hub.fld_passTime]
  · rw [Hub.trigIn_open (h := s.hub.passTime) hw]
    refine ⟨_, rfl, ?_⟩
    have hnow : s.hub.passTime.now = s.hub.now := rfl
    rw [hnow]
    cases high
    · by_cases ht : w.tick = s.hub.now <;> simp [Hub.sampledWindow, ht]
    · exact ⟨rfl, rfl, rfl⟩

/-- What is written to TRG.ARM waits behind what waits already. -/
theorem writeArm_completes {c : Instr} {s : State} {p : Path} {a d : Nat}
    (e : exec c s = s.onHub (Hub.writeCmd p TRG_ARM .LV fun h => some (h.writeArm a d))) (ha : s.hub.awake) (hp : s.hub.livePath p)
    (hm : a < 65536) (hd : d < 65536) : Completes c s fun k =>
      k.trg.armDue = s.hub.trg.armDue ++ [(a, d)] ∧ Framed (fun _ => False) [.trg] s.hub k := by
  refine liveWrite_completes (f := Hub.writeArm a d) e ha hp (fun _ hk => hk) ?_
  rw [Hub.writeArm, Nat.mod_eq_of_lt hm, Nat.mod_eq_of_lt hd]
  exact ⟨rfl, Hub.framed_withTrg s.hub.passTime _⟩

theorem patCommit_completes {s : State} (ha : s.hub.awake) {p : Path} (hp : s.hub.livePath p) {t : Nat} (ht : t < 16) :
    Completes (.patCommit p t) s fun k =>
      (if s.hub.trg.patDue.isSome then k.trg = s.hub.trg ∧ k.fld TRG_PAT_STATUS_RESULT = 1
       else k.trg = { s.hub.trg with
              patDue := some (t, s.hub.stagedVector TRG_MASK t, s.hub.stagedVector TRG_VALUE t) } ∧
            k.fld TRG_PAT_STATUS_RESULT = 0 ∧ k.flag TRG_PAT_STATUS_PENDING = true) ∧
      k.fld TRG_PAT_STATUS_TRG = t ∧ Framed (among [TRG_PAT_STATUS, TRG_PAT_COMMIT]) [.trg] s.hub k := by
  refine liveWrite_completes (f := Hub.commitPattern t) rfl ha hp (fun _ hk => hk) ?_
  have hnamed := Hub.framed_nameCommit s.hub.passTime t
  by_cases hd : s.hub.trg.patDue.isSome = true
  · rw [if_pos hd, Hub.commitPattern_busy (h := s.hub.passTime) hd]
    refine ⟨⟨rfl, Hub.fld_put_self _ _ _ (by decide)⟩, ?_, (hnamed.trans (Hub.framed_putStatus _ rfl _)).mono (by simp) (by simp)⟩
    rw [Hub.fld_put_disjoint _ _ _ _ (by decide) (by decide), Hub.trg_nameCommit _ ht]
  · rw [if_neg hd, Hub.commitPattern_free (h := s.hub.passTime) hd]
    set k := (s.hub.passTime.nameCommit t).put TRG_PAT_STATUS_RESULT 0
    have hresult : (k.put TRG_PAT_STATUS_PENDING 1).fld TRG_PAT_STATUS_RESULT = 0 := by
      rw [Hub.fld_put_disjoint _ _ _ _ (by decide) (by decide), Hub.fld_put_self _ _ _ (by decide), Nat.zero_mod]
    have hpending : (k.put TRG_PAT_STATUS_PENDING 1).flag TRG_PAT_STATUS_PENDING = true := Hub.flag_put_self _ _ true rfl (by decide)
    have htrg : (k.put TRG_PAT_STATUS_PENDING 1).fld TRG_PAT_STATUS_TRG = t := by
      rw [Hub.fld_put_disjoint _ _ _ _ (by decide) (by decide), Hub.fld_put_disjoint _ _ _ _ (by decide) (by decide), Hub.trg_nameCommit _ ht]
    have hframe := (hnamed.trans (Hub.framed_putStatus _ rfl 0)).trans (Hub.framed_putStatus k (f := TRG_PAT_STATUS_PENDING) rfl 1)
    exact ⟨⟨rfl, (Hub.fld_withTrg ..).trans hresult, (Hub.flag_withTrg ..).trans hpending⟩, (Hub.fld_withTrg ..).trans htrg, (hframe.trans (Hub.framed_withTrg ..)).mono (by simp) (by simp)⟩

/-- Settles O21: each command comes down to one equation of what it does to the window that runs, or to what waits. -/
theorem triggerRegisters : Obligations.TriggerRegisters := fun _ _ ha =>
  ⟨fun i high _ => trigIn_completes ha i high,
    fun _ hm hp => writeArm_completes rfl ha hp hm (by decide),
    fun _ hm hp => writeArm_completes rfl ha hp (by decide) hm,
    fun _ ht hp => patCommit_completes ha hp ht⟩

end Sys2Proof.Machine
end
section
/-!
PROOFS. Trip outputs: the condition, which neither the outputs' own registers nor events change, the carrier, trips, clears and permits
(R229, R231-R233): what settles O22.
-/

namespace Sys2Proof.Machine

/-- The registers TRG.TRIP_STAT. -/
abbrev tripStats (a : Nat) : Prop := ∃ i < 16, a = TRG_TRIP_STAT i

/-- From `h` to `k` only trip outputs move: what they show, what waits for their carriers, and the events they raise. What the flags of R230
are read from stays. -/
structure TripsOnly (h k : Hub) : Prop where
  framed : Framed tripStats (.trg :: eventParts) h k
  zones : k.trg.zones = h.trg.zones
  window : k.trg.window = h.trg.window
  fireEnds : k.trg.fireEnds = h.trg.fireEnds
  flagAt : k.trg.flagAt = h.trg.flagAt

namespace TripsOnly

theorem refl (h : Hub) : TripsOnly h h := ⟨(framed_refl h).mono (fun _ hf => hf.elim) (by simp), rfl, rfl, rfl, rfl⟩

theorem trans {h k l : Hub} (a : TripsOnly h k) (b : TripsOnly k l) : TripsOnly h l :=
  ⟨(a.framed.trans b.framed).mono (by simp) (by simp), b.zones.trans a.zones, b.window.trans a.window, b.fireEnds.trans a.fireEnds,
    b.flagAt.trans a.flagAt⟩

theorem ite {h k l : Hub} {c : Prop} [Decidable c] (hk : TripsOnly h k) (hl : TripsOnly h l) : TripsOnly h (if c then k else l) := by
  split_ifs
  · exact hk
  · exact hl

theorem put {h k : Hub} (a : TripsOnly h k) {f : Fld} (v : Nat) (hf : tripStats f.addr) : TripsOnly h (k.put f v) :=
  ⟨(a.framed.trans (framed_put k f v)).mono (fun _ ha => ha.elim id (· ▸ hf)) (by simp), a.zones, a.window, a.fireEnds, a.flagAt⟩

theorem raise {h k : Hub} (a : TripsOnly h k) (src cause : Nat) (d : List Nat) : TripsOnly h (k.raise src cause d) := by
  have htrg := k.raise_trg src cause d
  exact ⟨(a.framed.trans (framed_raise k src cause d)).mono (by simp) (by simp), (congrArg Trig.zones htrg).trans a.zones,
    (congrArg Trig.window htrg).trans a.window, (congrArg Trig.fireEnds htrg).trans a.fireEnds,
    (congrArg Trig.flagAt htrg).trans a.flagAt⟩

/-- What the triggers hold may be replaced, apart from what the flags are read from. -/
theorem withTrg {h k : Hub} (a : TripsOnly h k) (x : Trig) (hz : x.zones = h.trg.zones) (hw : x.window = h.trg.window)
    (he : x.fireEnds = h.trg.fireEnds) (hf : x.flagAt = h.trg.flagAt) : TripsOnly h { k with trg := x } :=
  ⟨(a.framed.trans (Hub.framed_withTrg k x)).mono (by simp) (by simp), hz, hw, he, hf⟩

section

variable {h k : Hub} (a : TripsOnly h k)
include a

theorem reg_eq {n : Nat} (hn : n < 0x60680 ∨ 0x606c0 ≤ n) : k.reg n = h.reg n :=
  a.framed.1 n fun ⟨i, hi, he⟩ => by simp only [TRG_TRIP_STAT] at he; omega

theorem fld_eq {f : Fld} (hf : f.addr < 0x60680 ∨ 0x606c0 ≤ f.addr) : k.fld f = h.fld f := congrArg f.get (a.reg_eq hf)

theorem flag_eq {f : Fld} (hf : f.addr < 0x60680 ∨ 0x606c0 ≤ f.addr) : k.flag f = h.flag f := congrArg (· == 1) (a.fld_eq hf)

theorem mt_eq : k.mt = h.mt := a.framed.2 .mt (by simp)

theorem se_eq : k.se = h.se := a.framed.2 .se (by simp)

theorem pwr_eq : k.pwr = h.pwr := a.framed.2 .pwr (by simp)

theorem bclk_eq : k.bclk = h.bclk := by
  rw [Hub.bclk, Hub.bclk, a.mt_eq, a.fld_eq (f := MT_BCLK_MEAS_FREQ) (by decide), a.fld_eq (f := MT_BCLK_NOM_KHZ) (by decide)]

/-- A flag of R230 is the same. -/
theorem tripFlag_eq (f : Nat) : k.tripFlag f = h.tripFlag f := by
  unfold Hub.tripFlag
  rw [a.se_eq, a.zones, a.window, a.mt_eq, a.fireEnds, a.fld_eq (f := TRG_TRIG_IN_LEVEL) (by decide)]
  split_ifs
  · exact a.flag_eq (by simp only [AFE_CELL_STAT_CMP_HI, AFE_CELL_STAT]; omega)
  · exact a.flag_eq (by simp only [AFE_CELL_STAT_CMP_LO, AFE_CELL_STAT]; omega)
  · exact a.flag_eq (by simp only [AFE_CELL_STAT_SW, AFE_CELL_STAT]; omega)
  all_goals rfl

theorem filtered_eq (f filt : Nat) : k.filtered f filt = h.filtered f filt := by
  rw [Hub.filtered, Hub.filtered, a.flagAt, a.bclk_eq, a.mt_eq]

/-- The vote of an output is the same (R231). -/
theorem tripVotes_eq {n : Nat} (hn : n < 16) : k.tripVotes n = h.tripVotes n := by
  refine List.countP_congr fun i _ => ?_
  have hsel : 0x606c0 ≤ TRG_TRIP_SEL n i := by simp only [TRG_TRIP_SEL]; omega
  rw [Hub.tripActive, Hub.tripActive, a.tripFlag_eq, a.filtered_eq, a.fld_eq (f := TRG_TRIP_SEL_FLAG n i) (.inr hsel),
    a.flag_eq (f := TRG_TRIP_SEL_EN n i) (.inr hsel), a.flag_eq (f := TRG_TRIP_SEL_INV n i) (.inr hsel),
    a.fld_eq (f := TRG_TRIP_CFG_FILT n) (.inl (by simp only [TRG_TRIP_CFG_FILT, TRG_TRIP_CFG]; omega))]

theorem enabled_eq {n : Nat} (hn : n < 16) : k.flag (TRG_TRIP_CFG_EN n) = h.flag (TRG_TRIP_CFG_EN n) :=
  a.flag_eq (.inl (by simp only [TRG_TRIP_CFG_EN, TRG_TRIP_CFG]; omega))

/-- The condition of an output is the same (R231). -/
theorem tripCond_eq {n : Nat} (hn : n < 16) : k.tripCond n = h.tripCond n := by
  rw [Hub.tripCond, Hub.tripCond, a.tripVotes_eq hn, a.enabled_eq hn,
    a.fld_eq (f := TRG_TRIP_CFG_K n) (.inl (by simp only [TRG_TRIP_CFG_K, TRG_TRIP_CFG]; omega))]

theorem heldLow_eq : k.heldLow = h.heldLow := by rw [Hub.heldLow, Hub.heldLow, a.pwr_eq]

end

end TripsOnly

namespace Hub

theorem reg_withTrg (h : Hub) (x : Trig) (a : Nat) : ({ h with trg := x } : Hub).reg a = h.reg a := reg_congr rfl a

/-! ### The carrier (R228, R232, R233) -/

/-- The hub shows that output `n` permits, and its carrier waits for the divider's next high phase. -/
def letCarry (n : Nat) (h : Hub) : Hub :=
  { h.put (TRG_TRIP_STAT_PERMIT n) 1 with trg := { h.trg with starting := h.trg.starting ||| BitVec.ofNat 16 (2 ^ n) } }

/-- The first carrier of output `n` since the outputs started is reported (R237). -/
def reportCarrier (n : Nat) (h : Hub) : Hub :=
  if h.trg.carried.getLsbD n then h else
  ({ h with trg := { h.trg with carried := h.trg.carried ||| BitVec.ofNat 16 (2 ^ n) } } : Hub).raise (96 + n) 4 [ofBool h.trg.byTakeover]

theorem startCarrier_eq (n : Nat) (h : Hub) : h.startCarrier n =
    if !h.flag (TRG_TRIP_STAT_DRIVEN n) || h.heldLow || h.flag (TRG_TRIP_STAT_PERMIT n) then h
    else (h.letCarry n).reportCarrier n := rfl

theorem reg_letCarry (n : Nat) (h : Hub) (a : Nat) : (h.letCarry n).reg a = (h.put (TRG_TRIP_STAT_PERMIT n) 1).reg a :=
  reg_withTrg ..

theorem reg_reportCarrier (n : Nat) (h : Hub) (a : Nat) : (h.reportCarrier n).reg a = h.reg a := by
  rw [reportCarrier]
  split_ifs
  · rfl
  · rw [reg_raise]
    exact reg_withTrg ..

/-- A report leaves alone what waits for the carriers. -/
theorem waits_reportCarrier (n : Nat) (h : Hub) :
    (h.reportCarrier n).trg.starting = h.trg.starting ∧ (h.reportCarrier n).trg.permitDue = h.trg.permitDue := by
  rw [reportCarrier]
  split_ifs
  · exact ⟨rfl, rfl⟩
  · rw [raise_trg]
    exact ⟨rfl, rfl⟩

theorem tripsOnly_reportCarrier (n : Nat) (h : Hub) : TripsOnly h (h.reportCarrier n) :=
  .ite (.refl h) (((TripsOnly.refl h).withTrg { h.trg with carried := h.trg.carried ||| BitVec.ofNat 16 (2 ^ n) } rfl rfl rfl rfl).raise ..)

theorem tripsOnly_startCarrier {n : Nat} (hn : n < 16) (h : Hub) : TripsOnly h (h.startCarrier n) := by
  have hcarry : TripsOnly h (h.letCarry n) :=
    ((TripsOnly.refl h).put (f := TRG_TRIP_STAT_PERMIT n) 1 ⟨n, hn, rfl⟩).withTrg
      { h.trg with starting := h.trg.starting ||| BitVec.ofNat 16 (2 ^ n) } rfl rfl rfl rfl
  rw [startCarrier_eq]
  exact .ite (.refl h) (hcarry.trans (tripsOnly_reportCarrier ..))

/-- Only PERMIT of its own register changes. -/
theorem reg_startCarrier (n : Nat) (h : Hub) {a : Nat} (ha : a ≠ TRG_TRIP_STAT n) : (h.startCarrier n).reg a = h.reg a := by
  rw [startCarrier_eq]
  split_ifs
  · rfl
  · rw [reg_reportCarrier, reg_letCarry, reg_put_ne _ _ _ ha]

theorem flag_permitting (n : Nat) (h : Hub) (f : Fld) :
    ((h.letCarry n).reportCarrier n).flag f = (h.put (TRG_TRIP_STAT_PERMIT n) 1).flag f := by
  rw [flag, fld, reg_reportCarrier, reg_letCarry, flag, fld]

theorem flag_startCarrier_disjoint (n : Nat) (h : Hub) {f : Fld} (hf : f.lo + f.width ≤ 30 ∨ 31 ≤ f.lo) :
    (h.startCarrier n).flag f = h.flag f := by
  rw [startCarrier_eq]
  split_ifs
  · rfl
  · rw [flag_permitting, flag_put_disjoint _ (TRG_TRIP_STAT_PERMIT n) f _ (by simp [TRG_TRIP_STAT_PERMIT]) (.inr hf.symm)]

/-- An output permits from then on where the hub drives it and nothing holds the shared balls low. -/
theorem permit_startCarrier (n : Nat) (h : Hub) : (h.startCarrier n).flag (TRG_TRIP_STAT_PERMIT n) =
    (h.flag (TRG_TRIP_STAT_PERMIT n) || (h.flag (TRG_TRIP_STAT_DRIVEN n) && !h.heldLow)) := by
  have hself : (h.put (TRG_TRIP_STAT_PERMIT n) 1).flag (TRG_TRIP_STAT_PERMIT n) = true :=
    flag_put_self h (TRG_TRIP_STAT_PERMIT n) true rfl (by simp [TRG_TRIP_STAT_PERMIT])
  rw [startCarrier_eq]
  cases hp : h.flag (TRG_TRIP_STAT_PERMIT n) <;> cases hd : h.flag (TRG_TRIP_STAT_DRIVEN n) <;> cases hl : h.heldLow <;>
    simp [flag_permitting, hself, hp]

/-- Only an output that permits anew waits for the divider's next high phase. -/
theorem startCarrier_started {n : Nat} {h : Hub} (hd : h.flag (TRG_TRIP_STAT_DRIVEN n) = true) (hl : h.heldLow = false)
    (hp : h.flag (TRG_TRIP_STAT_PERMIT n) = false) : h.startCarrier n = (h.letCarry n).reportCarrier n := by
  rw [startCarrier_eq, hd, hl, hp]
  exact if_neg Bool.false_ne_true

theorem permitDue_startCarrier (n : Nat) (h : Hub) : (h.startCarrier n).trg.permitDue = h.trg.permitDue := by
  rw [startCarrier_eq]
  split_ifs
  · rfl
  · rw [(waits_reportCarrier n (h.letCarry n)).2, letCarry]

/-! ### Clears (R232) -/

/-- A clear request clears output `n`: it is enabled and latched, and its condition is false. -/
def clearable (h : Hub) (n : Nat) : Bool := h.flag (TRG_TRIP_CFG_EN n) && h.flag (TRG_TRIP_STAT_LATCHED n) && !h.tripCond n

/-- The latch of output `n` is cleared, which is reported. -/
def unlatch (source n : Nat) (h : Hub) : Hub := (h.put (TRG_TRIP_STAT_LATCHED n) 0).raise (96 + n) 2 [source]

theorem clearTrip_of_clearable {h : Hub} {n : Nat} (hc : h.clearable n = true) (source : Nat) :
    h.clearTrip source n = (h.unlatch source n).startCarrier n := by
  simp only [clearable, Bool.and_eq_true, Bool.not_eq_true'] at hc
  obtain ⟨⟨hen, hlat⟩, hcond⟩ := hc
  rw [clearTrip, if_neg (by simp [hen, hlat]), hcond, if_neg Bool.false_ne_true, unlatch]

/-- A request that clears nothing does nothing, or is reported as refused. -/
theorem clearTrip_of_not_clearable {h : Hub} {n : Nat} (hc : h.clearable n = false) (source : Nat) :
    h.clearTrip source n = h ∨ h.clearTrip source n = h.raise (96 + n) 3 [h.tripVotes n] := by
  by_cases hoff : ¬ h.flag (TRG_TRIP_CFG_EN n) = true ∨ ¬ h.flag (TRG_TRIP_STAT_LATCHED n) = true
  · exact .inl (if_pos hoff)
  · have hcond : h.tripCond n = true := by
      rw [not_or, not_not, not_not] at hoff
      simpa [clearable, hoff.1, hoff.2] using hc
    exact .inr ((if_neg hoff).trans (if_pos hcond))

theorem tripsOnly_unlatch {n : Nat} (hn : n < 16) (source : Nat) (h : Hub) : TripsOnly h (h.unlatch source n) :=
  ((TripsOnly.refl h).put (f := TRG_TRIP_STAT_LATCHED n) 0 ⟨n, hn, rfl⟩).raise ..

theorem tripsOnly_clearTrip {n : Nat} (hn : n < 16) (source : Nat) (h : Hub) : TripsOnly h (h.clearTrip source n) := by
  cases hc : h.clearable n
  · rcases clearTrip_of_not_clearable hc source with e | e <;> rw [e]
    · exact .refl h
    · exact (TripsOnly.refl h).raise ..
  · rw [clearTrip_of_clearable hc]
    exact (tripsOnly_unlatch hn source h).trans (tripsOnly_startCarrier hn _)

theorem reg_clearTrip (source n : Nat) (h : Hub) {a : Nat} (ha : a ≠ TRG_TRIP_STAT n) : (h.clearTrip source n).reg a = h.reg a := by
  cases hc : h.clearable n
  · rcases clearTrip_of_not_clearable hc source with e | e <;> rw [e]
    exact reg_raise ..
  · rw [clearTrip_of_clearable hc, reg_startCarrier _ _ ha, unlatch, reg_raise, reg_put_ne _ _ _ ha]

theorem flag_unlatch_disjoint (source n : Nat) (h : Hub) {f : Fld} (hf : f.lo + f.width ≤ 29 ∨ 30 ≤ f.lo) :
    (h.unlatch source n).flag f = h.flag f := by
  rw [unlatch, flag_raise, flag_put_disjoint _ (TRG_TRIP_STAT_LATCHED n) f _ (by decide : 29 + 1 ≤ 32) (.inr hf.symm)]

/-- A latch that is cleared reads clear, and its output permits where the hub drives it and nothing holds the shared balls low. -/
theorem clearTrip_shows {n : Nat} (hn : n < 16) (source : Nat) {h : Hub} (hs : h.pwr.shutdown = false) :
    (h.clearTrip source n).flag (TRG_TRIP_STAT_LATCHED n) = (h.flag (TRG_TRIP_STAT_LATCHED n) && !h.clearable n) ∧
      (h.clearTrip source n).flag (TRG_TRIP_STAT_PERMIT n) = (h.flag (TRG_TRIP_STAT_PERMIT n) ||
        (h.clearable n && h.flag (TRG_TRIP_STAT_DRIVEN n) && !h.pwr.draining)) := by
  cases hc : h.clearable n
  · rcases clearTrip_of_not_clearable hc source with e | e <;> simp [e]
  · have hcleared : (h.put (TRG_TRIP_STAT_LATCHED n) 0).flag (TRG_TRIP_STAT_LATCHED n) = false :=
      flag_put_self h (TRG_TRIP_STAT_LATCHED n) false rfl (by decide : 29 < 32)
    have hheld : h.heldLow = h.pwr.draining := by rw [heldLow, hs, Bool.false_or]
    rw [clearTrip_of_clearable hc, flag_startCarrier_disjoint _ _ (.inl (by decide : 29 + 1 ≤ 30)), permit_startCarrier,
      flag_unlatch_disjoint (f := TRG_TRIP_STAT_PERMIT n) _ _ _ (.inr (by decide : 30 ≤ 30)),
      flag_unlatch_disjoint (f := TRG_TRIP_STAT_DRIVEN n) _ _ _ (.inr (by decide : 30 ≤ 31)),
      (tripsOnly_unlatch hn source h).heldLow_eq, hheld, unlatch, flag_raise, hcleared, Bool.not_true, Bool.and_false, Bool.true_and]
    exact ⟨rfl, rfl⟩

/-- One clear request of a mask. -/
def clearMasked (source mask : Nat) (h : Hub) (n : Nat) : Hub := if bit mask n then h.clearTrip source n else h

theorem tripsOnly_clearMasked (source mask : Nat) (h : Hub) {n : Nat} (hn : n < 16) : TripsOnly h (h.clearMasked source mask n) :=
  .ite (tripsOnly_clearTrip hn ..) (.refl h)

/-- The requests for other outputs leave what output `n` shows alone. -/
theorem foldl_clearMasked (source mask : Nat) {l : List Nat} (hl : ∀ i ∈ l, i < 16) {n : Nat} (hn : n ∉ l) (h : Hub) :
    TripsOnly h (l.foldl (clearMasked source mask) h) ∧
      (l.foldl (clearMasked source mask) h).reg (TRG_TRIP_STAT n) = h.reg (TRG_TRIP_STAT n) := by
  induction l generalizing h with
  | nil => exact ⟨.refl h, rfl⟩
  | cons i l ih =>
    rw [List.mem_cons, not_or] at hn
    obtain ⟨hni, hnl⟩ := hn
    obtain ⟨htrips, hreg⟩ := ih (fun j hj => hl j (List.mem_cons_of_mem _ hj)) hnl (h.clearMasked source mask i)
    refine ⟨(tripsOnly_clearMasked _ _ _ (hl i List.mem_cons_self)).trans htrips, hreg.trans ?_⟩
    have hne : TRG_TRIP_STAT n ≠ TRG_TRIP_STAT i := by simp only [TRG_TRIP_STAT]; omega
    rw [clearMasked]
    split_ifs
    · exact reg_clearTrip _ _ _ hne
    · rfl

theorem clearTrips_eq (source mask : Nat) (h : Hub) : h.clearTrips source mask = (List.range 16).foldl (clearMasked source mask) h := rfl

theorem flag_of_reg {h k : Hub} {f : Fld} (hr : k.reg f.addr = h.reg f.addr) : k.flag f = h.flag f := by rw [flag, fld, hr, flag, fld]

theorem clearable_eq {h k : Hub} (a : TripsOnly h k) {n : Nat} (hn : n < 16) (hr : k.reg (TRG_TRIP_STAT n) = h.reg (TRG_TRIP_STAT n)) :
    k.clearable n = h.clearable n := by
  rw [clearable, clearable, a.tripCond_eq hn, a.enabled_eq hn, flag_of_reg (f := TRG_TRIP_STAT_LATCHED n) hr]

/-- Each output of a mask is cleared as if it were the only one. -/
theorem clearTrips_shows (source mask : Nat) {n : Nat} (hn : n < 16) {h : Hub} (hs : h.pwr.shutdown = false) :
    TripsOnly h (h.clearTrips source mask) ∧
      (h.clearTrips source mask).flag (TRG_TRIP_STAT_LATCHED n) =
        (h.flag (TRG_TRIP_STAT_LATCHED n) && !(bit mask n && h.clearable n)) ∧
      (h.clearTrips source mask).flag (TRG_TRIP_STAT_PERMIT n) = (h.flag (TRG_TRIP_STAT_PERMIT n) ||
        (bit mask n && h.clearable n && h.flag (TRG_TRIP_STAT_DRIVEN n) && !h.pwr.draining)) := by
  obtain ⟨before, after, hsplit⟩ := List.append_of_mem (List.mem_range.mpr hn)
  have hlt : ∀ i ∈ before ++ n :: after, i < 16 := fun i hi => List.mem_range.mp (hsplit ▸ hi)
  have hout : n ∉ before ++ after :=
    (List.nodup_cons.mp (List.nodup_middle.mp (hsplit ▸ List.nodup_range))).1
  rw [List.mem_append, not_or] at hout
  obtain ⟨hbefore, hregBefore⟩ := foldl_clearMasked source mask (fun i hi => hlt i (by simp [hi])) hout.1 h
  set h₁ := before.foldl (clearMasked source mask) h
  obtain ⟨hafter, hregAfter⟩ := foldl_clearMasked source mask (fun i hi => hlt i (by simp [hi])) hout.2 (h₁.clearMasked source mask n)
  have hk : h.clearTrips source mask = after.foldl (clearMasked source mask) (h₁.clearMasked source mask n) := by
    rw [clearTrips_eq, hsplit, List.foldl_append, List.foldl_cons]
  rw [hk, flag_of_reg (f := TRG_TRIP_STAT_LATCHED n) hregAfter, flag_of_reg (f := TRG_TRIP_STAT_PERMIT n) hregAfter,
    ← clearable_eq hbefore hn hregBefore, ← flag_of_reg (f := TRG_TRIP_STAT_LATCHED n) hregBefore,
    ← flag_of_reg (f := TRG_TRIP_STAT_PERMIT n) hregBefore, ← flag_of_reg (f := TRG_TRIP_STAT_DRIVEN n) hregBefore, ← hbefore.pwr_eq]
  refine ⟨(hbefore.trans (tripsOnly_clearMasked _ _ _ hn)).trans hafter, ?_⟩
  rw [clearMasked]
  cases hb : bit mask n
  · simp
  · simpa using clearTrip_shows hn source (h := h₁) (by rw [hbefore.pwr_eq, hs])

/-! ### Trips (R231) -/

/-- Output `n` is latched and permits no more, and the trip is counted. -/
def latchTrip (n : Nat) (h : Hub) : Hub :=
  ((h.put (TRG_TRIP_STAT_LATCHED n) 1).put (TRG_TRIP_STAT_PERMIT n) 0).bump (TRG_TRIP_STAT_TRIPS n) 1

/-- Output `n` waits for no phase of the divider. -/
def dropCarrier (n : Nat) (h : Hub) : Hub :=
  { h with trg := { h.trg with starting := h.trg.starting &&& ~~~BitVec.ofNat 16 (2 ^ n) } }

/-- TRG.TRIP_FIRST names the flag that completed the vote. -/
def nameFirst (n flag : Nat) (h : Hub) : Hub := (h.put (TRG_TRIP_FIRST_FLAG n) flag).put (TRG_TRIP_FIRST_VALID n) 1

/-- A trip is reported with an instant of its slot (R237). -/
def reportTrip (n flag : Nat) (h : Hub) : Hub :=
  let m : MT := if h.mt.anchored then { h.mtNow with fine := Config.fineNow h.fresh % 1024 } else {}
  (h.raiseAt m (96 + n) 1 [flag, h.tripVotes n]).tick

theorem trip_eq {h : Hub} {n : Nat} (he : h.evaluatesTrips = true) (hc : h.tripCond n = true)
    (hl : h.flag (TRG_TRIP_STAT_LATCHED n) = false) (f : Nat) :
    h.trip n f = (((h.latchTrip n).dropCarrier n).nameFirst n f).reportTrip n f := by
  rw [trip, if_neg (by simp [he, hc, hl])]
  rfl

theorem latchTrip_shows (n : Nat) (h : Hub) : (h.latchTrip n).flag (TRG_TRIP_STAT_LATCHED n) = true ∧
    (h.latchTrip n).flag (TRG_TRIP_STAT_PERMIT n) = false ∧ (h.latchTrip n).fld (TRG_TRIP_STAT_TRIPS n) =
      satAdd (2 ^ (TRG_TRIP_STAT_TRIPS n).width - 1) (h.fld (TRG_TRIP_STAT_TRIPS n)) 1 := by
  have hlatched : (h.put (TRG_TRIP_STAT_LATCHED n) 1).flag (TRG_TRIP_STAT_LATCHED n) = true :=
    flag_put_self h (TRG_TRIP_STAT_LATCHED n) true rfl (by decide : 29 < 32)
  set k := h.put (TRG_TRIP_STAT_LATCHED n) 1
  have hpermit : (k.put (TRG_TRIP_STAT_PERMIT n) 0).flag (TRG_TRIP_STAT_PERMIT n) = false :=
    flag_put_self k (TRG_TRIP_STAT_PERMIT n) false rfl (by decide : 30 < 32)
  refine ⟨?_, ?_, ?_⟩
  · rw [latchTrip, bump, flag_put_disjoint _ _ _ _ (by decide : 0 + 16 ≤ 32) (.inr (.inl (by decide : 0 + 16 ≤ 29))),
      flag_put_disjoint _ _ _ _ (by decide : 30 + 1 ≤ 32) (.inr (.inr (by decide : 29 + 1 ≤ 30))), hlatched]
  · rw [latchTrip, bump, flag_put_disjoint _ _ _ _ (by decide : 0 + 16 ≤ 32) (.inr (.inl (by decide : 0 + 16 ≤ 30))), hpermit]
  · rw [latchTrip, fld_bump_self _ _ _ (by decide : 0 + 16 ≤ 32),
      fld_put_disjoint _ _ _ _ (by decide : 30 + 1 ≤ 32) (.inr (.inr (by decide : 0 + 16 ≤ 30))),
      fld_put_disjoint _ _ _ _ (by decide : 29 + 1 ≤ 32) (.inr (.inr (by decide : 0 + 16 ≤ 29)))]

theorem framed_latchTrip (n : Nat) (h : Hub) : Framed (among [TRG_TRIP_STAT n]) [] h (h.latchTrip n) :=
  (((framed_put ..).trans (framed_put ..)).trans (framed_bump ..)).mono
    (by simp [TRG_TRIP_STAT_LATCHED, TRG_TRIP_STAT_PERMIT, TRG_TRIP_STAT_TRIPS]) (by simp)

theorem framed_nameFirst (n f : Nat) (h : Hub) : Framed (among [TRG_TRIP_FIRST n]) [] h (h.nameFirst n f) :=
  ((framed_put ..).trans (framed_put ..)).mono (by simp [TRG_TRIP_FIRST_FLAG, TRG_TRIP_FIRST_VALID]) (by simp)

theorem nameFirst_shows (n : Nat) (h : Hub) {f : Nat} (hf : f < 4096) :
    (h.nameFirst n f).fld (TRG_TRIP_FIRST_FLAG n) = f ∧ (h.nameFirst n f).flag (TRG_TRIP_FIRST_VALID n) = true := by
  refine ⟨?_, flag_put_self _ (TRG_TRIP_FIRST_VALID n) true rfl (by decide : 31 < 32)⟩
  rw [nameFirst, fld_put_disjoint _ _ _ _ (by decide : 31 + 1 ≤ 32) (.inr (.inr (by decide : 0 + 12 ≤ 31))),
    fld_put_self _ _ _ (by decide : 0 + 12 ≤ 32)]
  exact Nat.mod_eq_of_lt hf

theorem occurrences_reportTrip (n f : Nat) (h : Hub) : oneMore (96 + n) h (h.reportTrip n f) := by
  rw [oneMore, reportTrip, occurrences_congr (tick_evt _), occurrences_raiseAt, if_pos rfl]

theorem framed_tick (h : Hub) : Framed (fun _ => False) [] h h.tick := ⟨fun _ _ => reg_tick .., fun p _ => by cases p <;> simp [Part.same]⟩

theorem framed_reportTrip (n f : Nat) (h : Hub) : Framed (fun _ => False) eventParts h (h.reportTrip n f) :=
  ((framed_raiseAt ..).trans (framed_tick _)).mono (by simp) (by simp)

/-- A latch that sets stops the carrier, and is counted, named and reported. -/
theorem trip_shows {h : Hub} {n f : Nat} (hf : f < 2160) (he : h.evaluatesTrips = true) (hc : h.tripCond n = true)
    (hl : h.flag (TRG_TRIP_STAT_LATCHED n) = false) :
    (h.trip n f).flag (TRG_TRIP_STAT_LATCHED n) = true ∧ (h.trip n f).flag (TRG_TRIP_STAT_PERMIT n) = false ∧
    (h.trip n f).fld (TRG_TRIP_STAT_TRIPS n) = satAdd (2 ^ (TRG_TRIP_STAT_TRIPS n).width - 1) (h.fld (TRG_TRIP_STAT_TRIPS n)) 1 ∧
    (h.trip n f).fld (TRG_TRIP_FIRST_FLAG n) = f ∧ (h.trip n f).flag (TRG_TRIP_FIRST_VALID n) = true ∧ oneMore (96 + n) h (h.trip n f) ∧
    Framed (among [TRG_TRIP_STAT n, TRG_TRIP_FIRST n]) (.trg :: eventParts) h (h.trip n f) := by
  obtain ⟨hlatched, hpermit, htrips⟩ := latchTrip_shows n h
  obtain ⟨hflag, hvalid⟩ := nameFirst_shows n ((h.latchTrip n).dropCarrier n) (show f < 4096 by omega)
  have hdrop : Framed (fun _ => False) [.trg] (h.latchTrip n) ((h.latchTrip n).dropCarrier n) := framed_withTrg ..
  have hfirst := framed_nameFirst n f ((h.latchTrip n).dropCarrier n)
  have hframe := ((framed_latchTrip n h).trans hdrop).trans hfirst
  rw [trip_eq he hc hl]
  set k := ((h.latchTrip n).dropCarrier n).nameFirst n f
  have hreport := framed_reportTrip n f k
  have hstat : ¬ (False ∨ among [TRG_TRIP_FIRST n] (TRG_TRIP_STAT n)) := by
    rw [false_or, among, List.mem_singleton, TRG_TRIP_FIRST, TRG_TRIP_STAT]
    omega
  have hkept : Framed _ _ (h.latchTrip n) (k.reportTrip n f) := (hdrop.trans hfirst).trans hreport
  refine ⟨(hkept.flag_eq ?_).trans hlatched, (hkept.flag_eq ?_).trans hpermit, (hkept.fld_eq ?_).trans htrips,
    (hreport.fld_eq id).trans hflag, (hreport.flag_eq id).trans hvalid, ?_, ?_⟩
  iterate 3 exact fun hr => hstat (hr.resolve_right id)
  · rw [oneMore, ← occurrences_congr (k := h) (hframe.2 .evt (by simp))]
    exact occurrences_reportTrip n f k
  · exact (hframe.trans hreport).mono (by simp) (by simp)

/-! ### Balls (R228, R229) -/

theorem tripPin_of_not_permit {h : Hub} {n : Nat} (hp : h.flag (TRG_TRIP_STAT_PERMIT n) = false) : h.tripPin n ≠ some true := by
  rw [tripPin, tripRuns, hp]
  split_ifs <;> simp

/-- A driven ball whose carrier waits for its phase is low. -/
theorem tripPin_of_starting {h : Hub} {n : Nat} (hd : h.flag (TRG_TRIP_STAT_DRIVEN n) = true) (hs : h.pwr.shutdown = false)
    (hq : h.pwr.draining = false) (hn : h.trg.starting.getLsbD n = true) : h.tripPin n = some false := by
  have hdriven : h.tripDriven n = true := by simp [tripDriven, hd, released, hs, hq]
  rw [tripPin, hdriven, tripRuns, hn]
  simp

/-! ### Permits (R233) -/

/-- Output `n` waits no more for its condition to stay false. -/
def endWait (n : Nat) (h : Hub) : Hub :=
  { h with trg := { h.trg with permitDue := h.trg.permitDue &&& ~~~BitVec.ofNat 16 (2 ^ n) } }

theorem permit_eq {h : Hub} {n : Nat} (hd : h.trg.permitDue.getLsbD n = true) (hc : h.tripCond n = false)
    (hl : h.flag (TRG_TRIP_STAT_LATCHED n) = false) : h.permit n = (h.endWait n).startCarrier n := by
  rw [permit, if_neg (by simp [hd, hc, hl])]
  rfl

theorem getLsbD_and_not_twoPow (x : BitVec 16) {n : Nat} : (x &&& ~~~BitVec.ofNat 16 (2 ^ n)).getLsbD n = false := by
  rw [BitVec.getLsbD_and, BitVec.getLsbD_not, BitVec.getLsbD_ofNat, Nat.testBit_two_pow_self]
  cases decide (n < 16) <;> simp

theorem getLsbD_or_twoPow (x : BitVec 16) {n : Nat} (hn : n < 16) : (x ||| BitVec.ofNat 16 (2 ^ n)).getLsbD n = true := by
  rw [BitVec.getLsbD_or, BitVec.getLsbD_ofNat, Nat.testBit_two_pow_self, decide_eq_true hn, Bool.and_self, Bool.or_true]

theorem framed_startCarrier (n : Nat) (h : Hub) (hn : n < 16) :
    Framed (among [TRG_TRIP_STAT n]) (.trg :: eventParts) h (h.startCarrier n) :=
  ⟨fun _ ha => reg_startCarrier n h (by simpa using ha), (tripsOnly_startCarrier hn h).framed.2⟩

end Hub

theorem tripped_completes {s : State} (ha : s.hub.awake) {n f : Nat} (hf : f < 2160) (he : s.hub.evaluatesTrips = true)
    (hc : s.hub.tripCond n = true) (hl : s.hub.flag (TRG_TRIP_STAT_LATCHED n) = false) : Completes (.tripped n f) s fun k =>
      k.flag (TRG_TRIP_STAT_LATCHED n) = true ∧ k.flag (TRG_TRIP_STAT_PERMIT n) = false ∧ k.tripPin n ≠ some true ∧
      k.fld (TRG_TRIP_STAT_TRIPS n) = satAdd (2 ^ (TRG_TRIP_STAT_TRIPS n).width - 1) (s.hub.fld (TRG_TRIP_STAT_TRIPS n)) 1 ∧
      k.fld (TRG_TRIP_FIRST_FLAG n) = f ∧ k.flag (TRG_TRIP_FIRST_VALID n) = true ∧ Hub.oneMore (96 + n) s.hub k ∧
      Framed (among [TRG_TRIP_STAT n, TRG_TRIP_FIRST n]) (.trg :: eventParts) s.hub k := by
  refine completes_onHub rfl ha ?_
  obtain ⟨hlatched, hpermit, hshown⟩ := Hub.trip_shows (h := s.hub.passTime) hf he hc hl
  exact ⟨hlatched, hpermit, Hub.tripPin_of_not_permit (h := Hub.wrapTime _) hpermit, hshown⟩

theorem tripClr_completes {s : State} (ha : s.hub.awake) {p : Path} (hp : s.hub.livePath p) {n : Nat} (hn : n < 16) (m : Nat) :
    Completes (.tripClr p m) s fun k =>
      let clears := bit m n && s.hub.flag (TRG_TRIP_CFG_EN n) && s.hub.flag (TRG_TRIP_STAT_LATCHED n) && !s.hub.tripCond n
      k.flag (TRG_TRIP_STAT_LATCHED n) = (s.hub.flag (TRG_TRIP_STAT_LATCHED n) && !clears) ∧
      k.flag (TRG_TRIP_STAT_PERMIT n) =
        (s.hub.flag (TRG_TRIP_STAT_PERMIT n) || (clears && s.hub.flag (TRG_TRIP_STAT_DRIVEN n) && !s.hub.pwr.draining)) ∧
      Framed (fun r => ∃ i < 16, r = TRG_TRIP_STAT i) (.trg :: eventParts) s.hub k := by
  refine liveWrite_completes (f := Hub.clearTrips 0 m) rfl ha hp (fun _ hk => hk) ?_
  obtain ⟨-, -, -, hshut⟩ := ha
  obtain ⟨htrips, hlatched, hpermit⟩ := Hub.clearTrips_shows 0 m hn (h := s.hub.passTime) hshut
  have hclears : (bit m n && s.hub.passTime.clearable n) =
      (bit m n && s.hub.flag (TRG_TRIP_CFG_EN n) && s.hub.flag (TRG_TRIP_STAT_LATCHED n) && !s.hub.tripCond n) := by
    rw [Bool.and_assoc, Bool.and_assoc, ← Bool.and_assoc (s.hub.flag _)]
    rfl
  rw [hclears] at hlatched hpermit
  exact ⟨hlatched, hpermit, htrips.framed⟩

theorem permit_completes {s : State} (ha : s.hub.awake) {n : Nat} (hn : n < 16) (hw : s.hub.trg.permitDue.getLsbD n = true)
    (hc : s.hub.tripCond n = false) (hl : s.hub.flag (TRG_TRIP_STAT_LATCHED n) = false)
    (hd : s.hub.flag (TRG_TRIP_STAT_DRIVEN n) = true) (hq : s.hub.pwr.draining = false) : Completes (.permit n) s fun k =>
      k.flag (TRG_TRIP_STAT_PERMIT n) = true ∧ (s.hub.flag (TRG_TRIP_STAT_PERMIT n) = false → k.tripPin n = some false) ∧
      k.trg.permitDue.getLsbD n = false ∧ Framed (among [TRG_TRIP_STAT n]) (.trg :: eventParts) s.hub k := by
  refine completes_onHub rfl ha ?_
  obtain ⟨-, -, -, hshut⟩ := ha
  rw [Hub.permit_eq (h := s.hub.passTime) hw hc hl]
  set h := s.hub.passTime.endWait n
  have hflag (f : Fld) : h.flag f = s.hub.flag f := (Hub.flag_withTrg ..).trans (Hub.flag_passTime ..)
  have hheld : h.heldLow = false := by
    have : h.heldLow = (s.hub.pwr.shutdown || s.hub.pwr.draining) := rfl
    rw [this, hshut, hq, Bool.or_self]
  have hframe := Hub.framed_startCarrier n h hn
  refine ⟨?_, fun hp => ?_, ?_, ?_⟩
  · rw [Hub.flag_wrapTime, Hub.permit_startCarrier, hflag, hflag, hd, hheld, Bool.not_false, Bool.and_true, Bool.or_true]
  · have hpwr : (h.startCarrier n).pwr = s.hub.pwr := hframe.2 .pwr (by simp)
    refine Hub.tripPin_of_starting ?_ ((congrArg Power.shutdown hpwr).trans hshut) ((congrArg Power.draining hpwr).trans hq) ?_
    · rw [Hub.flag_wrapTime, Hub.flag_startCarrier_disjoint _ _ (.inr (by decide : 31 ≤ 31)), hflag, hd]
    · rw [Hub.wrapTime_trg, Hub.startCarrier_started ((hflag _).trans hd) hheld ((hflag _).trans hp), (Hub.waits_reportCarrier ..).1]
      exact Hub.getLsbD_or_twoPow _ hn
  · rw [Hub.wrapTime_trg, Hub.permitDue_startCarrier]
    exact Hub.getLsbD_and_not_twoPow _
  · exact (((Hub.framed_withTrg ..).trans hframe).mono (by simp) (by simp)).timed

/-- Settles O22: a trip, a clear and a permit each change what one output shows, and none of them changes its condition. -/
theorem tripOutputs : Obligations.TripOutputs := fun _ _ ha hn =>
  ⟨fun _ hf he hc hl => tripped_completes ha hf he hc hl, fun _ m hp => tripClr_completes ha hp hn m,
    fun hw hc hl hd hq => permit_completes ha hn hw hc hl hd hq⟩

end Sys2Proof.Machine
end
section
/-!
PROOFS. What streams do leaves the rest of the hub alone (R241-R261): a record or a set that enters a stream writes registers of blocks 7
and 8, the rings, the link's account of frames in flight, and what events write.
-/

namespace Sys2Proof.Machine

/-- The registers of the Cistern and of the Siphon, blocks 7 and 8. -/
abbrev streamRegs : Nat → Prop := inBlocks [7, 8]

/-- From `h` to `k` only streams move. -/
def StreamsOnly (h k : Hub) : Prop := Framed streamRegs (.cis :: .wl :: eventParts) h k

/-! ### Registers of streams -/

theorem streamRegs_ringStat {s : Nat} (hs : s < 128) : streamRegs (CIS_RING_STAT s) := by
  simp only [CIS_RING_STAT, List.mem_cons]; omega

theorem streamRegs_seq {s : Nat} (hs : s < 128) : streamRegs (CIS_SEQ s) := by
  simp only [CIS_SEQ, List.mem_cons]; omega

theorem streamRegs_gapCnt {s : Nat} (hs : s < 128) : streamRegs (CIS_GAP_CNT s) := by
  simp only [CIS_GAP_CNT, List.mem_cons]; omega

theorem streamRegs_streamStat {s : Nat} (hs : s < 128) : streamRegs (SIP_STREAM_STAT s) := by
  simp only [SIP_STREAM_STAT, List.mem_cons]; omega

theorem streamRegs_unitStat {u : Nat} (hu : u < 2) : streamRegs (SIP_UNIT_STAT_W0 u) ∧ streamRegs (SIP_UNIT_STAT_W1 u) := by
  simp only [SIP_UNIT_STAT_W0, SIP_UNIT_STAT_W1, List.mem_cons]; omega

theorem Hub.unitOf_lt (h : Hub) (s : Nat) : h.unitOf s < 2 := by
  rw [Hub.unitOf]
  split_ifs <;> omega

namespace StreamsOnly

/-! ### How such steps compose -/

theorem of_framed {r : Nat → Prop} {ps : List Part} {h k : Hub} (hf : Framed r ps h k) (hr : ∀ a, r a → streamRegs a)
    (hp : ps ⊆ .cis :: .wl :: eventParts) : StreamsOnly h k := hf.mono hr hp

theorem refl (h : Hub) : StreamsOnly h h := of_framed (framed_refl h) (fun _ hf => hf.elim) (by simp)

theorem trans {h k l : Hub} (a : StreamsOnly h k) (b : StreamsOnly k l) : StreamsOnly h l := (Framed.trans a b).mono (by simp) (by simp)

theorem ite {h k l : Hub} {c : Prop} [Decidable c] (hk : StreamsOnly h k) (hl : StreamsOnly h l) : StreamsOnly h (if c then k else l) := by
  split_ifs
  · exact hk
  · exact hl

theorem foldl {β : Type} {f : Hub → β → Hub} (hf : ∀ k b, StreamsOnly k (f k b)) (l : List β) (h : Hub) : StreamsOnly h (l.foldl f h) :=
  framed_foldl hf l h

theorem put {h k : Hub} (a : StreamsOnly h k) {f : Fld} (v : Nat) (hf : streamRegs f.addr) : StreamsOnly h (k.put f v) :=
  a.trans (of_framed (framed_put k f v) (fun _ ha => ha ▸ hf) (by simp))

theorem raiseAt {h k : Hub} (a : StreamsOnly h k) (m : MT) (src cause : Nat) (d : List Nat) : StreamsOnly h (k.raiseAt m src cause d) :=
  a.trans (of_framed (framed_raiseAt k m src cause d) (fun _ hf => hf.elim) (by simp))

theorem raise {h k : Hub} (a : StreamsOnly h k) (src cause : Nat) (d : List Nat) : StreamsOnly h (k.raise src cause d) := a.raiseAt ..

theorem tally {h k : Hub} (a : StreamsOnly h k) (i n : Nat) : StreamsOnly h (k.tally i n) :=
  a.trans (of_framed (framed_tally k i n) (fun _ hf => hf.elim) (by simp))

theorem withCis {h k : Hub} (a : StreamsOnly h k) (x : Cistern) : StreamsOnly h { k with cis := x } :=
  a.trans ⟨fun _ _ => rfl, fun p hp => by cases p <;> simp_all [Part.same]⟩

theorem withWl {h k : Hub} (a : StreamsOnly h k) (x : Link) : StreamsOnly h { k with wl := x } :=
  a.trans (of_framed (Hub.framed_withWl k x) (fun _ hf => hf.elim) (by simp))

theorem setRing {h k : Hub} (a : StreamsOnly h k) (s : Nat) (r : Ring) : StreamsOnly h (k.setRing s r) := a.withCis _

/-! ### Packets -/

section

variable {s : Nat} (hs : s < 128)
include hs

theorem refreshRing (h : Hub) : StreamsOnly h (h.refreshRing s) := by
  have hreg := streamRegs_ringStat hs
  have hshown (st level : Nat) : StreamsOnly h ((h.put (CIS_RING_STAT_STATE s) st).put (CIS_RING_STAT_LEVEL s) level) :=
    ((refl h).put _ hreg).put _ hreg
  exact ite (((hshown ..).put _ hreg).raise ..) (ite ((hshown ..).put _ hreg) (hshown ..))

theorem placeGap (h : Hub) (g : Gap) : StreamsOnly h (h.placeGap s g) :=
  ((((((refl h).withCis _).setRing ..).put _ (streamRegs_seq hs)).put _ (streamRegs_gapCnt hs)).tally ..).raise ..

theorem writeGap (h : Hub) (g : Gap) : StreamsOnly h (h.writeGap s g) := ite ((refl h).setRing ..) (placeGap hs h g)

theorem placeGaps (h : Hub) : StreamsOnly h (h.placeGaps s) :=
  ((refl h).setRing ..).trans (foldl (fun k g => placeGap hs k g) _ _)

theorem issueCredit (h : Hub) : StreamsOnly h (h.issueCredit s) := by
  rw [Hub.issueCredit]
  refine ite ?_ ((refl h).setRing ..)
  split
  · exact ((refl h).setRing ..).trans (writeGap hs _ _)
  · exact (refl h).setRing ..

theorem flushNow (h : Hub) : StreamsOnly h (h.flushNow s) :=
  (((((refl h).setRing ..).trans (writeGap hs _ _)).raise ..).tally ..).trans ((issueCredit hs _).trans (refreshRing hs _))

end

theorem codeBlock (h : Hub) (s : Nat) : StreamsOnly h (h.codeBlock s true true) := by
  have hu := streamRegs_unitStat (h.unitOf_lt s)
  rw [Hub.codeBlock]
  split
  · exact refl h
  · refine ite (refl h) ?_
    exact ((((((refl h).setRing ..).put _ hu.2).tally ..).tally ..).tally ..).tally ..

theorem codeRest (s n : Nat) (h : Hub) : StreamsOnly h (h.codeRest s n) := by
  induction n generalizing h with
  | zero => exact refl h
  | succ n ih => exact (codeBlock h s).trans (ih _)

theorem loseFrame (h : Hub) (s k : Nat) : StreamsOnly h (h.loseFrame s k) := by
  rw [Hub.loseFrame]
  split
  · exact refl h
  · exact (refl h).withWl _

theorem markStart (h : Hub) (s : Nat) : StreamsOnly h (h.markStart s) := (refl h).setRing ..

section

variable {s : Nat} (hs : s < 128)
include hs

theorem enterRing (h : Hub) (p : OpenPkt) (pk : Packet) : StreamsOnly h (h.enterRing s p pk) := by
  have hstat := streamRegs_streamStat hs
  have hring {k : Hub} (a : StreamsOnly h k) (v w : Nat) : StreamsOnly h
      (if p.ratio = 0 then k else (k.put (SIP_STREAM_STAT_SHIFT_MAX s) v).put (SIP_STREAM_STAT_UNIT s) w) :=
    ite a ((a.put v hstat).put w hstat)
  exact ((ite (((hring (((refl h).withCis _).setRing ..) _ _).tally ..).withWl _)
    (hring (((refl h).withCis _).setRing ..) _ _)).tally ..).tally ..

theorem closePacket (h : Hub) (stop : Bool) : StreamsOnly h (h.closePacket s stop) := by
  rw [Hub.closePacket]
  split
  · exact refl h
  · rename_i p0 hp
    have hcoded := (ite (c := p0.ratio = 0) (refl h) (codeRest s ((p0.conts.length - p0.coded + 31) / 32) h)).put
      (f := CIS_SEQ_NEXT s)
    refine trans ?_ (ite (flushNow hs _) ((issueCredit hs _).trans (refreshRing hs _)))
    refine trans ?_ (placeGaps hs _)
    refine ite ((hcoded _ (streamRegs_seq hs)).setRing .. |>.tally ..) (ite ?_ ?_)
    · exact (ite ((hcoded _ (streamRegs_seq hs)).trans (loseFrame ..)) (hcoded _ (streamRegs_seq hs))).setRing ..
    · exact (hcoded _ (streamRegs_seq hs)).trans (enterRing hs ..)

theorem openPacket (h : Hub) (pos : Nat) (k : Delivery) : StreamsOnly h (h.openPacket s pos k) := by
  have hstat := streamRegs_streamStat hs
  exact ite ((((refl h).setRing ..).put _ hstat).put _ hstat) ((refl h).setRing ..)

theorem putCont (h : Hub) (pos : Nat) (k : Delivery) (c : Cont) : StreamsOnly h (h.putCont s pos k c) := by
  have hopened : StreamsOnly h (if (h.ring s).open?.isNone then h.openPacket s pos k else h) := ite (openPacket hs ..) (refl h)
  rw [Hub.putCont]
  split
  · exact hopened
  · exact ite ((hopened.setRing ..).trans (closePacket hs ..)) (hopened.setRing ..)

theorem putConts (pos : Nat) (k : Delivery) (cs : List Cont) (h : Hub) : StreamsOnly h (h.putConts s pos k cs) := by
  induction cs generalizing h pos with
  | nil => exact refl h
  | cons c cs ih => exact (putCont hs ..).trans (ih ..)

theorem putRecord (h : Hub) (mt : MT) (ws : List Word) : StreamsOnly h (h.putRecord s mt ws) := by
  have hopened {k : Hub} (a : StreamsOnly h k) (d : Delivery) : StreamsOnly h (if (k.ring s).open?.isNone then k.openPacket s 0 d else k) :=
    ite (a.trans (openPacket hs ..)) a
  have hcounted {k : Hub} (a : StreamsOnly h k) (r : Ring) : StreamsOnly h (if s = 0 then (k.setRing s r).tally 131 1 else k.setRing s r) :=
    ite ((a.setRing ..).tally ..) (a.setRing ..)
  rw [Hub.putRecord]
  split
  · exact hopened (ite (refl h) (closePacket hs ..)) _
  · refine ite ((hcounted (hopened (ite (refl h) (closePacket hs ..)) _) _).trans (closePacket hs ..)) ?_
    exact hcounted (hopened (ite (refl h) (closePacket hs ..)) _) _

theorem putRecords (rs : List (MT × List Word)) (h : Hub) : StreamsOnly h (h.putRecords s rs) :=
  foldl (fun k (p : MT × List Word) => putRecord hs k p.1 p.2) rs h

/-! ### Sets, stops and records -/

theorem endSet (h : Hub) : StreamsOnly h (h.endSet s) :=
  (ite (((refl h).setRing ..).trans (closePacket hs ..)) ((refl h).setRing ..)).trans (putRecords hs ..)

theorem finishStop (h : Hub) : StreamsOnly h (h.finishStop s) := by
  rw [Hub.finishStop]
  split
  · exact refl h
  · extract_lets _ h₁ h₂ _ h₃ h₄ h₅ _
    have hset : StreamsOnly h h₁ := ite ((refl h).setRing ..) (endSet hs h)
    have hstop : StreamsOnly h h₄ :=
      (((hset.trans (closePacket hs ..)).setRing ..).raiseAt ..).trans (refreshRing hs _)
    have hmark : StreamsOnly h h₅ := hstop.trans (markStart _ s)
    exact ite hstop (ite ((hmark.setRing ..).trans (putRecords hs ..)) hmark)

theorem offered (h : Hub) (t : Int) : StreamsOnly h (h.offered s t) := foldl (fun k _ => finishStop hs k) _ _

theorem settleStop (h : Hub) : StreamsOnly h (h.settleStop s) := ite (refl h) (foldl (fun k _ => finishStop hs k) _ _)

theorem cutPacket (h : Hub) (k : Delivery) : StreamsOnly h (h.cutPacket s k) := (ite (closePacket hs ..) (refl h)).setRing ..

theorem produceSet (h : Hub) (k : Delivery) : StreamsOnly h (h.produceSet s k) := by
  have hoffered := offered hs h k.slot
  exact ite ((refl h).setRing ..) (ite hoffered (hoffered.trans ((cutPacket hs ..).trans (putConts hs ..))))

theorem produceRecord (h : Hub) (mt : MT) (ws : List Word) : StreamsOnly h (h.produceRecord s mt ws) := by
  have hoffered : StreamsOnly h (if h.flag TRG_SP_CFG_EN && h.fld TRG_SP_CFG_STREAM == s then h.offered s (h.slotOf mt) else h) :=
    ite (offered hs ..) (refl h)
  refine ite ((refl h).setRing ..) (ite (refl h) (ite (putRecord hs ..) (ite hoffered (ite (hoffered.setRing ..) ?_))))
  exact ite (hoffered.setRing ..) (hoffered.trans (putRecord hs ..))

end

end StreamsOnly

end Sys2Proof.Machine
end
section
/-!
PROOFS. The evaluation of a frame: what it shows of the triggers, and that neither the bursts and marks of its fires nor the emission change
that (R206, R208, R210, R211, R215-R217, R221-R225); what settles O20.
-/

namespace Sys2Proof.Machine

/-! ### What the fires of a frame leave alone -/

/-- From `h` to `k` what the last evaluation showed stands: the triggers shown as fired, the frames that wait, the frame evaluated, its
vector. -/
structure EvaluationStands (h k : Hub) : Prop where
  fired : k.fld TRG_STAT_FIRED = h.fld TRG_STAT_FIRED
  ticks : k.trg.closedWin.map Window.tick = h.trg.closedWin.map Window.tick
  lastEval : k.trg.lastEval = h.trg.lastEval
  prevVec : k.trg.prevVec = h.trg.prevVec

theorem framed_withSp (h : Hub) (x : Standpipe) : Framed (fun _ => False) [.sp] h { h with sp := x } :=
  ⟨fun _ _ => rfl, fun p hp => by cases p <;> simp_all [Part.same]⟩

namespace EvaluationStands

theorem refl (h : Hub) : EvaluationStands h h := ⟨rfl, rfl, rfl, rfl⟩

theorem trans {h k l : Hub} (a : EvaluationStands h k) (b : EvaluationStands k l) : EvaluationStands h l :=
  ⟨b.fired.trans a.fired, b.ticks.trans a.ticks, b.lastEval.trans a.lastEval, b.prevVec.trans a.prevVec⟩

theorem ite {h k l : Hub} {c : Prop} [Decidable c] (hk : EvaluationStands h k) (hl : EvaluationStands h l) :
    EvaluationStands h (if c then k else l) := by
  split_ifs
  · exact hk
  · exact hl

theorem foldl {β : Type} {f : Hub → β → Hub} (hf : ∀ k b, EvaluationStands k (f k b)) (l : List β) (h : Hub) :
    EvaluationStands h (l.foldl f h) := by
  induction l generalizing h with
  | nil => exact refl h
  | cons b l ih => exact (hf h b).trans (ih _)

theorem iteSnd {α : Type} {h : Hub} {x y : α × Hub} {c : Prop} [Decidable c] (hx : EvaluationStands h x.2) (hy : EvaluationStands h y.2) :
    EvaluationStands h (if c then x else y).2 := by
  split_ifs
  · exact hx
  · exact hy

theorem of_framed {r : Nat → Prop} {ps : List Part} {h k : Hub} (hf : Framed r ps h k) (hr : ¬ r TRG_STAT) (hp : .trg ∉ ps) :
    EvaluationStands h k := by
  have htrg : k.trg = h.trg := hf.2 .trg hp
  exact ⟨hf.fld_eq hr, by rw [htrg], by rw [htrg], by rw [htrg]⟩

theorem of_streams {h k : Hub} (a : StreamsOnly h k) : EvaluationStands h k := of_framed a (by decide) (by simp)

theorem bump {h k : Hub} (a : EvaluationStands h k) {f : Fld} (n : Nat) (hf : TRG_STAT ≠ f.addr) : EvaluationStands h (k.bump f n) :=
  a.trans (of_framed (framed_bump k f n) hf (by simp))

theorem raise {h k : Hub} (a : EvaluationStands h k) (src cause : Nat) (d : List Nat) : EvaluationStands h (k.raise src cause d) :=
  a.trans (of_framed (framed_raise k src cause d) id (by simp))

theorem withSp {h k : Hub} (a : EvaluationStands h k) (x : Standpipe) : EvaluationStands h { k with sp := x } :=
  a.trans (of_framed (framed_withSp k x) id (by simp))

theorem showStandpipe {h k : Hub} (a : EvaluationStands h k) : EvaluationStands h k.showStandpipe :=
  a.trans (of_framed (Hub.framed_showStandpipe k) (by decide) (by simp))

theorem withTrg (h : Hub) (x : Trig) (ht : x.closedWin.map Window.tick = h.trg.closedWin.map Window.tick)
    (hl : x.lastEval = h.trg.lastEval) (hv : x.prevVec = h.trg.prevVec) : EvaluationStands h { h with trg := x } :=
  ⟨Hub.fld_withTrg .., ht, hl, hv⟩

/-! ### Bursts (R220-R222) -/

theorem noBurst (h : Hub) (t : Nat) : EvaluationStands h (h.noBurst t) := by
  have hcount : EvaluationStands h (h.bump TRG_SP_CNT_NO_BURST 1) := (refl h).bump 1 (by decide)
  rw [Hub.noBurst]
  refine hcount.trans (ite (withTrg _ _ (by rfl) (by rfl) (by rfl)) ?_)
  exact ((withTrg _ _ (by rfl) (by rfl) (by rfl)).showStandpipe).raise ..

theorem fixBurst (h : Hub) (e reason : Nat) : EvaluationStands h (h.fixBurst e reason) := by
  rw [Hub.fixBurst]
  split
  · exact refl h
  · exact ite (refl h) ((refl h).withSp _)

theorem limitBurst (h : Hub) (e : Nat) : EvaluationStands h (h.limitBurst e) := by
  rw [Hub.limitBurst]
  split
  · exact ite (fixBurst ..) (refl h)
  · exact refl h

theorem limitSeries (h : Hub) (frame : Nat) : EvaluationStands h (h.limitSeries frame) :=
  ite (limitBurst ..) (ite (limitBurst ..) (refl h))

theorem joinBurst (h : Hub) (b : Burst) (t frame : Nat) : EvaluationStands h (h.joinBurst b t frame).2 := by
  rw [Hub.joinBurst]
  extract_lets need
  split_ifs
  · exact noBurst ..
  · exact ((refl h).withSp _).trans (limitSeries ..)

theorem openBurst (h : Hub) (t frame : Nat) (m : MT) : EvaluationStands h (h.openBurst t frame m) := by
  have hshown {k : Hub} (a : EvaluationStands h k) (n : Nat) :
      EvaluationStands h ((k.bump TRG_SP_CNT_BURSTS 1).put TRG_SP_STAT_BURST_ID n) :=
    (a.bump 1 (by decide)).trans (of_framed (framed_put _ TRG_SP_STAT_BURST_ID n) (by decide) (by simp))
  exact (ite ((hshown ((refl h).withSp _) _).bump 1 (by decide)) (hshown ((refl h).withSp _) _)).trans (limitSeries ..)

theorem burstOf (h : Hub) (t frame : Nat) (m : MT) (shared : Option Hub.BurstOutcome) : EvaluationStands h (h.burstOf t frame m shared).2 := by
  unfold Hub.burstOf
  refine iteSnd (refl h) (iteSnd (noBurst ..) ?_)
  cases h.sp.burst with
  | none => exact iteSnd (noBurst ..) (openBurst ..)
  | some b =>
    cases shared with
    | none => exact joinBurst ..
    | some o => exact iteSnd (noBurst ..) ((refl h).withSp _)

/-! ### Marks, and triggers that disarm (R209, R216) -/

theorem sendMark (h : Hub) (t : Nat) (m : MT) (ws : List Word) : EvaluationStands h (h.sendMark t m ws) := by
  have hservice := StreamsOnly.produceRecord (by decide : 0 < 128) h m ws
  exact of_streams (StreamsOnly.ite hservice (hservice.trans (StreamsOnly.produceRecord (Hub.fld_lt _ (TRG_CFG_MARK_STREAM t)) ..)))

theorem onWindowNow (h : Hub) (f : Window → Window) : EvaluationStands h (h.onWindowNow f) := by
  rw [Hub.onWindowNow]
  split
  · exact ite (withTrg _ _ (by rfl) (by rfl) (by rfl)) (refl h)
  · exact refl h

theorem disarmTrigger (h : Hub) (cause t : Nat) : EvaluationStands h (h.disarmTrigger cause t) := by
  have hput (n : Nat) : EvaluationStands h (h.put TRG_STAT_ARMED n) :=
    ⟨Hub.fld_put_disjoint _ _ _ _ (by decide) (by decide), rfl, rfl, rfl⟩
  exact ite (refl h) (((hput _).trans (onWindowNow ..)).raise ..)

theorem takeFire (h : Hub) (w : Window) (m : MT) (coarse : Bool) (f : Fire) (shared : Option Hub.BurstOutcome) :
    EvaluationStands h (h.takeFire w m coarse f shared).2 := by
  have hburst := burstOf h f.trg w.frame m shared
  have hcounted (ws : List Word) : EvaluationStands h
      (((h.burstOf f.trg w.frame m shared).2.sendMark f.trg m ws).bump (TRG_FIRE_CNT_FIRES f.trg) 1) :=
    (hburst.trans (sendMark ..)).bump 1 (by simp only [TRG_FIRE_CNT_FIRES, TRG_FIRE_CNT, TRG_STAT]; omega)
  rw [Hub.takeFire]
  refine iteSnd (((hcounted _).trans (disarmTrigger ..)).trans (withTrg _ _ ?_ (by rfl) (by rfl))) (hcounted _)
  exact List.map_map

end EvaluationStands

/-! ### Emission (R225) -/

/-- From `h` to `k` the Standpipe emits: its streams move, the frames of its bursts go, and no burst opens or closes. -/
structure Emits (h k : Hub) : Prop where
  framed : Framed streamRegs (.sp :: .cis :: .wl :: eventParts) h k
  lastEnd : k.sp.lastEnd = h.sp.lastEnd
  rearmTo : k.sp.rearmTo = h.sp.rearmTo
  idle : h.sp.burst = none → k.sp.burst = none

namespace Emits

theorem refl (h : Hub) : Emits h h := ⟨(framed_refl h).mono (fun _ hf => hf.elim) (by simp), rfl, rfl, id⟩

theorem trans {h k l : Hub} (a : Emits h k) (b : Emits k l) : Emits h l :=
  ⟨(a.framed.trans b.framed).mono (by simp) (by simp), b.lastEnd.trans a.lastEnd, b.rearmTo.trans a.rearmTo, b.idle ∘ a.idle⟩

theorem of_streams {h k : Hub} (a : StreamsOnly h k) : Emits h k := by
  have hsp : k.sp = h.sp := a.2 .sp (by simp)
  exact ⟨a.mono (by simp) (by simp), by rw [hsp], by rw [hsp], fun hb => by rw [hsp, hb]⟩

theorem withSp (h : Hub) (x : Standpipe) (he : x.lastEnd = h.sp.lastEnd) (hr : x.rearmTo = h.sp.rearmTo)
    (hb : h.sp.burst = none → x.burst = none) : Emits h { h with sp := x } :=
  ⟨(framed_withSp h x).mono (fun _ hf => hf.elim) (by simp), he, hr, hb⟩

theorem emitFrame (b : Burst) (h : Hub) : Emits h (h.emitFrame b).2 := by
  have hs := h.fld_lt TRG_SP_CFG_STREAM
  have hopen : StreamsOnly h (if b.emit.isNone then h.produceRecord (h.fld TRG_SP_CFG_STREAM) b.mt (h.burstOpenRecord b) else h) :=
    .ite (.produceRecord hs ..) (.refl h)
  rw [Hub.emitFrame]
  dsimp only
  split
  · exact of_streams hopen
  · exact of_streams (hopen.trans (.produceSet hs ..))

theorem emitClose (h : Hub) (b : Burst) (rest : List Burst) : Emits h (h.emitClose b rest) := by
  have hs := h.fld_lt TRG_SP_CFG_STREAM
  exact (withSp h { h.sp with queue := rest } rfl rfl id).trans
    (of_streams ((StreamsOnly.produceRecord hs ..).trans (.settleStop hs _)))

theorem emitBurst (h : Hub) : Emits h h.emitBurst := by
  rw [Hub.emitBurst]
  split
  · dsimp only
    split_ifs
    · exact (emitFrame ..).trans (emitClose ..)
    · exact (emitFrame ..).trans (withSp _ _ (by rfl) (by rfl) id)
  · cases hb : h.sp.burst with
    | none => exact refl h
    | some b =>
      dsimp only
      split_ifs
      · exact refl h
      · have hframe := emitFrame b h
        exact ⟨(hframe.framed.trans (framed_withSp ..)).mono (by simp) (by simp), hframe.lastEnd, hframe.rearmTo, fun h0 => by simp [h0] at hb⟩

theorem finishEmission (h : Hub) : Emits h h.finishEmission := by
  rw [Hub.finishEmission]
  split
  · split_ifs
    · exact emitClose ..
    · exact refl h
  · exact refl h

end Emits

namespace Hub

/-! ### The triggers shown as fired (R208) -/

/-- The triggers of the fires, one bit each. -/
def firedMask (fs : List Fire) : Nat := fs.foldl (fun n f => n + 2 ^ f.trg) 0

/-- Where each trigger fires at most once, its bit says whether it does. -/
theorem firedMask_filterMap {g : Nat → Option Fire} (hg : ∀ t f, g t = some f → f.trg = t) (n : Nat) :
    firedMask ((List.range n).filterMap g) < 2 ^ n ∧
      ∀ t < n, (firedMask ((List.range n).filterMap g)).testBit t = (g t).isSome := by
  induction n with
  | zero => exact ⟨Nat.one_pos, fun t ht => absurd ht (Nat.not_lt_zero t)⟩
  | succ n ih =>
    obtain ⟨hlt, hbits⟩ := ih
    rw [List.range_succ, List.filterMap_append]
    cases hn : g n with
    | none =>
      rw [List.filterMap_cons_none hn, List.filterMap_nil, List.append_nil]
      refine ⟨hlt.trans (Nat.pow_lt_pow_succ one_lt_two), fun t ht => ?_⟩
      rcases Nat.lt_succ_iff_lt_or_eq.mp ht with ht | rfl
      · exact hbits t ht
      · rw [Nat.testBit_lt_two_pow hlt, hn, Option.isSome_none]
    | some f =>
      have hstep : firedMask ((List.range n).filterMap g ++ [f]) = 2 ^ n + firedMask ((List.range n).filterMap g) := by
        rw [firedMask, List.foldl_append, List.foldl_cons, List.foldl_nil, hg n f hn, ← firedMask, Nat.add_comm]
      rw [List.filterMap_cons_some hn, List.filterMap_nil, hstep]
      refine ⟨by rw [Nat.pow_succ]; omega, fun t ht => ?_⟩
      rcases Nat.lt_succ_iff_lt_or_eq.mp ht with ht | rfl
      · rw [Nat.testBit_two_pow_add_gt ht, hbits t ht]
      · rw [Nat.testBit_two_pow_add_eq, Nat.testBit_lt_two_pow hlt, hn, Option.isSome_some, Bool.not_false]

theorem bit_firedMask (h : Hub) (w : Window) {t : Nat} (ht : t < 16) :
    bit (firedMask (h.firesOf w) % 2 ^ 16) t = (h.firesIn w (h.stateVector w) t).isSome := by
  rw [bit_mod_two_pow _ ht, bit_eq_testBit]
  exact (firedMask_filterMap (fun _ _ => trg_of_firesIn) 16).2 t ht

/-! ### The steps of an evaluation (R206) -/

/-- The oldest frame, of window `w`, leaves those that wait: its vector and its matches become the previous ones, and the flags of its fires
stand for one frame period (R206, R208, R230). -/
def dequeueFrame (w : Window) (h : Hub) : Hub :=
  let matched := (List.range 16).foldl (fun (n : Nat) t =>
    if w.armed.getLsbD t && patternMatches (h.stateVector w) (windowPattern w t) then n + 2 ^ t else n) 0
  { h with trg := { h.trg with
    closedWin := h.trg.closedWin.drop 1, lastEval := some w.frame, prevVec := h.stateVector w
    prevMatch := BitVec.ofNat 16 matched
    fireEnds := (h.firesOf w).foldl (fun (m : SMap Nat) f => SMap.insert m f.trg (h.mt.clock + h.framePeriod)) h.trg.fireEnds } }

/-- The fires are shown, and every trigger's holdoff and count of turns move on (R208, R210, R211). -/
def showFires (w : Window) (fs : List Fire) (h : Hub) : Hub :=
  (List.range 16).foldl (fun (h : Hub) t => h.countAuto w (bit (firedMask fs) t) t) (h.put TRG_STAT_FIRED (firedMask fs))

/-- The fires get their bursts and marks, with one MT (R215-R217, R221, R222). -/
def markFires (w : Window) (fs : List Fire) (h : Hub) : Hub :=
  let coarse := decide (2 ≤ fs.length) && fs.any fun f => f.fine.isNone
  (fs.foldl (fun (p : Option BurstOutcome × Hub) f => p.2.takeFire w (h.sharedTime w fs) coarse f p.1) (none, h)).2

/-- A burst whose last frame is evaluated closes (R222). -/
def closeEnded (frame : Nat) (h : Hub) : Hub :=
  match h.sp.burst with
  | some b => if b.last ≤ frame then h.closeBurst else h
  | none => h

/-- The evaluation of the oldest frame, whose 800 ns have passed, step by step. -/
theorem evaluate_eq {h : Hub} {w : Window} {rest : List Window} (hw : h.trg.closedWin = w :: rest) (hn : w.tick + h.slots800ns ≤ h.now) :
    h.evaluate = ((((h.dequeueFrame w).showFires w (h.firesOf w)).markFires w (h.firesOf w)).closeEnded w.frame).finishEmission.emitBurst.showStandpipe := by
  unfold evaluate
  split
  · rename_i h0
    exact absurd (hw.symm.trans h0) (by simp)
  · rename_i w' rest' h0
    obtain ⟨rfl, -⟩ := List.cons.inj (hw.symm.trans h0)
    rw [advanceTo_of_le hn]
    rfl

theorem countAuto_keeps (h : Hub) (w : Window) (fired : Bool) (t : Nat) :
    EvaluationStands h (h.countAuto w fired t) ∧ (h.countAuto w fired t).sp = h.sp ∧ (h.countAuto w fired t).regs = h.regs := by
  rw [countAuto]
  split_ifs <;> exact ⟨.withTrg _ _ rfl rfl rfl, rfl, rfl⟩

/-- What an evaluation shows of the triggers, and that the Standpipe and the other registers have not moved yet. -/
theorem showFires_shows (w : Window) (fs : List Fire) (h : Hub) :
    EvaluationStands (h.put TRG_STAT_FIRED (firedMask fs)) (h.showFires w fs) ∧ (h.showFires w fs).sp = h.sp ∧
      (h.showFires w fs).regs = (h.put TRG_STAT_FIRED (firedMask fs)).regs :=
  ⟨.foldl (fun k t => (countAuto_keeps k w _ t).1) _ _, foldl_keeps Hub.sp (fun k t => (countAuto_keeps k w _ t).2.1) _ _,
    foldl_keeps Hub.regs (fun k t => (countAuto_keeps k w _ t).2.2) _ _⟩

theorem markFires_stands (w : Window) (fs : List Fire) (h : Hub) : EvaluationStands h (h.markFires w fs) := by
  have hfold (m : MT) (coarse : Bool) (l : List Fire) (p : Option BurstOutcome × Hub) :
      EvaluationStands p.2 (l.foldl (fun (p : Option BurstOutcome × Hub) f => p.2.takeFire w m coarse f p.1) p).2 := by
    induction l generalizing p with
    | nil => exact .refl _
    | cons f l ih => exact (EvaluationStands.takeFire ..).trans (ih _)
  exact hfold _ _ fs (none, h)

/-- A burst that closes is no longer open, and the Standpipe re-arms up to E + PRE (R222, R223). -/
theorem closeBurst_sp {h : Hub} {b : Burst} (hb : h.sp.burst = some b) : h.closeBurst.sp.burst = none ∧
    h.closeBurst.sp.lastEnd = some b.last ∧ h.closeBurst.sp.rearmTo = some (b.last + h.fld TRG_SP_DEPTH_PRE) := by
  rw [closeBurst, hb]
  dsimp only
  split_ifs <;> exact ⟨rfl, rfl, rfl⟩

theorem closeBurst_stands (h : Hub) : EvaluationStands h h.closeBurst := by
  rw [closeBurst]
  split
  · exact .refl h
  · exact .ite (((EvaluationStands.refl h).withSp _).bump 1 (by decide)) ((EvaluationStands.refl h).withSp _)

theorem closeEnded_stands (h : Hub) (frame : Nat) : EvaluationStands h (h.closeEnded frame) := by
  rw [closeEnded]
  split
  · exact .ite (closeBurst_stands h) (.refl h)
  · exact .refl h

theorem closeEnded_of_le {h : Hub} {b : Burst} (hb : h.sp.burst = some b) {frame : Nat} (hf : b.last ≤ frame) :
    h.closeEnded frame = h.closeBurst := by
  rw [closeEnded, hb]
  exact if_pos hf

/-- Emission, and what TRG.SP_STAT shows after it. -/
theorem emission_stands (h : Hub) : EvaluationStands h h.finishEmission.emitBurst.showStandpipe :=
  (EvaluationStands.of_framed ((Emits.finishEmission h).trans (.emitBurst _)).framed (by decide) (by simp)).showStandpipe

section

variable {h : Hub} {w : Window} {rest : List Window} (hw : h.trg.closedWin = w :: rest) (hn : w.tick + h.slots800ns ≤ h.now)
include hw hn

/-- The oldest frame is evaluated, and the triggers that fire in it are those shown. -/
theorem evaluate_shows : (∀ t < 16, bit (h.evaluate.fld TRG_STAT_FIRED) t = (h.firesIn w (h.stateVector w) t).isSome) ∧
    h.evaluate.trg.closedWin.map Window.tick = rest.map Window.tick ∧ h.evaluate.trg.lastEval = some w.frame ∧
    h.evaluate.trg.prevVec = h.stateVector w := by
  set fs := h.firesOf w
  have hstands : EvaluationStands ((h.dequeueFrame w).put TRG_STAT_FIRED (firedMask fs)) h.evaluate := by
    rw [evaluate_eq hw hn]
    exact ((showFires_shows w fs _).1.trans (markFires_stands w fs _)).trans ((closeEnded_stands _ w.frame).trans (emission_stands _))
  refine ⟨fun t ht => ?_, hstands.ticks.trans ?_, hstands.lastEval, hstands.prevVec⟩
  · rw [hstands.fired, fld_put_self _ _ _ (by decide)]
    exact bit_firedMask h w ht
  · rw [put_trg, dequeueFrame, hw]
    rfl

/-- Where nothing fires, the burst whose last frame this is closes. -/
theorem evaluate_closes (hq : h.firesOf w = []) {b : Burst} (hb : h.sp.burst = some b) (hlast : b.last = w.frame) :
    h.evaluate.sp.burst = none ∧ h.evaluate.sp.lastEnd = some w.frame ∧
      h.evaluate.sp.rearmTo = some (w.frame + h.fld TRG_SP_DEPTH_PRE) := by
  obtain ⟨-, hsp, hregs⟩ := showFires_shows w [] (h.dequeueFrame w)
  have hpre : ((h.dequeueFrame w).showFires w []).fld TRG_SP_DEPTH_PRE = h.fld TRG_SP_DEPTH_PRE := by
    rw [fld_congr hregs, fld_put_ne _ _ _ _ (by decide)]
    exact fld_withTrg ..
  rw [evaluate_eq hw hn, hq, showStandpipe_sp]
  set k := (h.dequeueFrame w).showFires w []
  have hburst : k.sp.burst = some b := (congrArg Standpipe.burst hsp).trans hb
  have hclosed : (k.markFires w []).closeEnded w.frame = k.closeBurst := closeEnded_of_le hburst hlast.le
  obtain ⟨hnone, hend, hrearm⟩ := closeBurst_sp hburst
  have hemits := (Emits.finishEmission k.closeBurst).trans (.emitBurst _)
  rw [hclosed, ← hlast, ← hpre]
  exact ⟨hemits.idle hnone, hemits.lastEnd.trans hend, hemits.rearmTo.trans hrearm⟩

end

end Hub

namespace Hub

/-! ### Time that passes changes no frame that waits -/

theorem stateVector_passTime (h : Hub) (w : Window) : h.passTime.stateVector w = h.stateVector w := by
  have hchan : h.passTime.windowChan = h.windowChan := rfl
  rw [stateVector, hchan, passTime_trg, stateVector]

theorem firesIn_passTime (h : Hub) (w : Window) (v : BitVec 608) (t : Nat) : h.passTime.firesIn w v t = h.firesIn w v t := by
  have hrose : h.passTime.bitRose = h.bitRose := rfl
  have htime : h.passTime.timeFire w v t = h.timeFire w v t := by
    unfold timeFire
    rw [hrose]
  have hfresh : h.passTime.freshMatch = h.freshMatch := rfl
  have hauto : h.passTime.autoDue = h.autoDue := rfl
  rw [firesIn_eq, firesIn_eq, htime, hfresh, hauto, passTime_trg]

theorem forcedNext_passTime (h : Hub) (t : Nat) : h.passTime.forcedNext t = h.forcedNext t := by
  unfold forcedNext
  simp only [passTime_trg, stateVector_passTime, firesIn_passTime]

theorem closesNext_of_last {h : Hub} {w : Window} {rest : List Window} {b : Burst} (hw : h.trg.closedWin = w :: rest)
    (hb : h.sp.burst = some b) (hlast : b.last = w.frame) : h.closesNext = true := by
  unfold closesNext
  rw [hw, hb]
  exact beq_iff_eq.mpr hlast

end Hub

theorem exec_forcedFire (t : Nat) (s : State) : exec (.forcedFire t) s = s.onHub fun h => if h.forcedNext t then h.evaluate else h := rfl

theorem exec_burstClose (s : State) : exec .burstClose s = s.onHub fun h => if h.closesNext then h.evaluate else h := rfl

/-- Settles O20: an evaluation is a chain of steps, of which only the first shows what fires; the rest let it stand. -/
theorem triggersFire : Obligations.TriggersFire := by
  intro s w rest ha hw hn v fires evaluated
  have hfires (t : Nat) : (s.hub.passTime.firesIn w (s.hub.passTime.stateVector w) t).isSome = true ↔ fires t := by
    rw [Hub.stateVector_passTime, Hub.firesIn_passTime, Hub.isSome_firesIn, Hub.freshMatch, Hub.autoDue]
    simp only [Bool.and_eq_true, Bool.or_eq_true, Bool.not_eq_true', bne_iff_ne, decide_eq_true_eq]
    rfl
  have hevaluated : evaluated s.hub.passTime.evaluate := by
    obtain ⟨hshown, hticks, hframe, hvec⟩ := Hub.evaluate_shows (h := s.hub.passTime) hw hn
    refine ⟨fun t ht => ?_, hticks, hframe, hvec.trans (Hub.stateVector_passTime ..)⟩
    rw [hshown t ht]
    exact hfires t
  refine ⟨completes_timeless rfl ha (fun _ hk => hk) hevaluated, fun t hforced => ?_, fun b hb hlast hnone => ?_⟩
  · refine completes_timeless (exec_forcedFire t s) ha (fun _ hk => hk) ?_
    rwa [if_pos ((Hub.forcedNext_passTime s.hub t).trans hforced)]
  · have hquiet : s.hub.passTime.firesOf w = [] := List.filterMap_eq_nil_iff.mpr fun t ht =>
      Option.not_isSome_iff_eq_none.mp fun hsome => hnone t (List.mem_range.mp ht) ((hfires t).mp hsome)
    refine completes_timeless (exec_burstClose s) ha (fun _ hk => hk) ?_
    rw [if_pos (Hub.closesNext_of_last (h := s.hub.passTime) hw hb hlast)]
    exact ⟨hevaluated, Hub.evaluate_closes (h := s.hub.passTime) hw hn hquiet hb hlast⟩

end Sys2Proof.Machine
end
section
/-!
PROOFS. The Siphon coder (R265, R267): a trial that succeeds is what the decoder needs to come within half a step of every value, the
search takes the least shift and then the lowest order at which a trial succeeds, and at shift 20 order 0 always does.
-/

namespace Sys2Proof.Machine

/-! ### Rounding and clamping -/

/-- Convergent rounding moves a quotient by at most half a divisor. -/
theorem roundConv_mul_within (n : Int) {d : Nat} (hd : 0 < d) : 2 * (roundConv n d * d - n).natAbs ≤ d := by
  have hdiv := Int.mul_ediv_add_emod n d
  have hlo := Int.emod_nonneg n (b := (d : Int)) (by omega)
  have hhi := Int.emod_lt_of_pos n (b := (d : Int)) (by omega)
  have hrem : n - n / (d : Int) * d = n % d := by rw [Int.mul_comm]; omega
  have hup : (n / (d : Int) + 1) * d = n / (d : Int) * d + d := by ring
  simp only [roundConv, hrem]
  split_ifs <;> omega

/-- Clamping to 24 bits comes no further from a 24-bit value. -/
theorem sat24_sub_natAbs_le (x : Int) {v : Int} (hlo : -8388608 ≤ v) (hhi : v ≤ 8388607) : (sat24 x - v).natAbs ≤ (x - v).natAbs := by
  simp only [sat24, clamp]
  split_ifs <;> omega

/-- What a decoder makes of the residual of a 24-bit value lies within half a step of it (R267). -/
theorem reconstructed_within (s : Nat) (p : Int) {v : Int} (hlo : -8388608 ≤ v) (hhi : v ≤ 8388607) :
    2 * (sat24 (p + roundConv (v - p) (2 ^ s) * (2 ^ s : Nat)) - v).natAbs ≤ 2 ^ s := by
  have hsat := sat24_sub_natAbs_le (p + roundConv (v - p) (2 ^ s) * (2 ^ s : Nat)) hlo hhi
  have hround := roundConv_mul_within (v - p) (Nat.two_pow_pos s)
  have hsame : p + roundConv (v - p) (2 ^ s) * (2 ^ s : Nat) - v = roundConv (v - p) (2 ^ s) * (2 ^ s : Nat) - (v - p) := by ring
  rw [hsame] at hsat
  omega

/-! ### A trial that succeeds -/

/-- A residual of `b` bits. -/
abbrev FitsBits (b : Nat) (e : Int) : Prop := -(2 ^ (b - 1) : Int) ≤ e ∧ e ≤ 2 ^ (b - 1) - 1

/-- A trial goes on with the history that its reconstruction gives, as long as the residuals fit. -/
theorem trial_cons (b o s : Nat) (v : Int) (xs : List Int) (h : Int × Int × Int) : trial b o s (v :: xs) h =
    if FitsBits b (roundConv (v - predict o h) (2 ^ s)) then
      (trial b o s xs (sat24 (predict o h + roundConv (v - predict o h) (2 ^ s) * (2 ^ s : Nat)), h.1, h.2.1)).map
        fun t => (roundConv (v - predict o h) (2 ^ s) :: t.1, t.2)
    else none := by
  rw [trial]
  push_cast
  by_cases hf : FitsBits b (roundConv (v - predict o h) (2 ^ s))
  · rw [if_pos hf, if_neg (by simp only [FitsBits] at hf; omega)]
  · rw [if_neg hf, if_pos (by simp only [FitsBits] at hf; omega)]

/-- What a successful trial gives, value by value: residuals that fit, from which the decoder comes to the coder's history, within half a
step of every value. -/
theorem decodeBlock_of_trial {b o s : Nat} {xs rs : List Int} {h h' : Int × Int × Int}
    (hx : ∀ x ∈ xs, -8388608 ≤ x ∧ x ≤ 8388607) (ht : trial b o s xs h = some (rs, h')) :
    rs.length = xs.length ∧ (∀ r ∈ rs, FitsBits b r) ∧ (decodeBlock o s rs h).2 = h' ∧
      ∀ p ∈ (decodeBlock o s rs h).1.zip xs, 2 * (p.1 - p.2).natAbs ≤ 2 ^ s := by
  induction xs generalizing h rs with
  | nil =>
    obtain ⟨rfl, rfl⟩ : rs = [] ∧ h' = h := by simpa [trial, eq_comm] using ht
    simp [decodeBlock]
  | cons v xs ih =>
    rw [trial_cons] at ht
    split_ifs at ht with hf
    obtain ⟨⟨rs', h''⟩, ht', he⟩ := Option.map_eq_some_iff.1 ht
    obtain ⟨rfl, rfl⟩ := Prod.mk.inj he
    obtain ⟨hlen, hfit, hhist, hnear⟩ := ih (fun x hm => hx x (List.mem_cons_of_mem _ hm)) ht'
    have hv := hx v List.mem_cons_self
    refine ⟨by simp [hlen], List.forall_mem_cons.2 ⟨hf, hfit⟩, hhist, ?_⟩
    simp only [decodeBlock, List.zip_cons_cons, List.forall_mem_cons]
    exact ⟨reconstructed_within s _ hv.1 hv.2, hnear⟩

/-- The decoder gives a value for each residual. -/
theorem length_decodeBlock (o s : Nat) (rs : List Int) (h : Int × Int × Int) : (decodeBlock o s rs h).1.length = rs.length := by
  induction rs generalizing h with
  | nil => rfl
  | cons e rs ih => simp [decodeBlock, ih]

/-- At shift 20 the residuals of order 0 fit every width. -/
theorem trial_shift20_ne_none {b : Nat} (hb : 5 ≤ b) {xs : List Int} (hx : ∀ x ∈ xs, -8388608 ≤ x ∧ x ≤ 8388607)
    (h : Int × Int × Int) : trial b 0 20 xs h ≠ none := by
  induction xs generalizing h with
  | nil => simp [trial]
  | cons v xs ih =>
    have hv := hx v List.mem_cons_self
    have hpow : (16 : Int) ≤ 2 ^ (b - 1) := by exact_mod_cast Nat.pow_le_pow_right (n := 2) (i := 4) (by omega) (by omega)
    have hround : 2 * (roundConv v (2 ^ 20) * 1048576 - v).natAbs ≤ 1048576 := roundConv_mul_within v (by omega)
    have hf : FitsBits b (roundConv (v - predict 0 h) (2 ^ 20)) := by
      rw [show v - predict 0 h = v from Int.sub_zero v, FitsBits]
      omega
    rw [trial_cons, if_pos hf]
    simpa using ih (fun x hm => hx x (List.mem_cons_of_mem _ hm)) _

/-! ### The search -/

/-- Of orders in ascending order the search takes the first that succeeds. -/
theorem trialOrders_eq_some {b s : Nat} {xs : List Int} {h : Int × Int × Int} {a n : Nat} {o : Nat} {t : List Int × (Int × Int × Int)}
    (hs : trialOrders b s xs h (List.range' a n) = some (o, t)) :
    o < a + n ∧ trial b o s xs h = some t ∧ ∀ q, a ≤ q → q < o → trial b q s xs h = none := by
  induction n generalizing a with
  | zero => simp [trialOrders] at hs
  | succ n ih =>
    rw [List.range'_succ, trialOrders] at hs
    cases ha : trial b a s xs h with
    | some u =>
      rw [ha] at hs
      obtain ⟨rfl, rfl⟩ : a = o ∧ u = t := by simpa using hs
      exact ⟨by omega, ha, fun q hq hq' => absurd hq (by omega)⟩
    | none =>
      rw [ha] at hs
      obtain ⟨ho, ht, hlow⟩ := ih hs
      refine ⟨by omega, ht, fun q hq hq' => ?_⟩
      rcases hq.eq_or_lt with rfl | hlt
      · exact ha
      · exact hlow q hlt hq'

/-- The search of orders fails where each of them does. -/
theorem trialOrders_eq_none {b s : Nat} {xs : List Int} {h : Int × Int × Int} {os : List Nat} (hs : trialOrders b s xs h os = none) :
    ∀ q ∈ os, trial b q s xs h = none := by
  induction os with
  | nil => simp
  | cons o os ih =>
    rw [trialOrders] at hs
    cases ho : trial b o s xs h with
    | some t => simp [ho] at hs
    | none => exact List.forall_mem_cons.2 ⟨ho, ih (by simpa [ho] using hs)⟩

/-- Of shifts in ascending order, at one of which some order succeeds, the search takes the first such. -/
theorem encodeBlock_least {b : Nat} {xs : List Int} {h : Int × Int × Int} {a n : Nat}
    (he : ∃ s ∈ List.range' a n, trialOrders b s xs h [0, 1, 2, 3] ≠ none) {o s : Nat} {t : List Int × (Int × Int × Int)}
    (hs : encodeBlock b xs h (List.range' a n) = (o, s, t)) :
    s < a + n ∧ trialOrders b s xs h [0, 1, 2, 3] = some (o, t) ∧ ∀ m, a ≤ m → m < s → trialOrders b m xs h [0, 1, 2, 3] = none := by
  induction n generalizing a with
  | zero => simp at he
  | succ n ih =>
    rw [List.range'_succ] at hs he
    rw [encodeBlock] at hs
    cases ha : trialOrders b a xs h [0, 1, 2, 3] with
    | some u =>
      rw [ha] at hs
      obtain ⟨rfl, rfl, rfl⟩ : u.1 = o ∧ a = s ∧ u.2 = t := by simpa using hs
      exact ⟨by omega, ha, fun m hm hm' => absurd hm (by omega)⟩
    | none =>
      rw [ha] at hs
      obtain ⟨hlt, ht, hlow⟩ := ih (by simpa [ha] using he) hs
      refine ⟨by omega, ht, fun m hm hm' => ?_⟩
      rcases hm.eq_or_lt with rfl | hlt
      · exact ha
      · exact hlow m hlt hm'

/-- Of 24-bit values the search takes a shift up to 20 and one of four orders at which the trial succeeds, and none before them does. -/
theorem encodeBlock_shifts {b : Nat} (hb : 5 ≤ b) {xs : List Int} (hx : ∀ x ∈ xs, -8388608 ≤ x ∧ x ≤ 8388607)
    {h : Int × Int × Int} {o s : Nat} {t : List Int × (Int × Int × Int)} (he : encodeBlock b xs h shifts = (o, s, t)) :
    o < 4 ∧ s ≤ 20 ∧ trial b o s xs h = some t ∧ (∀ m < s, ∀ q < 4, trial b q m xs h = none) ∧ ∀ q < o, trial b q s xs h = none := by
  have hlast : trialOrders b 20 xs h [0, 1, 2, 3] ≠ none := fun hn =>
    trial_shift20_ne_none hb hx h (trialOrders_eq_none hn 0 (by simp))
  rw [shifts, List.range_eq_range'] at he
  obtain ⟨hs, ht, hless⟩ := encodeBlock_least ⟨20, by simp, hlast⟩ he
  obtain ⟨ho, htrial, hlow⟩ := trialOrders_eq_some (a := 0) (n := 4) ht
  refine ⟨by omega, by omega, htrial, fun m hm q hq => ?_, fun q hq => hlow q (Nat.zero_le _) hq⟩
  exact trialOrders_eq_none (hless m (Nat.zero_le _) hm) q (by simp; omega)

/-- Settles O24: the search ends at a trial that succeeds, and every such trial reconstructs within half a step. -/
theorem siphonReconstructs : Obligations.SiphonReconstructs := by
  intro b xs h h' o n rs hb hx he
  have hwidth : 5 ≤ b := by simp only [List.mem_cons, List.not_mem_nil, or_false] at hb; omega
  obtain ⟨ho, hn, ht, hshift, horder⟩ := encodeBlock_shifts hwidth hx he
  obtain ⟨hlen, hfit, hhist, hnear⟩ := decodeBlock_of_trial hx ht
  refine ⟨ho, hn, hlen, hfit, hhist, (length_decodeBlock ..).trans hlen, fun p hp => ⟨hnear p hp, ?_⟩, hshift, horder⟩
  rintro rfl
  have := hnear p hp
  omega

end Sys2Proof.Machine
end
section
/-!
PROOFS. One stream at a time (R241-R261): what each operation on the packets of a stream makes of its ring, and that no other ring, no
register but the stream's and no part but the rings and what events write is changed.
-/

namespace Sys2Proof.Machine

namespace Hub

/-! ### Rings -/

@[simp] theorem ring_bumpMod (h : Hub) (f : Fld) (v n : Nat) : (h.bumpMod f v).ring n = h.ring n := ring_congr (by simp) n
@[simp] theorem ring_bump (h : Hub) (f : Fld) (v n : Nat) : (h.bump f v).ring n = h.ring n := ring_congr (by simp) n
@[simp] theorem ring_tally (h : Hub) (i v n : Nat) : (h.tally i v).ring n = h.ring n := ring_congr (by simp) n
@[simp] theorem ring_raiseAt (h : Hub) (m : MT) (src cause : Nat) (d : List Nat) (n : Nat) :
    (h.raiseAt m src cause d).ring n = h.ring n := ring_congr (by simp) n

theorem ringBytes_congr {h k : Hub} {n : Nat} (e : (h.ring n).packets = (k.ring n).packets) : h.ringBytes n = k.ringBytes n := by
  rw [ringBytes, ringBytes, e]

/-- A count that wraps at the width of its field. -/
theorem fld_bumpMod_self (h : Hub) (f : Fld) (n : Nat) (hf : f.lo + f.width ≤ 32) : (h.bumpMod f n).fld f = (h.fld f + n) % 2 ^ f.width :=
  fld_put_self h f _ hf

theorem fld_bumpMod_ne (h : Hub) (f g : Fld) (n : Nat) (hg : g.addr ≠ f.addr) : (h.bumpMod f n).fld g = h.fld g := fld_put_ne _ _ _ _ hg

end Hub

/-! ### Steps of one stream -/

/-- From `h` to `k` stream `n` alone moves: its ring, the registers listed, and what events write. -/
structure OneStream (rs : List Nat) (n : Nat) (h k : Hub) : Prop where
  framed : Framed (among rs) (.cis :: eventParts) h k
  others : ∀ m, m ≠ n → k.ring m = h.ring m

namespace OneStream

theorem refl (rs : List Nat) (n : Nat) (h : Hub) : OneStream rs n h h :=
  ⟨(framed_refl h).mono (fun _ hf => hf.elim) (by simp), fun _ _ => rfl⟩

variable {rs : List Nat} {n : Nat} {h k l : Hub}

theorem trans (a : OneStream rs n h k) (b : OneStream rs n k l) : OneStream rs n h l :=
  ⟨(a.framed.trans b.framed).mono (by simp) (by simp), fun m hm => (b.others m hm).trans (a.others m hm)⟩

theorem mono {rs' : List Nat} (a : OneStream rs n h k) (hr : rs ⊆ rs') : OneStream rs' n h k :=
  ⟨a.framed.mono (fun _ hx => hr hx) (List.Subset.refl _), a.others⟩

/-- A step that writes no ring is one of any stream. -/
theorem of_framed {r : Nat → Prop} {ps : List Part} (hf : Framed r ps k l) (hr : ∀ x, r x → x ∈ rs) (hp : ps ⊆ eventParts)
    (a : OneStream rs n h k) : OneStream rs n h l := by
  have hcis : l.cis = k.cis := hf.2 .cis fun hm => by simpa using hp hm
  exact a.trans ⟨hf.mono hr (fun _ hx => List.mem_cons_of_mem _ (hp hx)), fun m _ => Hub.ring_congr hcis m⟩

theorem put (a : OneStream rs n h k) {f : Fld} (hf : f.addr ∈ rs) (v : Nat) : OneStream rs n h (k.put f v) :=
  a.of_framed (framed_put k f v) (by rintro _ rfl; exact hf) (by simp)

theorem bump (a : OneStream rs n h k) {f : Fld} (hf : f.addr ∈ rs) (v : Nat) : OneStream rs n h (k.bump f v) := a.put hf _

theorem bumpMod (a : OneStream rs n h k) {f : Fld} (hf : f.addr ∈ rs) (v : Nat) : OneStream rs n h (k.bumpMod f v) := a.put hf _

theorem tally (a : OneStream rs n h k) (i v : Nat) : OneStream rs n h (k.tally i v) :=
  a.of_framed (framed_tally k i v) (fun _ hf => hf.elim) (by simp)

theorem raiseAt (a : OneStream rs n h k) (m : MT) (src cause : Nat) (d : List Nat) : OneStream rs n h (k.raiseAt m src cause d) :=
  a.of_framed (framed_raiseAt k m src cause d) (fun _ hf => hf.elim) (by simp)

theorem raise (a : OneStream rs n h k) (src cause : Nat) (d : List Nat) : OneStream rs n h (k.raise src cause d) := a.raiseAt ..

theorem setRing (a : OneStream rs n h k) (r : Ring) : OneStream rs n h (k.setRing n r) :=
  a.trans ⟨(framed_setRing k n r).mono (fun _ hf => hf.elim) (by simp), fun _ hm => Hub.ring_setRing_ne _ _ hm⟩

/-- Packets closed are counted over all streams (R287). -/
theorem countClosed (a : OneStream rs n h k) (c : Nat) : OneStream rs n h { k with cis := { k.cis with closed := c } } :=
  a.trans ⟨⟨fun _ _ => rfl, fun p hp => by cases p <;> simp_all [Part.same]⟩, fun _ _ => rfl⟩

/-- What a command did to one stream, with the time it takes before and after it acts. -/
theorem timed (a : OneStream rs n h.passTime k) : OneStream rs n h k.wrapTime :=
  ⟨a.framed.timed, fun m hm => (Hub.ring_wrapTime ..).trans ((a.others m hm).trans (Hub.ring_passTime ..))⟩

end OneStream

namespace Hub

/-! ### What a ring shows (R272, R273) -/

/-- A ring is shown with a STATE and a LEVEL. -/
def showRing (n st level : Nat) (h : Hub) : Hub := (h.put (CIS_RING_STAT_STATE n) st).put (CIS_RING_STAT_LEVEL n) level

theorem cis_showRing (n st level : Nat) (h : Hub) : (h.showRing n st level).cis = h.cis := by rw [showRing, put_cis, put_cis]

/-- What a ring shows is its STATE and LEVEL, and HIGH where it is raised or re-armed. -/
theorem refreshRing_cases {P : Hub → Prop} (n : Nat) (h : Hub)
    (hhigh : ∀ st level, P (((h.showRing n st level).put (CIS_RING_STAT_HIGH n) 1).raise 145 0 [n, level]))
    (hlow : ∀ st level, P ((h.showRing n st level).put (CIS_RING_STAT_HIGH n) 0)) (hsame : ∀ st level, P (h.showRing n st level)) :
    P (h.refreshRing n) := by
  rw [refreshRing]
  exact iteInduction (fun _ => hhigh ..) fun _ => iteInduction (fun _ => hlow ..) fun _ => hsame ..

theorem oneStream_refreshRing (n : Nat) (h : Hub) : OneStream [CIS_RING_STAT n] n h (h.refreshRing n) := by
  have hstat {k : Hub} (a : OneStream [CIS_RING_STAT n] n h k) (lo width v : Nat) :
      OneStream [CIS_RING_STAT n] n h (k.put ⟨CIS_RING_STAT n, lo, width⟩ v) := a.put (by simp) v
  have hshown (st level : Nat) : OneStream [CIS_RING_STAT n] n h (h.showRing n st level) := hstat (hstat (.refl ..) ..) ..
  exact refreshRing_cases n h (fun _ _ => (hstat (hshown ..) ..).raise ..) (fun _ _ => hstat (hshown ..) ..) hshown

theorem cis_refreshRing (n : Nat) (h : Hub) : (h.refreshRing n).cis = h.cis :=
  refreshRing_cases (P := fun k => k.cis = h.cis) n h (fun _ _ => by rw [raise_cis, put_cis, cis_showRing])
    (fun _ _ => by rw [put_cis, cis_showRing]) fun _ _ => cis_showRing ..

@[simp] theorem ring_refreshRing (n : Nat) (h : Hub) (m : Nat) : (h.refreshRing n).ring m = h.ring m := ring_congr (cis_refreshRing n h) m

theorem fld_refreshRing (n : Nat) (h : Hub) {f : Fld} (hf : f.addr ≠ CIS_RING_STAT n) : (h.refreshRing n).fld f = h.fld f :=
  (oneStream_refreshRing n h).framed.fld_eq (by simpa using hf)

theorem occurrences_refreshRing (n : Nat) (h : Hub) {i : Nat} (hi : i ≠ 145) : (h.refreshRing n).occurrences i = h.occurrences i :=
  refreshRing_cases (P := fun k => k.occurrences i = h.occurrences i) n h (by simp [showRing, occurrences_raise, hi])
    (by simp [showRing]) (by simp [showRing])

/-! ### Credits (R251, R258) -/

/-- The free space of a ring covers a packet of the greatest size and the reserve (R251). -/
def hasRoom (h : Hub) (n : Nat) : Bool := decide ((h.ring n).maxPkt + 64 ≤ h.ringSize n - h.ringBytes n)

/-- With no span to report, the credit follows the room. -/
theorem issueCredit_of_held_none {h : Hub} {n : Nat} (hh : (h.ring n).held = none) :
    h.issueCredit n = h.setRing n { h.ring n with credit := h.hasRoom n } := by
  simp only [issueCredit, hasRoom, hh]
  split_ifs with hroom <;> simp [hroom]

/-- Without room a ring issues no credit, and a span dropped before stays unreported. -/
theorem issueCredit_of_no_room {h : Hub} {n : Nat} (hr : h.hasRoom n = false) :
    h.issueCredit n = h.setRing n { h.ring n with credit := false } := by
  rw [hasRoom, decide_eq_false_iff_not] at hr
  simp only [issueCredit, hr, if_false]

/-! ### GAP records (R261) -/

/-- The GAP record of a span in the ring of stream `n` (R249, R261). -/
def gapPacket (h : Hub) (n : Nat) (g : Gap) : Packet :=
  { fmt := fmtGap, stream := n, epoch := (h.ring n).epochDue, start := (h.ring n).startDue, epochNo := h.epochNo, count := 9
    seq := h.fld (CIS_SEQ_NEXT n), mt := g.mtFirst, lastMt := g.mtLast, body := g.body, closed := h.cis.closed }

theorem oneStream_placeGap (n : Nat) (g : Gap) (h : Hub) : OneStream [CIS_SEQ n, CIS_RING_STAT n, CIS_GAP_CNT n] n h (h.placeGap n g) :=
  (((((OneStream.refl _ n h).countClosed _).setRing _).bumpMod (by simp [CIS_SEQ_NEXT]) 1).bump (by simp [CIS_GAP_CNT_GAPS]) 1
    |>.tally ..).raise ..

theorem ring_placeGap (n : Nat) (g : Gap) (h : Hub) : (h.placeGap n g).ring n =
    { h.ring n with packets := (h.ring n).packets ++ [h.gapPacket n g], startDue := false, epochDue := false, hreset := true
                    loaded := false } := by
  rw [placeGap, ring_raise, ring_tally, ring_bump, ring_bumpMod, ring_setRing_self]
  rfl

theorem fld_placeGap_seq (n : Nat) (g : Gap) (h : Hub) :
    (h.placeGap n g).fld (CIS_SEQ_NEXT n) = (h.fld (CIS_SEQ_NEXT n) + 1) % 2 ^ 32 := by
  have hne : (CIS_SEQ_NEXT n).addr ≠ (CIS_GAP_CNT_GAPS n).addr := by simp only [CIS_SEQ_NEXT, CIS_SEQ, CIS_GAP_CNT_GAPS, CIS_GAP_CNT]; omega
  rw [placeGap, fld_raise, fld_tally, fld_bump_ne _ _ _ _ hne, fld_bumpMod_self _ _ _ (by simp [CIS_SEQ_NEXT]), fld_setRing]
  rfl

theorem occurrences_placeGap (n : Nat) (g : Gap) (h : Hub) (i : Nat) :
    (h.placeGap n g).occurrences i = if i = 144 then satAdd (2 ^ 24 - 1) (h.occurrences 144) 1 else h.occurrences i := by
  rw [placeGap, occurrences_raise]
  simp only [occurrences_tally, occurrences_bump, occurrences_bumpMod, occurrences_setRing]
  rfl

end Hub

end Sys2Proof.Machine
end
section
/-!
PROOFS. Starts, stops and flushes of streams (R256, R257, R261, R272): what settles O26.
-/

namespace Sys2Proof.Machine

namespace Hub

/-! ### The GAP record of a flush (R257, R261) -/

/-- The span that a flush reports: the packets that the consumer has not taken, or none under the stream's own number. -/
def flushGap (h : Hub) (n : Nat) : Gap :=
  (gapOf 2 ((h.ring n).packets.drop (h.ring n).sent)).getD
    { cause := 2, seqFirst := h.fld (CIS_SEQ_NEXT n), seqLast := h.fld (CIS_SEQ_NEXT n), mtFirst := h.mtNow, mtLast := h.mtNow }

theorem flushGap_cause (h : Hub) (n : Nat) : (h.flushGap n).cause = 2 := by
  rw [flushGap]
  cases (h.ring n).packets.drop (h.ring n).sent <;> rfl

theorem flushGap_pkts (h : Hub) (n : Nat) : (h.flushGap n).pkts = (h.ring n).packets.length - (h.ring n).sent := by
  rw [flushGap, ← List.length_drop]
  cases (h.ring n).packets.drop (h.ring n).sent <;> rfl

/-- The first word of a GAP body names the cause and the packets, which saturate. -/
theorem headD_body_gap (g : Gap) (hc : g.cause < 256) :
    (g.body.headD 0).toNat / 2 ^ 24 = g.cause ∧ (g.body.headD 0).toNat % 2 ^ 24 = min g.pkts 65535 := by
  have hword : g.body.headD 0 = BitVec.ofNat 32 (g.cause * 2 ^ 24 + min g.pkts 65535) := rfl
  have hmin : min g.pkts 65535 ≤ 65535 := Nat.min_le_right ..
  rw [hword, BitVec.toNat_ofNat, Nat.mod_eq_of_lt (by omega)]
  omega

/-! ### A flush at a packet boundary (R257) -/

/-- What a flush makes of a stream: what was sent stays, every other closed packet gives way to one GAP record of cause FLUSH, and both the
GAP and the flush are reported. -/
structure Flushed (n : Nat) (h k : Hub) : Prop where
  gap : ∃ g : Packet, (k.ring n).packets = (h.ring n).packets.take (h.ring n).sent ++ [g] ∧ g.fmt = fmtGap ∧ g.count = 9 ∧
    g.seq = h.fld (CIS_SEQ_NEXT n) ∧ (g.body.headD 0).toNat / 2 ^ 24 = 2 ∧
    (g.body.headD 0).toNat % 2 ^ 24 = min ((h.ring n).packets.length - (h.ring n).sent) 65535
  done : (k.ring n).flushDue = false
  seq : k.fld (CIS_SEQ_NEXT n) = (h.fld (CIS_SEQ_NEXT n) + 1) % 2 ^ 32
  gapEvent : Hub.oneMore 144 h k
  flushEvent : Hub.oneMore 147 h k
  stream : OneStream [CIS_SEQ n, CIS_RING_STAT n, CIS_GAP_CNT n] n h k

/-- The ring of a stream that flushes: what was sent stays. -/
def keepSent (n : Nat) (h : Hub) : Hub :=
  h.setRing n { h.ring n with packets := (h.ring n).packets.take (h.ring n).sent, flushDue := false }

/-- With no packet open and no span to report a flush writes its GAP record at once. -/
theorem flushNow_eq {h : Hub} {n : Nat} (ho : (h.ring n).open? = none) (hh : (h.ring n).held = none) :
    ∃ c d, h.flushNow n = (((((h.keepSent n).placeGap n (h.flushGap n)).raise 147 0 d).tally 130 1).setRing n
      { ((h.keepSent n).placeGap n (h.flushGap n)).ring n with credit := c }).refreshRing n := by
  have hopen : ((h.keepSent n).ring n).open? = none := by rw [keepSent, ring_setRing_self]; exact ho
  have hgap : (h.keepSent n).writeGap n (h.flushGap n) = (h.keepSent n).placeGap n (h.flushGap n) := by
    rw [writeGap]; exact if_neg (by simp [hopen])
  have hheld : (((h.keepSent n).placeGap n (h.flushGap n)).ring n).held = none := by
    rw [ring_placeGap, keepSent, ring_setRing_self]; exact hh
  have he : h.flushNow n = (((((h.keepSent n).writeGap n (h.flushGap n)).raise 147 0
      [n, ((h.ring n).packets.drop (h.ring n).sent).length]).tally 130 1).issueCredit n).refreshRing n := rfl
  rw [he, hgap, issueCredit_of_held_none (by rw [ring_tally, ring_raise]; exact hheld), ring_tally, ring_raise]
  exact ⟨_, _, rfl⟩

theorem flushNow_flushed {h : Hub} {n : Nat} (ho : (h.ring n).open? = none) (hh : (h.ring n).held = none) :
    Flushed n h (h.flushNow n) := by
  obtain ⟨c, d, he⟩ := flushNow_eq ho hh
  have hseq : (CIS_SEQ_NEXT n).addr ≠ CIS_RING_STAT n := by simp only [CIS_SEQ_NEXT, CIS_SEQ, CIS_RING_STAT]; omega
  have hbody := headD_body_gap (h.flushGap n) (by rw [flushGap_cause]; decide)
  rw [flushGap_cause, flushGap_pkts] at hbody
  rw [he]
  constructor
  case gap =>
    refine ⟨(h.keepSent n).gapPacket n (h.flushGap n), ?_, rfl, rfl, rfl, hbody⟩
    rw [ring_refreshRing, ring_setRing_self, ring_placeGap, keepSent, ring_setRing_self]
  case done => rw [ring_refreshRing, ring_setRing_self, ring_placeGap, keepSent, ring_setRing_self]
  case seq => rw [fld_refreshRing _ _ hseq, fld_setRing, fld_tally, fld_raise, fld_placeGap_seq, keepSent, fld_setRing]
  case gapEvent =>
    rw [oneMore, occurrences_refreshRing _ _ (by decide), occurrences_setRing, occurrences_tally, occurrences_raise, if_neg (by decide),
      occurrences_placeGap, if_pos rfl, keepSent, occurrences_setRing]
  case flushEvent =>
    rw [oneMore, occurrences_refreshRing _ _ (by decide), occurrences_setRing, occurrences_tally, occurrences_raise, if_pos rfl,
      occurrences_placeGap, if_neg (by decide), keepSent, occurrences_setRing]
  case stream =>
    have hgap := ((OneStream.refl [CIS_SEQ n, CIS_RING_STAT n, CIS_GAP_CNT n] n h).setRing _).trans (oneStream_placeGap n (h.flushGap n) (h.keepSent n))
    exact (((hgap.raise ..).tally ..).setRing _).trans ((oneStream_refreshRing n _).mono (by simp))

/-- A flush that is asked for where no packet is open is the flush itself. -/
theorem Flushed.of_asked {n : Nat} {h k : Hub} (a : Flushed n (h.setRing n { h.ring n with flushDue := true }) k) : Flushed n h k := by
  obtain ⟨hgap, hdone, hseq, hgaps, hflushes, hstream⟩ := a
  rw [ring_setRing_self] at hgap
  exact ⟨hgap, hdone, hseq, hgaps, hflushes, ((OneStream.refl _ n h).setRing _).trans hstream⟩

theorem Flushed.timed {n : Nat} {h k : Hub} (a : Flushed n h.passTime k) : Flushed n h k.wrapTime := by
  obtain ⟨hgap, hdone, hseq, hgaps, hflushes, hstream⟩ := a
  rw [ring_passTime, fld_passTime] at hgap
  rw [fld_passTime] at hseq
  refine ⟨?_, (ring_wrapTime k n).symm ▸ hdone, ?_, hgaps, hflushes, hstream.timed⟩
  · rw [ring_wrapTime]; exact hgap
  · rw [fld_wrapTime]; exact hseq

/-! ### Flushes asked for (R257) -/

/-- Stream 0 is not flushed, nor is a stream without a ring. -/
theorem requestFlush_refused {h : Hub} {n : Nat} (hn : n = 0 ∨ h.ringSize n = 0) : h.requestFlush n = none := by
  rcases hn with rfl | hs
  · rfl
  · simp [requestFlush, hs]

section

variable {h : Hub} {n : Nat} (h0 : n ≠ 0) (hn : n < 128) (hs : h.ringSize n ≠ 0)
include h0 hn hs

/-- A flush that waits takes in one more. -/
theorem requestFlush_merged (hf : (h.ring n).flushDue = true) : h.requestFlush n = some h := by
  simp [requestFlush, h0, hn, hs, hf]

/-- A flush waits for the end of an open packet. -/
theorem requestFlush_waits (hf : (h.ring n).flushDue = false) (ho : (h.ring n).open? ≠ none) :
    h.requestFlush n = some ((h.setRing n { h.ring n with flushDue := true }).refreshRing n) := by
  simp [requestFlush, h0, hn, hs, hf, ho]

/-- With no packet open a flush takes effect at once. -/
theorem requestFlush_now (hf : (h.ring n).flushDue = false) (ho : (h.ring n).open? = none) :
    h.requestFlush n = some ((h.setRing n { h.ring n with flushDue := true }).flushNow n) := by
  simp [requestFlush, h0, hn, hs, hf, ho]

end

/-- A flush that waits is shown, and nothing else changes. -/
theorem flushWaits_done (h : Hub) (n : Nat) :
    ((h.setRing n { h.ring n with flushDue := true }).refreshRing n).ring n = { h.ring n with flushDue := true } ∧
      OneStream [CIS_RING_STAT n] n h ((h.setRing n { h.ring n with flushDue := true }).refreshRing n) :=
  ⟨by rw [ring_refreshRing, ring_setRing_self], ((OneStream.refl _ n h).setRing _).trans (oneStream_refreshRing n _)⟩

theorem flushBoundary_eq {h : Hub} {n : Nat} (hf : (h.ring n).flushDue = true) (ho : (h.ring n).open? = none) :
    h.flushBoundary n = h.flushNow n := by
  simp [flushBoundary, hf, ho]

/-! ### Starts and stops (R256) -/

/-- A start or a stop of a stream other than 0 waits. -/
theorem streamCtl_eq (h : Hub) {n : Nat} (h0 : n ≠ 0) (hn : n < 128) (stop : Bool) :
    h.streamCtl n stop = some { h with cis := { h.cis with ctlDue := h.cis.ctlDue ++ [(n, stop)] } } := by
  simp [streamCtl, h0, hn]

end Hub

/-! ### The commands -/

/-- A write to a live register does on an awake hub what its effect does. -/
theorem completes_writeCmd {c : Instr} {s : State} {p : Path} {addr : Nat} {f : Hub → Option Hub} {q : Hub → Prop} {k : Hub}
    (e : exec c s = s.onHub (Hub.writeCmd p addr .LV f)) (ha : s.hub.awake) (hp : s.hub.livePath p) (hf : f s.hub.passTime = some k)
    (hq : q k.wrapTime) : Completes c s q := by
  refine completes_onHub e ha ?_
  rw [Hub.writeCmd_live _ (by simpa using hp) hf]
  exact hq

/-- A start or a stop waits for the slot boundary, and changes nothing else. -/
theorem streamCtl_completes {c : Instr} {s : State} (ha : s.hub.awake) {p : Path} (hp : s.hub.livePath p) {n : Nat} (h0 : n ≠ 0)
    (hn : n < 128) (stop : Bool) (e : exec c s = s.onHub (Hub.writeCmd p CIS_STREAM_CTL .LV (Hub.streamCtl n stop))) :
    Completes c s fun k => k.cis = { s.hub.cis with ctlDue := s.hub.cis.ctlDue ++ [(n, stop)] } ∧
      Framed (fun _ => False) [.cis] s.hub k := by
  refine completes_writeCmd e ha hp (Hub.streamCtl_eq _ h0 hn stop) ⟨by simp, Framed.timed ⟨fun _ _ => rfl, fun q hq => ?_⟩⟩
  cases q <;> simp_all [Part.same]

/-- A flush that is refused is reported to the MC (R12). -/
theorem cisFlush_refused_completes {s : State} (ha : s.hub.awake) (hp : s.hub.livePath .mc) {n : Nat} (hn : n = 0 ∨ s.hub.ringSize n = 0) :
    Completes (.cisFlush .mc n) s fun k => Hub.oneMore 251 s.hub k ∧ Framed (fun _ => False) eventParts s.hub k := by
  refine completes_onHub rfl ha ?_
  rw [Hub.writeCmd_refused (h := s.hub.passTime) _ (by simpa using hp) (Hub.requestFlush_refused hn)]
  exact ⟨by simp [Hub.report, Hub.oneMore, Hub.occurrences_raise], Framed.timed (framed_raise ..)⟩

/-- Settles O26: a start or a stop is held, and a flush is merged, held, refused, or the exchange of what was not sent for a GAP record. -/
theorem streamsControlled : Obligations.StreamsControlled := by
  intro s p n ha hn
  refine ⟨fun hp h0 => ⟨?_, ?_, fun hs hf => ?_, fun hs hf ho => ?_, fun hs hf ho hh => ?_⟩, fun hp => cisFlush_refused_completes ha hp,
    fun hf ho hh => ?_⟩
  · exact streamCtl_completes ha hp h0 hn false rfl
  · exact streamCtl_completes ha hp h0 hn true rfl
  · exact completes_writeCmd rfl ha hp (Hub.requestFlush_merged h0 hn hs (by simpa using hf)) (Framed.timed (framed_refl _))
  · obtain ⟨hring, hstream⟩ := s.hub.passTime.flushWaits_done n
    refine completes_writeCmd rfl ha hp (Hub.requestFlush_waits h0 hn hs (by simpa using hf) (by simpa using ho)) ⟨?_, ?_, hstream.timed.framed⟩
    · rw [Hub.ring_wrapTime, hring, Hub.ring_passTime]
    · exact hstream.timed.others
  · have hflushed := (Hub.flushNow_flushed (n := n) (h := s.hub.passTime.setRing n { s.hub.passTime.ring n with flushDue := true })
      (by simpa using ho) (by simpa using hh)).of_asked.timed
    obtain ⟨hgap, hdone, hseq, hgaps, hflushes, hstream⟩ := hflushed
    exact completes_writeCmd rfl ha hp (Hub.requestFlush_now h0 hn hs (by simpa using hf) (by simpa using ho))
      ⟨hgap, hdone, hseq, hgaps, hflushes, hstream.framed⟩
  · refine completes_onHub rfl ha ?_
    rw [Hub.flushBoundary_eq (by simpa using hf) (by simpa using ho)]
    obtain ⟨hgap, hdone, hseq, hgaps, hflushes, hstream⟩ := (Hub.flushNow_flushed (n := n) (h := s.hub.passTime) (by simpa using ho)
      (by simpa using hh)).timed
    exact ⟨hgap, hdone, hseq, hgaps, hflushes, hstream.framed⟩

end Sys2Proof.Machine
end
section
/-!
PROOFS. Packets that close with their age or at a stop (R242, R249, R256, R258): what settles O25.
-/

namespace Sys2Proof.Machine

namespace Hub

/-! ### What a closing packet leaves (R242, R249, R258) -/

/-- An uncoded packet that closes with nothing behind it: the consumer has not begun it, no flush and no GAP record waits for its end, and
no dropped span. -/
structure ClosesAlone (h : Hub) (n : Nat) (p : OpenPkt) : Prop where
  filling : (h.ring n).open? = some p
  uncoded : p.ratio = 0
  notBegun : p.cut = false
  sound : p.spoilt = false
  noFlush : (h.ring n).flushDue = false
  noGap : (h.ring n).gapsDue = []
  noSpan : (h.ring n).held = none

/-- The ring of a stream whose packet has entered it. -/
def closedRing (h : Hub) (n : Nat) (p : OpenPkt) (stop : Bool) : Ring :=
  { h.ring n with open? := none, startDue := false, epochDue := false
                  packets := (h.ring n).packets ++ [h.sealed n p (h.fld (CIS_SEQ_NEXT n)) stop] }

/-- The span that the ring holds of a packet dropped whole. -/
def droppedSpan (h : Hub) (n : Nat) (p : OpenPkt) : Gap :=
  { cause := 1, pkts := 1, seqFirst := h.fld (CIS_SEQ_NEXT n), seqLast := h.fld (CIS_SEQ_NEXT n), units := p.conts.length, mtFirst := p.mt
    mtLast := p.lastMt }

/-- The ring of a stream whose packet was dropped whole. -/
def droppedRing (h : Hub) (n : Nat) (p : OpenPkt) : Ring :=
  { h.ring n with open? := none, held := some (h.droppedSpan n p) }

/-- From `h` to `k` stream `n` takes a number, its ring becomes `r`, and no event is raised but that of a ring that fills (R272). -/
structure TakesNumber (n : Nat) (r : Ring) (h k : Hub) : Prop where
  ring : k.ring n = r
  seq : k.fld (CIS_SEQ_NEXT n) = (h.fld (CIS_SEQ_NEXT n) + 1) % 2 ^ 32
  events : ∀ i, i ≠ 145 → k.occurrences i = h.occurrences i
  stream : OneStream [CIS_SEQ n, CIS_RING_STAT n] n h k

theorem oneMore_timed {h k : Hub} {i : Nat} (a : oneMore i h.passTime k) : oneMore i h k.wrapTime := by
  rw [oneMore, occurrences_wrapTime, a, occurrences_passTime]

theorem seq_ne_ringStat (n : Nat) : (CIS_SEQ_NEXT n).addr ≠ CIS_RING_STAT n := by
  simp only [CIS_SEQ_NEXT, CIS_SEQ, CIS_RING_STAT]; omega

theorem takesNumber_bumpMod (h : Hub) (n : Nat) : TakesNumber n (h.ring n) h (h.bumpMod (CIS_SEQ_NEXT n) 1) :=
  ⟨ring_bumpMod .., fld_bumpMod_self _ _ _ (by simp [CIS_SEQ_NEXT]), fun _ _ => occurrences_bumpMod ..,
    (OneStream.refl _ n h).bumpMod (by simp [CIS_SEQ_NEXT]) 1⟩

namespace TakesNumber

variable {n : Nat} {r : Ring} {h k : Hub}

theorem setRing (a : TakesNumber n r h k) (r' : Ring) : TakesNumber n r' h (k.setRing n r') :=
  ⟨ring_setRing_self .., a.seq, a.events, a.stream.setRing r'⟩

theorem tally (a : TakesNumber n r h k) (i v : Nat) : TakesNumber n r h (k.tally i v) :=
  ⟨(ring_tally ..).trans a.ring, (fld_tally ..).trans a.seq, fun j hj => (occurrences_tally ..).trans (a.events j hj), a.stream.tally i v⟩

theorem countClosed (a : TakesNumber n r h k) (c : Nat) : TakesNumber n r h { k with cis := { k.cis with closed := c } } :=
  ⟨a.ring, a.seq, a.events, a.stream.countClosed c⟩

theorem refreshRing (a : TakesNumber n r h k) : TakesNumber n r h (k.refreshRing n) :=
  ⟨(ring_refreshRing ..).trans a.ring, (fld_refreshRing _ _ (seq_ne_ringStat n)).trans a.seq,
    fun i hi => (occurrences_refreshRing _ _ hi).trans (a.events i hi),
    a.stream.trans ((oneStream_refreshRing n k).mono (by simp))⟩

/-- With no GAP record due, and no span that a credit would report, the stream is left with the credit its room gives. -/
theorem credited (a : TakesNumber n r h k) (hg : r.gapsDue = []) (hh : r.held = none ∨ k.hasRoom n = false) :
    TakesNumber n { r with credit := k.hasRoom n } h (((k.placeGaps n).issueCredit n).refreshRing n) := by
  have hplaced : k.placeGaps n = k.setRing n r := by
    rw [placeGaps, a.ring, hg, List.foldl_nil, ← hg]
  have hroom : (k.setRing n r).hasRoom n = k.hasRoom n := by
    rw [hasRoom, ringBytes_congr (k := k) (by rw [ring_setRing_self, a.ring]), ring_setRing_self, hasRoom, a.ring]
    rfl
  have hcredit : (k.setRing n r).issueCredit n = (k.setRing n r).setRing n { r with credit := k.hasRoom n } := by
    rcases hh with hh | hh
    · rw [issueCredit_of_held_none (by rw [ring_setRing_self]; exact hh), hroom, ring_setRing_self]
    · rw [issueCredit_of_no_room (hroom.trans hh), ring_setRing_self, hh]
  rw [hplaced, hcredit]
  exact ((a.setRing r).setRing _).refreshRing

end TakesNumber

/-- A sound packet with a credit enters its ring. -/
theorem takesNumber_enterRing {h : Hub} {n : Nat} {p : OpenPkt} (a : ClosesAlone h n p) (stop : Bool) : TakesNumber n (h.closedRing n p stop) h
    ((h.bumpMod (CIS_SEQ_NEXT n) 1).enterRing n p (h.sealed n p (h.fld (CIS_SEQ_NEXT n)) stop)) := by
  have hentered := ((((takesNumber_bumpMod h n).countClosed (h.cis.closed + 1)).setRing (h.closedRing n p stop)).tally 124
    (h.sealed n p (h.fld (CIS_SEQ_NEXT n)) stop).bytes).tally 127 1
  simp only [enterRing, a.uncoded, a.notBegun, ring_bumpMod, if_true, Bool.false_and, Bool.false_eq_true, if_false]
  exact hentered

theorem closePacket_whole {h : Hub} {n : Nat} {p : OpenPkt} (a : ClosesAlone h n p) (hd : p.dropped = false) (stop : Bool) :
    ∃ c, TakesNumber n { h.closedRing n p stop with credit := c } h (h.closePacket n stop) := by
  have he : h.closePacket n stop =
      ((((h.bumpMod (CIS_SEQ_NEXT n) 1).enterRing n p (h.sealed n p (h.fld (CIS_SEQ_NEXT n)) stop)).placeGaps n).issueCredit n).refreshRing n := by
    simp only [closePacket, a.filling, a.uncoded, if_true, Option.getD_some, a.noFlush, hd, a.sound, Bool.false_eq_true, if_false]
    rfl
  rw [he]
  exact ⟨_, (takesNumber_enterRing a stop).credited a.noGap (.inl a.noSpan)⟩

/-- A packet without a credit is dropped whole, and while the ring stays full its span is held. -/
theorem closePacket_dropped {h : Hub} {n : Nat} {p : OpenPkt} (a : ClosesAlone h n p) (hd : p.dropped = true) (stop : Bool)
    (hfull : h.ringSize n < h.ringBytes n + (h.ring n).maxPkt + 64) :
    TakesNumber n { h.droppedRing n p with credit := false } h (h.closePacket n stop) := by
  have hdropped := ((takesNumber_bumpMod h n).setRing (h.droppedRing n p)).tally 128 1
  have hroom : (((h.bumpMod (CIS_SEQ_NEXT n) 1).setRing n (h.droppedRing n p)).tally 128 1).hasRoom n = false := by
    have hsize : (((h.bumpMod (CIS_SEQ_NEXT n) 1).setRing n (h.droppedRing n p)).tally 128 1).ringSize n = h.ringSize n := by
      rw [ringSize, hdropped.stream.framed.fld_eq, ringSize]
      simp only [CIS_RING_SIZE_SIZE, CIS_RING_SIZE, CIS_SEQ, CIS_RING_STAT, List.mem_cons, List.not_mem_nil, or_false]
      omega
    rw [hasRoom, hdropped.ring, hsize, ringBytes_congr (k := h) (by rw [hdropped.ring]; rfl)]
    exact decide_eq_false (by simp only [droppedRing]; omega)
  have he : h.closePacket n stop =
      (((((h.bumpMod (CIS_SEQ_NEXT n) 1).setRing n (h.droppedRing n p)).tally 128 1).placeGaps n).issueCredit n).refreshRing n := by
    simp only [closePacket, a.filling, a.uncoded, if_true, Option.getD_some, a.noFlush, hd, a.noSpan, Bool.false_eq_true, if_false,
      droppedRing, droppedSpan]
  rw [he, ← hroom]
  exact hdropped.credited a.noGap (.inr hroom)

@[simp] theorem closesAlone_passTime {h : Hub} {n : Nat} {p : OpenPkt} : h.passTime.ClosesAlone n p ↔ h.ClosesAlone n p :=
  ⟨fun ⟨a, b, c, d, e, f, g⟩ => ⟨by simpa using a, b, c, d, by simpa using e, by simpa using f, by simpa using g⟩,
    fun ⟨a, b, c, d, e, f, g⟩ => ⟨by simpa using a, b, c, d, by simpa using e, by simpa using f, by simpa using g⟩⟩

/-! ### The age of a packet (R242) -/

/-- The packet of stream `n` has stood past AGE × 10 µs. -/
abbrev pastAge (h : Hub) (n : Nat) (p : OpenPkt) : Prop := h.fld (CIS_STREAM_CFG_AGE n) ≠ 0 ∧
  p.slot + ((h.fld (CIS_STREAM_CFG_AGE n) * h.bclk / 1000 + 1 : Nat) : Int) ≤ h.now

section

variable {h : Hub} {n : Nat} {p : OpenPkt} (hp : (h.ring n).open? = some p) (hs : (h.ring n).spans = [])
include hp hs

/-- A RECORDS packet, or one past its age between two sets, closes. -/
theorem ageClose_closes (hc : p.fmt = fmtRecords ∨ h.pastAge n p ∧ (h.ring n).inSet = false) : h.ageClose n = h.closePacket n false := by
  by_cases hf : p.fmt = fmtRecords
  · simp only [ageClose, hp, hs, hf, if_true]
  · obtain ⟨⟨hage, hold⟩, hset⟩ := hc.resolve_left hf
    simp only [ageClose, hp, hs, hf, hage, if_false, advanceTo_of_le hold, hset, Bool.false_and, Bool.false_eq_true]

/-- With AGE 0 a sample packet has no limit. -/
theorem ageClose_ageless (hf : p.fmt ≠ fmtRecords) (hage : h.fld (CIS_STREAM_CFG_AGE n) = 0) : h.ageClose n = h := by
  simp only [ageClose, hp, hs, hf, hage, if_true, if_false]

/-- Within a set a packet past its age waits for the set's end. -/
theorem ageClose_waits (hf : p.fmt ≠ fmtRecords) (ha : h.pastAge n p) (hset : (h.ring n).inSet = true) :
    h.ageClose n = h.setRing n { h.ring n with closeDue := true } := by
  obtain ⟨hage, hold⟩ := ha
  simp only [ageClose, hp, hs, hf, hage, if_false, advanceTo_of_le hold, hset, Option.isSome_some, Bool.and_self, if_true]

end

/-! ### The last set before a stop (R256) -/

/-- The ring of a stream whose last set before a stop has come. -/
def afterSet (n : Nat) (h : Hub) : Hub := h.setRing n { h.ring n with inSet := false }

theorem oneStream_afterSet (n : Nat) (h : Hub) : OneStream [CIS_SEQ n, CIS_RING_STAT n] n h (h.afterSet n) := (OneStream.refl _ n h).setRing _

theorem closesAlone_afterSet {h : Hub} {n : Nat} {p : OpenPkt} (a : h.ClosesAlone n p) : (h.afterSet n).ClosesAlone n p := by
  obtain ⟨hp, hr, hc, hs, hf, hg, hh⟩ := a
  constructor <;> simpa [afterSet]

theorem closedRing_afterSet (h : Hub) (n : Nat) (p : OpenPkt) (stop : Bool) :
    (h.afterSet n).closedRing n p stop = { h.closedRing n p stop with inSet := false } := by
  simp only [closedRing, sealed, afterSet, ring_setRing_self, fld_setRing]
  rfl

/-- A stop as it is reported, with the MT of its slot (R272). -/
def reportStop (n : Nat) (t : Int) (h : Hub) : Hub := (h.raiseAt (h.mtAt t) 148 0 [n, 1, h.fld (CIS_SEQ_NEXT n)]).refreshRing n

/-- With nothing behind the stop its packet closes with STOP, and the stop is reported. -/
theorem ageClose_stop {h : Hub} {n : Nat} {t : Int × Int} (hs : (h.ring n).spans = [t]) (hw : (h.ring n).waiting = []) {r : Ring}
    (hk : ((h.afterSet n).closePacket n true).ring n = r) (hrun : r.running = false) :
    h.ageClose n = (((h.afterSet n).closePacket n true).setRing n { r with spans := [] }).reportStop n t.2 := by
  have hset : (if (h.ring n).waiting.isEmpty then h.setRing n { h.ring n with inSet := false } else h.endSet n) = h.afterSet n := by
    rw [hw]; rfl
  have hage : h.ageClose n = h.finishStop n := by simp only [ageClose, hs]
  subst hk
  rw [hage, finishStop]
  split
  case h_1 he => simp [hs] at he
  case h_2 _ t' rest he =>
    obtain ⟨rfl, rfl⟩ := List.cons.inj (hs.symm.trans he)
    simp only [hset, List.isEmpty_nil, Bool.true_and, ring_refreshRing, ring_raiseAt, ring_setRing_self, hrun, Bool.not_false, if_true]
    rfl

/-- What the report of a stop leaves alone. -/
theorem reportStop_done {n : Nat} {h k : Hub} {r : Ring} {t : Int} (hring : k.ring n = r) (hstream : OneStream [CIS_SEQ n, CIS_RING_STAT n] n h k)
    (hev : k.occurrences 148 = h.occurrences 148) :
    (k.reportStop n t).ring n = r ∧ (k.reportStop n t).fld (CIS_SEQ_NEXT n) = k.fld (CIS_SEQ_NEXT n) ∧ oneMore 148 h (k.reportStop n t) ∧
      OneStream [CIS_SEQ n, CIS_RING_STAT n] n h (k.reportStop n t) := by
  refine ⟨?_, ?_, ?_, (hstream.raiseAt ..).trans ((oneStream_refreshRing n _).mono (by simp))⟩
  · rw [reportStop, ring_refreshRing, ring_raiseAt, hring]
  · rw [reportStop, fld_refreshRing _ _ (seq_ne_ringStat n), fld_raiseAt]
  · rw [oneMore, reportStop, occurrences_refreshRing _ _ (by decide), occurrences_raiseAt, if_pos rfl, hev]

end Hub

/-! ### The command -/

/-- A packet of stream `n` that entered its ring under the next number, as the statement has it. -/
def PacketEntered (n : Nat) (p : OpenPkt) (stop : Bool) (h k : Hub) : Prop :=
  (∃ pk : Packet, (k.ring n).packets = (h.ring n).packets ++ [pk] ∧ pk.fmt = p.fmt ∧ pk.stream = n ∧ pk.seq = h.fld (CIS_SEQ_NEXT n) ∧
    pk.mt = p.mt ∧ pk.count = p.conts.length ∧ pk.body = p.body ∧ pk.holdover = p.holdover ∧ pk.reanchor = p.reanchor ∧
    pk.start = (h.ring n).startDue ∧ pk.epoch = (h.ring n).epochDue ∧ pk.epochNo = p.epochNo ∧ pk.compressed = false ∧ pk.stop = stop) ∧
  (k.ring n).open? = none ∧ (k.ring n).spans = [] ∧ k.fld (CIS_SEQ_NEXT n) = (h.fld (CIS_SEQ_NEXT n) + 1) % 2 ^ 32 ∧
  (∀ m, m ≠ n → k.ring m = h.ring m) ∧ Framed (among [CIS_SEQ n, CIS_RING_STAT n]) (.cis :: eventParts) h k

/-- A ring like the closed ring of an uncoded packet, with no stop that waits, shows the packet that entered it. -/
theorem packetEntered_of_ring {n : Nat} {p : OpenPkt} {stop : Bool} {h k : Hub} {r : Ring} (hp : p.ratio = 0) (hring : k.ring n = r)
    (hpackets : r.packets = (h.closedRing n p stop).packets) (hopen : r.open? = none) (hspans : r.spans = [])
    (hseq : k.fld (CIS_SEQ_NEXT n) = (h.fld (CIS_SEQ_NEXT n) + 1) % 2 ^ 32) (hs : OneStream [CIS_SEQ n, CIS_RING_STAT n] n h k) :
    PacketEntered n p stop h k := by
  subst hring
  refine ⟨⟨_, hpackets, rfl, rfl, rfl, rfl, rfl, rfl, rfl, rfl, rfl, rfl, rfl, ?_, rfl⟩, hopen, hspans, hseq, hs.others, hs.framed⟩
  simp [Hub.sealed, hp]

theorem PacketEntered.timed {n : Nat} {p : OpenPkt} {stop : Bool} {h k : Hub} (a : PacketEntered n p stop h.passTime k) :
    PacketEntered n p stop h k.wrapTime := by
  obtain ⟨hpk, hopen, hspans, hseq, hothers, hframed⟩ := a
  simp only [Hub.ring_passTime, Hub.fld_passTime] at hpk hseq hothers
  exact ⟨by simpa using hpk, by simpa using hopen, by simpa using hspans, by simpa using hseq, by simpa using hothers, hframed.timed⟩

section

variable {s : State} {n : Nat} {p : OpenPkt} (ha : s.hub.awake) (hc : s.hub.ClosesAlone n p)
include ha hc

/-- A packet with a credit, of age or of records, enters its ring. -/
theorem packetClose_entered (hd : p.dropped = false) (hs : (s.hub.ring n).spans = [])
    (hage : p.fmt = fmtRecords ∨ s.hub.pastAge n p ∧ (s.hub.ring n).inSet = false) :
    Completes (.packetClose n) s fun k => PacketEntered n p false s.hub k := by
  refine completes_onHub rfl ha ?_
  rw [Hub.ageClose_closes (h := s.hub.passTime) hc.filling hs hage]
  obtain ⟨c, hk⟩ := Hub.closePacket_whole (Hub.closesAlone_passTime.2 hc) hd false
  exact (packetEntered_of_ring hc.uncoded hk.ring rfl rfl hs hk.seq hk.stream).timed

/-- A packet without a credit is dropped whole. -/
theorem packetClose_dropped (hd : p.dropped = true) (hs : (s.hub.ring n).spans = [])
    (hage : p.fmt = fmtRecords ∨ s.hub.pastAge n p ∧ (s.hub.ring n).inSet = false)
    (hfull : s.hub.ringSize n < s.hub.ringBytes n + (s.hub.ring n).maxPkt + 64) : Completes (.packetClose n) s fun k =>
      k.ring n = { s.hub.droppedRing n p with credit := false } ∧ k.fld (CIS_SEQ_NEXT n) = (s.hub.fld (CIS_SEQ_NEXT n) + 1) % 2 ^ 32 ∧
      OneStream [CIS_SEQ n, CIS_RING_STAT n] n s.hub k := by
  refine completes_onHub rfl ha ?_
  rw [Hub.ageClose_closes (h := s.hub.passTime) hc.filling hs hage]
  have hk := Hub.closePacket_dropped (Hub.closesAlone_passTime.2 hc) hd false hfull
  exact ⟨(Hub.ring_wrapTime ..).trans (hk.ring.trans (by simp [Hub.droppedRing, Hub.droppedSpan])),
    (Hub.fld_wrapTime ..).trans (hk.seq.trans (by simp)), hk.stream.timed⟩

/-- The last packet before a stop carries STOP. -/
theorem packetClose_stopped (hd : p.dropped = false) {t : Int × Int} (hs : (s.hub.ring n).spans = [t]) (hr : (s.hub.ring n).running = false)
    (hw : (s.hub.ring n).waiting = []) :
    Completes (.packetClose n) s fun k => PacketEntered n p true s.hub k ∧ Hub.oneMore 148 s.hub k := by
  refine completes_onHub rfl ha ?_
  have hset : (s.hub.passTime.afterSet n).ClosesAlone n p := Hub.closesAlone_afterSet (Hub.closesAlone_passTime.2 hc)
  obtain ⟨c, hk⟩ := Hub.closePacket_whole hset hd true
  have hring := s.hub.passTime.closedRing_afterSet n p true
  have hstep := (s.hub.passTime.oneStream_afterSet n).trans hk.stream
  obtain ⟨hring', hseq, hstop, hstream⟩ := Hub.reportStop_done (t := t.2) (Hub.ring_setRing_self ..) (hstep.setRing _)
    (hk.events 148 (by decide))
  rw [Hub.ageClose_stop (h := s.hub.passTime) hs hw hk.ring (by rw [hring]; exact hr)]
  refine ⟨(packetEntered_of_ring (h := s.hub.passTime) hc.uncoded hring' ?_ ?_ rfl (hseq.trans hk.seq) hstream).timed, Hub.oneMore_timed hstop⟩
  · rw [hring]
  · rw [hring]; rfl

omit hc in
/-- With no packet open a stop is only reported. -/
theorem packetClose_stopped_alone {t : Int × Int} (ho : (s.hub.ring n).open? = none) (hs : (s.hub.ring n).spans = [t])
    (hr : (s.hub.ring n).running = false) (hw : (s.hub.ring n).waiting = []) : Completes (.packetClose n) s fun k =>
      (k.ring n).spans = [] ∧ (k.ring n).packets = (s.hub.ring n).packets ∧ k.fld (CIS_SEQ_NEXT n) = s.hub.fld (CIS_SEQ_NEXT n) ∧
      Hub.oneMore 148 s.hub k := by
  refine completes_onHub rfl ha ?_
  have hset : (s.hub.passTime.afterSet n).ring n = { s.hub.ring n with inSet := false } := Hub.ring_setRing_self ..
  have hidle : (s.hub.passTime.afterSet n).closePacket n true = s.hub.passTime.afterSet n := by
    simp only [Hub.closePacket, hset, ho]
  obtain ⟨hring, hseq, hstop, -⟩ := Hub.reportStop_done (t := t.2) (Hub.ring_setRing_self ..)
    ((s.hub.passTime.oneStream_afterSet n).setRing { s.hub.ring n with inSet := false, spans := [] }) rfl
  rw [Hub.ageClose_stop (h := s.hub.passTime) (r := { s.hub.ring n with inSet := false }) hs hw (by rw [hidle]; exact hset) hr, hidle]
  refine ⟨by rw [Hub.ring_wrapTime, hring], by rw [Hub.ring_wrapTime, hring], ?_, Hub.oneMore_timed hstop⟩
  rw [Hub.fld_wrapTime, hseq, Hub.fld_setRing, Hub.afterSet, Hub.fld_setRing, Hub.fld_passTime]

end

/-- Settles O25: with nothing behind it a packet that closes takes the next number and enters its ring or the span the ring holds, and
what its age decides is whether it closes, waits for its set, or stays. -/
theorem packetsClose : Obligations.PacketsClose := by
  intro s n ha hn r next hf hh hg
  refine ⟨fun p hp hr hc hsp => ?_, fun t ho hs hrun hw => packetClose_stopped_alone ha ho hs hrun hw⟩
  have halone : s.hub.ClosesAlone n p := ⟨hp, hr, hc, hsp, hf, hg, hh⟩
  refine ⟨fun hd hs hage => packetClose_entered ha halone hd hs hage, fun t hd hs hrun hw => packetClose_stopped ha halone hd hs hrun hw,
    fun hs hfmt hage => ?_, fun hs hfmt hold hset => ?_, fun hd hs hage hfull => ?_⟩
  · refine completes_onHub rfl ha (Framed.timed ?_)
    rw [Hub.ageClose_ageless (h := s.hub.passTime) hp hs hfmt hage]
    exact framed_refl _
  · refine completes_onHub rfl ha ?_
    rw [Hub.ageClose_waits (h := s.hub.passTime) hp hs hfmt hold hset]
    have hstream := ((OneStream.refl [] n s.hub.passTime).setRing { s.hub.passTime.ring n with closeDue := true }).timed
    exact ⟨by simp [r], hstream.others, (framed_setRing s.hub.passTime n _).timed⟩
  · refine (packetClose_dropped ha halone hd hs hage hfull).mono fun k ⟨hring, hseq, hstream⟩ => ?_
    rw [hring]
    exact ⟨rfl, rfl, rfl, rfl, hseq, hstream.others, hstream.framed⟩

end Sys2Proof.Machine
end

section
/-!
PROOFS. Command words of the downlink (R257, R291-R294, R302, R304): what settles O30.
-/

namespace Sys2Proof.Machine

/-- From `h` to `k` the link sends: frames and control blocks leave its lanes, and nothing else of it moves. -/
structure LanesOnly (r : Nat → Prop) (h k : Hub) : Prop where
  framed : Framed r [.wl] h k
  wl : k.wl = { h.wl with lanes := k.wl.lanes, ctl := k.wl.ctl, linkNum := k.wl.linkNum }

namespace LanesOnly

variable {r : Nat → Prop} {h k l : Hub}

theorem refl (r : Nat → Prop) (h : Hub) : LanesOnly r h h := ⟨(framed_refl h).mono (fun _ hf => hf.elim) (by simp), rfl⟩

theorem trans (a : LanesOnly r h k) (b : LanesOnly r k l) : LanesOnly r h l :=
  ⟨(a.framed.trans b.framed).mono (by simp) (by simp), by rw [b.wl, a.wl]⟩

theorem put (a : LanesOnly r h k) {f : Fld} (hf : r f.addr) (v : Nat) : LanesOnly r h (k.put f v) :=
  a.trans ⟨(framed_put k f v).mono (by rintro _ rfl; exact hf) (by simp), rfl⟩

theorem tick (a : LanesOnly r h k) : LanesOnly r h k.tick :=
  a.trans ⟨(Hub.framed_tick k).mono (fun _ hf => hf.elim) (by simp), rfl⟩

theorem sendCtl (a : LanesOnly r h k) (n : Nat) (b : BitVec 64) : LanesOnly r h (k.sendCtl n b) :=
  a.trans ⟨(Hub.framed_withWl k _).mono (fun _ hf => hf.elim) (by simp), rfl⟩

theorem withLanes (a : LanesOnly r h k) (m : SMap SentFrame) : LanesOnly r h { k with wl := { k.wl with lanes := m } } :=
  a.trans ⟨(Hub.framed_withWl k _).mono (fun _ hf => hf.elim) (by simp), rfl⟩

theorem withLinkNum (a : LanesOnly r h k) (n : Nat) : LanesOnly r h { k with wl := { k.wl with linkNum := n } } :=
  a.trans ⟨(Hub.framed_withWl k _).mono (fun _ hf => hf.elim) (by simp), rfl⟩

theorem foldl {β : Type} {f : Hub → β → Hub} (hf : ∀ k b, LanesOnly r k (f k b)) (l : List β) (h : Hub) : LanesOnly r h (l.foldl f h) := by
  induction l generalizing h with
  | nil => exact refl r h
  | cons b l ih => exact (hf h b).trans (ih _)

end LanesOnly

namespace Hub

/-! ### Reply words (R283, R289, R290) -/

theorem logOf_lt (h : Hub) (l : Nat) : h.logOf l < 8 :=
  match l with
  | 0 | 1 | 2 | _ + 3 => fld_lt ..

/-- Frames leave by a lane there is. -/
theorem linkLane_lt {h : Hub} {k : Nat} (hk : h.linkLane = some k) : k < 8 := by
  have hmem : k ∈ h.activeLanes.map h.logOf := by
    rw [linkLane] at hk
    split_ifs at hk
    cases hf : (h.activeLanes.map h.logOf).find? fun k => !h.flag (WL_LANE_STAT_IDLE k) with
    | some x =>
      simp only [hf, Option.orElse_some, Option.some.injEq] at hk
      exact hk ▸ List.mem_of_find?_eq_some hf
    | none =>
      simp only [hf, Option.orElse_none] at hk
      exact List.mem_of_head? hk
  obtain ⟨l, -, rfl⟩ := List.mem_map.mp hmem
  exact logOf_lt h l

/-- No reply leaves in a state in which no frame is sent, and where no lane is active. -/
theorem linkLane_eq_none_iff (h : Hub) : h.linkLane = none ↔ h.sendsFrames = false ∨ h.activeLanes = [] := by
  rw [linkLane]
  cases h.sendsFrames
  · simp
  · cases h.activeLanes <;> simp

theorem sendFrame_lanesOnly {k : Nat} (hk : k < 8) (f : SentFrame) (h : Hub) : LanesOnly (inBlocks [9]) h (h.sendFrame k f) := by
  have hstat : inBlocks [9] (WL_LANE_STAT_IDLE k).addr := by
    simp only [WL_LANE_STAT_IDLE, WL_LANE_STAT, inBlocks, List.mem_singleton]; omega
  have hwake : LanesOnly (inBlocks [9]) h (h.wakeLane k) :=
    iteInduction (fun _ => (((LanesOnly.refl _ h).put hstat 0).sendCtl ..).tick) fun _ => LanesOnly.refl _ h
  exact hwake.withLanes _

theorem sendWords_lanesOnly {k : Nat} (hk : k < 8) (n : Nat) (ws : List (BitVec 64)) (h : Hub) :
    LanesOnly (inBlocks [9]) h (h.sendWords k n ws) := by
  induction n generalizing h ws with
  | zero => exact .refl _ h
  | succ n ih =>
    rw [sendWords]
    exact iteInduction (fun _ => .refl _ h) fun _ => ((sendFrame_lanesOnly hk _ h).withLinkNum _).trans (ih ..)

/-- One reply word joins those that wait, and leaves with them where frames are sent. -/
theorem answer_one (h : Hub) (w : BitVec 64) :
    (if h.linkLane = none then (h.answer [w]).wl.outbox = h.wl.outbox ∧ (h.answer [w]).wl.waiting = h.wl.waiting ++ [w]
      else (h.answer [w]).wl.outbox = h.wl.waiting ++ [w] ∧ (h.answer [w]).wl.waiting = []) ∧
    (h.answer [w]).wl.grant = h.wl.grant ∧ Framed (inBlocks [9]) [.wl] h (h.answer [w]) := by
  have hframe (x : Link) : Framed (inBlocks [9]) [.wl] h { h with wl := x } := (framed_withWl h x).mono (by simp) (by simp)
  cases hl : h.linkLane with
  | none =>
    have he : h.answer [w] = { h with wl := { h.wl with waiting := h.wl.waiting ++ [w] } } := by
      simp only [answer, hl, List.isEmpty_cons, Bool.false_eq_true, if_false]
    rw [he]
    exact ⟨⟨rfl, rfl⟩, rfl, hframe _⟩
  | some k =>
    have he : ∃ n, h.answer [w] =
        ({ h with wl := { h.wl with outbox := h.wl.waiting ++ [w], waiting := [] } } : Hub).sendWords k n (h.wl.waiting ++ [w]) := by
      simp only [answer, hl, List.isEmpty_cons, Bool.false_eq_true, if_false]
      exact ⟨_, rfl⟩
    obtain ⟨n, he⟩ := he
    have hs := sendWords_lanesOnly (linkLane_lt hl) n (h.wl.waiting ++ [w])
      { h with wl := { h.wl with outbox := h.wl.waiting ++ [w], waiting := [] } }
    rw [he, hs.wl]
    exact ⟨⟨rfl, rfl⟩, rfl, ((hframe _).trans hs.framed).mono (by simp) (by simp)⟩

/-- Whether a reply leaves depends on the link's state and its lane map alone. -/
theorem linkLane_eq_none_congr {h k : Hub} (hs : k.reg WL_STAT = h.reg WL_STAT) (hm : k.reg WL_LANE_MAP = h.reg WL_LANE_MAP) :
    k.linkLane = none ↔ h.linkLane = none := by
  have hlog : k.logOf = h.logOf := by
    funext l
    match l with
    | 0 | 1 | 2 | _ + 3 => simp only [logOf, fld, WL_LANE_MAP_LOG0, WL_LANE_MAP_LOG1, WL_LANE_MAP_LOG2, WL_LANE_MAP_LOG3, hm]
  have hstate : k.fld WL_STAT_STATE = h.fld WL_STAT_STATE := by simp only [fld, WL_STAT_STATE, hs]
  simp only [linkLane_eq_none_iff, sendsFrames, linkUp, linkState, activeLanes, hlog, hstate]

/-! ### Words refused (R302) -/

theorem wl_logViolation (h : Hub) (w0 w1 : Word) : (h.logViolation w0 w1).wl = h.wl := by
  rw [logViolation, bumpMod_wl, bump_wl, setReg_wl, setReg_wl, setReg_wl, setReg_wl]

/-- Of the link a violation moves only what it counts for its report. -/
theorem wl_violation (h : Hub) (source code opcode dlsn detail : Nat) :
    ∃ t n, (h.violation source code opcode dlsn detail).wl = { h.wl with violAt := t, violNew := n } := by
  have hdue (w0 w1 : Word) (d : List Nat) (t : Option Nat) (n : Nat) : ∃ t' n', ({ (h.logViolation w0 w1).raise 252 0 d with
      wl := { (h.logViolation w0 w1).wl with violAt := t, violNew := n } } : Hub).wl = { h.wl with violAt := t', violNew := n' } :=
    ⟨t, n, by rw [wl_logViolation]⟩
  have hlog (w0 w1 : Word) (n : Nat) : ∃ t' n', ({ h.logViolation w0 w1 with
      wl := { (h.logViolation w0 w1).wl with violNew := n } } : Hub).wl = { h.wl with violAt := t', violNew := n' } :=
    ⟨h.wl.violAt, n, by rw [wl_logViolation]⟩
  rw [violation]
  split_ifs
  · exact hdue ..
  · exact hlog ..

/-- The violation log stands behind the link's own registers. -/
theorem framed_violation_log (h : Hub) (source code opcode dlsn detail : Nat) :
    Framed (WL_VLOG_CNT ≤ ·) (.wl :: eventParts) h (h.violation source code opcode dlsn detail) := by
  have hlog (w0 w1 : Word) : Framed (WL_VLOG_CNT ≤ ·) [] h (h.logViolation w0 w1) := by
    refine ((((((framed_setReg ..).trans (framed_setReg ..)).trans (framed_setReg ..)).trans (framed_setReg ..)).trans (framed_bump ..)).trans
      (framed_bumpMod ..)).mono (fun a ha => ?_) (by simp)
    simp only [WL_VLOG_CNT_HEAD, WL_VLOG_CNT_TOTAL, WL_VLOG_CNT, WL_VLOG_W0, WL_VLOG_W1, WL_VLOG_W2, WL_VLOG_W3] at ha ⊢
    omega
  exact violation_cases (P := Framed (WL_VLOG_CNT ≤ ·) (.wl :: eventParts) h) _ _ _ _ _
    (fun w0 w1 n w => (((hlog w0 w1).trans (framed_raise _ 252 0 [n])).trans (framed_withWl _ w)).mono (by simp) (by simp))
    (fun w0 w1 w => ((hlog w0 w1).trans (framed_withWl _ w)).mono (by simp) (by simp))

theorem linkLane_violation (h : Hub) (source code opcode dlsn detail : Nat) :
    (h.violation source code opcode dlsn detail).linkLane = none ↔ h.linkLane = none := by
  have hf := framed_violation_log h source code opcode dlsn detail
  exact linkLane_eq_none_congr (hf.1 _ (by decide)) (hf.1 _ (by decide))

/-- A reply stands last among those that wait for a LINK frame, in one that leaves where frames are sent (R289, R290). -/
def Answered (w : BitVec 64) (h k : Hub) : Prop :=
  if h.linkLane = none then k.wl.outbox = h.wl.outbox ∧ k.wl.waiting = h.wl.waiting ++ [w]
  else k.wl.outbox = h.wl.waiting ++ [w] ∧ k.wl.waiting = []

/-- A word refused changes nothing but its entry in the log and the NAK that answers it. -/
structure Refused (w : BitVec 64) (h k : Hub) : Prop where
  answered : Answered w h k
  grant : k.wl.grant = h.wl.grant
  framed : Framed (inBlocks [9]) (.wl :: eventParts) h k

theorem refused_answer_violation (h : Hub) (source code opcode dlsn detail : Nat) (w : BitVec 64) :
    Refused w h ((h.violation source code opcode dlsn detail).answer [w]) := by
  obtain ⟨t, n, hwl⟩ := wl_violation h source code opcode dlsn detail
  obtain ⟨hans, hgrant, hframed⟩ := answer_one (h.violation source code opcode dlsn detail) w
  rw [hwl] at hans hgrant
  simp only [linkLane_violation] at hans
  exact ⟨hans, hgrant, ((framed_violation ..).trans hframed).mono (by simp) (by simp)⟩

theorem Refused.timed {w : BitVec 64} {h k : Hub} (a : Refused w h.passTime k) : Refused w h k.wrapTime := by
  obtain ⟨hans, hgrant, hframed⟩ := a
  exact ⟨by rw [Answered, wrapTime_wl]; exact hans, by rw [wrapTime_wl]; exact hgrant, hframed.timed⟩

/-! ### A word as a command -/

section
variable {h k : Hub} {op detail code : Nat} {f : Hub → WordResult × Hub} (hd : h.flag WL_STAT_DOWNLINK_OK = true)
include hd

/-- A word that needs no reply does what it says. -/
theorem wordCmd_done (hu : h.linkUp = true) (hf : f h = ({}, k)) : h.wordCmd op detail f = k := by
  simp [wordCmd, downlinkWord, nakWord, hd, hu, hf, answer]

/-- A word that is not carried out is logged and answered with a NAK (R302). -/
theorem wordCmd_refused (hu : h.linkUp = true) (hf : f h = ({ nak := some (code, detail) }, h)) (d : Nat) :
    Refused (replyNak 0 code h.wl.dlsn op) h (h.wordCmd op d f) := by
  have he : h.wordCmd op d f = (h.violation 0 code op h.wl.dlsn detail).answer [replyNak 0 code h.wl.dlsn op] := by
    simp [wordCmd, downlinkWord, nakWord, hd, hu, hf]
  exact he ▸ refused_answer_violation ..

/-- A word while the link carries none is refused with BAD_STATE (R413). -/
theorem wordCmd_badState (hu : h.linkUp = false) : Refused (replyNak 0 12 h.wl.dlsn op) h (h.wordCmd op detail f) := by
  have he : h.wordCmd op detail f = (h.violation 0 12 op h.wl.dlsn detail).answer [replyNak 0 12 h.wl.dlsn op] := by
    simp [wordCmd, downlinkWord, nakWord, hd, hu]
  exact he ▸ refused_answer_violation ..

end

/-! ### CREDIT (R292) -/

section
variable {h : Hub} {n g : Nat} (hn : n < 128) (hs : h.ringSize n ≠ 0) (hc : h.fld (CIS_STREAM_CFG_CLASS n) ≠ 0)
include hn hs hc

/-- The streams that have credits are those with a ring that are not of class INTERLOCK. -/
theorem hasCredits : (decide (128 ≤ n) || h.ringSize n == 0 || h.fld (CIS_STREAM_CFG_CLASS n) == 0) = false := by
  simp only [Bool.or_eq_false_iff, decide_eq_false_iff_not, beq_eq_false_iff_ne]
  exact ⟨⟨Nat.not_le.mpr hn, hs⟩, hc⟩

/-- A grant that moves forward within the bound is the stream's. -/
theorem creditWord_granted (hf : (g + 2 ^ 32 - SMap.get (fun _ => 0) h.wl.grant n) % 2 ^ 32 < 2 ^ 31)
    (hb : (g + 2 ^ 32 - SMap.get (fun _ => 0) h.wl.used n) % 2 ^ 32 ≤ 2 ^ 24) :
    h.creditWord n g =
      ({}, ({ h with wl := { h.wl with grant := SMap.set (fun _ => 0) h.wl.grant n g } } : Hub).showCredit n) := by
  simp only [creditWord, hasCredits hn hs hc, Bool.false_eq_true, if_false, if_neg (Nat.not_le.mpr hf), decide_eq_true_eq,
    if_neg (Nat.not_lt.mpr hb)]

/-- A grant that moves backwards is refused with CREDIT_BACK. -/
theorem creditWord_back (hb : 2 ^ 31 ≤ (g + 2 ^ 32 - SMap.get (fun _ => 0) h.wl.grant n) % 2 ^ 32) :
    h.creditWord n g = ({ nak := some (6, g) }, h) := by
  simp only [creditWord, hasCredits hn hs hc, Bool.false_eq_true, if_false, if_pos hb]

end

/-- What a CREDIT leaves: the stream's grant, and the credit it shows, which is what the grant leaves over what was used. -/
theorem credit_done (h : Hub) (n : Nat) {g : Nat} (hused : SMap.get (fun _ => 0) h.wl.used n < 2 ^ 32)
    (hb : (g + 2 ^ 32 - SMap.get (fun _ => 0) h.wl.used n) % 2 ^ 32 ≤ 2 ^ 24) :
    let k := ({ h with wl := { h.wl with grant := SMap.set (fun _ => 0) h.wl.grant n g } } : Hub).showCredit n
    k.wl.grant = SMap.set (fun _ => 0) h.wl.grant n g ∧
      k.fld (WL_CREDIT_AVAIL n) = (g + 2 ^ 32 - SMap.get (fun _ => 0) h.wl.used n) % 2 ^ 32 ∧ Framed (among [WL_CREDIT n]) [.wl] h k := by
  refine ⟨by rw [showCredit, put_wl], ?_, ((framed_withWl h _).trans (framed_put ..)).mono (by simp [WL_CREDIT_AVAIL]) (by simp)⟩
  rw [showCredit, fld_put_self _ _ _ (by simp [WL_CREDIT_AVAIL]), credit, SMap.get_set_self, Nat.mod_eq_of_lt hused]
  exact Nat.mod_eq_of_lt (hb.trans_lt (by simp [WL_CREDIT_AVAIL]))

/-! ### ACK (R293) -/

/-- Packets released leave their ring, and no other stream. -/
theorem releasePackets_done {h : Hub} {n : Nat} (hh : (h.ring n).held = none) (c : Nat) :
    ((h.releasePackets n c).ring n).packets = (h.ring n).packets.drop c ∧ ((h.releasePackets n c).ring n).held = none ∧
      OneStream [CIS_RING_STAT n] n h (h.releasePackets n c) := by
  have hgone : OneStream [CIS_RING_STAT n] n h (h.setRing n { h.ring n with packets := (h.ring n).packets.drop c, sent := (h.ring n).sent - c }) :=
    (OneStream.refl _ n h).setRing _
  rw [releasePackets, ring_refreshRing]
  split_ifs
  · rw [ring_setRing_self]
    exact ⟨rfl, hh, hgone.trans (oneStream_refreshRing n _)⟩
  · rw [issueCredit_of_held_none (by rw [ring_setRing_self]; exact hh), ring_setRing_self, ring_setRing_self]
    exact ⟨rfl, hh, (hgone.setRing _).trans (oneStream_refreshRing n _)⟩

/-- The packets of one stream that an ACK names are released. -/
def releaseOf (gone : List (Nat × Nat)) (h : Hub) (n : Nat) : Hub :=
  let c := gone.countP fun p => p.2 == n
  if c = 0 then h else h.releasePackets n c

/-- What streams below `b` have released: each the packets an ACK names, and nothing but rings and what shows them has moved. -/
structure Released (gone : List (Nat × Nat)) (b : Nat) (h k : Hub) : Prop where
  packets : ∀ n, (k.ring n).packets = if n < b then (h.ring n).packets.drop (gone.countP fun p => p.2 == n) else (h.ring n).packets
  held : ∀ n, (k.ring n).held = none
  framed : Framed (· < 0x90000) (.cis :: eventParts) h k

theorem Released.step {gone : List (Nat × Nat)} {b : Nat} {h k : Hub} (hb : b < 128) (a : Released gone b h k) :
    Released gone (b + 1) h (releaseOf gone k b) := by
  obtain ⟨hp, hh, hf⟩ := a
  rw [releaseOf]
  split_ifs with hc
  · refine ⟨fun n => ?_, hh, hf⟩
    rw [hp n]
    rcases lt_trichotomy n b with hn | rfl | hn
    · rw [if_pos hn, if_pos (by omega)]
    · simp [hc]
    · rw [if_neg (by omega), if_neg (by omega)]
  · obtain ⟨hpb, hhb, hone⟩ := releasePackets_done (hh b) (gone.countP fun p => p.2 == b)
    refine ⟨fun n => ?_, fun n => ?_, (hf.trans hone.framed).mono (fun x hx => hx.elim id fun hr => ?_) (by simp)⟩
    · by_cases hn : n = b
      · subst hn
        rw [hpb, hp n, if_neg (by omega), if_pos (by omega)]
      · rw [hone.others n hn, hp n]
        exact if_congr (by omega) rfl rfl
    · by_cases hn : n = b
      · exact hn ▸ hhb
      · rw [hone.others n hn, hh n]
    · simp only [among, List.mem_singleton, CIS_RING_STAT] at hr
      omega

theorem released_foldl {h : Hub} (hh : ∀ n, (h.ring n).held = none) (gone : List (Nat × Nat)) {b : Nat} (hb : b ≤ 128) :
    Released gone b h ((List.range b).foldl (releaseOf gone) h) := by
  induction b with
  | zero => exact ⟨fun n => by simp, hh, (framed_refl h).mono (fun _ hx => hx.elim) (by simp)⟩
  | succ b ih =>
    rw [List.range_succ, List.foldl_append]
    exact (ih (by omega)).step (by omega)

/-- The link once LSN `a` is acknowledged, `d` frames after the last ACK. -/
def ackedLink (l : Link) (a d : Nat) : Link :=
  { l with acked := (a + 1) % 2 ^ 32, unacked := l.unacked.drop d, windowFull := false
           resend := l.resend.filter fun n => (l.unacked.drop d).any fun p => p.1 == n }

/-- An ACK within the frames sent moves the link's record of them and releases their packets. -/
theorem ackWord_eq {h : Hub} {a d : Nat} (hd : (a + 1 + 2 ^ 32 - h.wl.acked) % 2 ^ 32 = d) (h0 : 0 < d) (h1 : d < 2 ^ 31) (ho : d ≤ h.outstanding) :
    h.ackWord a = ({}, (List.range 128).foldl (releaseOf (h.wl.unacked.take d))
      (({ h with wl := ackedLink h.wl a d } : Hub).put WL_LSN_ACKED a)) := by
  simp only [ackWord, hd, if_neg (Nat.not_le.mpr h1), if_neg (Nat.not_lt.mpr ho), if_neg h0.ne']
  rfl

/-- What an ACK makes of the link, of the rings and of the register that shows it. -/
structure Acked (a d : Nat) (h k : Hub) : Prop where
  wl : k.wl = ackedLink h.wl a d
  shown : k.fld WL_LSN_ACKED = a
  packets : ∀ n < 128, (k.ring n).packets = (h.ring n).packets.drop ((h.wl.unacked.take d).countP fun p => p.2 == n)

theorem ackWord_acked {h : Hub} {a : Nat} (ha : a < 2 ^ 32) {d : Nat} (hh : ∀ n, (h.ring n).held = none) :
    Acked a d h ((List.range 128).foldl (releaseOf (h.wl.unacked.take d)) (({ h with wl := ackedLink h.wl a d } : Hub).put WL_LSN_ACKED a)) := by
  have hring (n : Nat) : (({ h with wl := ackedLink h.wl a d } : Hub).put WL_LSN_ACKED a).ring n = h.ring n := ring_congr (by rw [put_cis]) n
  obtain ⟨hp, -, hf⟩ := released_foldl (fun n => by rw [hring, hh]) (h.wl.unacked.take d) (le_refl 128)
    (h := ({ h with wl := ackedLink h.wl a d } : Hub).put WL_LSN_ACKED a)
  have hwl := hf.2 .wl (by simp)
  refine ⟨hwl.trans (by rw [put_wl]), ?_, fun n hn => ?_⟩
  · rw [hf.fld_eq (by decide), fld_put_self _ _ _ (by decide)]
    exact Nat.mod_eq_of_lt ha
  · rw [hp n, if_pos hn, hring]

/-! ### RETX (R294) -/

/-- The LSNs from `n` on that were sent and not acknowledged, as a RETX of `n` asks for. -/
def framesFrom (h : Hub) (n : Nat) : List Nat :=
  ((h.wl.unacked.filter fun p => decide (p.2 < 128)).map Prod.fst).filter fun l =>
    decide ((n + 2 ^ 32 - h.wl.acked) % 2 ^ 32 ≤ (l + 2 ^ 32 - h.wl.acked) % 2 ^ 32)

theorem abortLane_lanesOnly (h : Hub) (k : Nat) : LanesOnly (among [WL_CNT_W3]) h (h.abortLane k) := by
  rw [abortLane]
  split
  next f _ =>
    have hout : LanesOnly (among [WL_CNT_W3]) h
        { h with wl := { h.wl with lanes := SMap.erase h.wl.lanes k }, fresh := h.fresh + 1 } := ((LanesOnly.refl _ h).withLanes (SMap.erase h.wl.lanes k)).tick
    exact iteInduction (fun _ => (hout.put (by simp [WL_CNT_ABORTED]) _).sendCtl ..) fun _ => hout
  · exact .refl _ h

/-- A resend asks for its frames, and ends those that run. -/
theorem resendFrom_lanesOnly (h : Hub) (n : Nat) :
    LanesOnly (among [WL_CNT_W3]) { h with wl := { h.wl with resend := h.framesFrom n } } (h.resendFrom n) := by
  refine LanesOnly.foldl (fun k b => ?_) _ _
  split
  · exact iteInduction (fun _ => abortLane_lanesOnly k b) fun _ => .refl _ k
  · exact .refl _ k

/-- The first RETX of a turn for a frame that is out raises the event. -/
theorem retxWord_eq {h : Hub} {n : Nat} (ho : h.isOut n = true) (hd : h.wl.retxDone = false) : ∃ d,
    h.retxWord n = ({}, { (h.resendFrom n).raise 177 0 d with wl := { (h.resendFrom n).wl with retxDone := true, retxMore := 0 } }) := by
  have hdone : (h.resendFrom n).wl.retxDone = false := by rw [(resendFrom_lanesOnly h n).wl]; exact hd
  simp only [retxWord, ho, Bool.not_true, hdone, Bool.false_eq_true, if_false]
  exact ⟨_, rfl⟩

/-- What a RETX leaves: its frames wait to be resent, and the event is raised. -/
theorem retx_done (h : Hub) (n : Nat) (d : List Nat) :
    let k : Hub := { (h.resendFrom n).raise 177 0 d with wl := { (h.resendFrom n).wl with retxDone := true, retxMore := 0 } }
    k.wl.resend = h.framesFrom n ∧ k.wl.retxDone = true ∧ oneMore 177 h k ∧ Framed (among [WL_CNT_W3]) (.wl :: eventParts) h k := by
  have hl := resendFrom_lanesOnly h n
  refine ⟨?_, rfl, ?_, ?_⟩
  · dsimp only
    rw [hl.wl]
  · have hevt : (h.resendFrom n).evt = h.evt := hl.framed.2 .evt (by simp)
    rw [oneMore, occurrences_withWl, occurrences_raise, if_pos rfl, occurrences_congr hevt]
  · exact (((framed_withWl h _).trans hl.framed).trans ((framed_raise _ 177 0 d).trans (framed_withWl _ _))).mono (by simp) (by simp)

end Hub

/-- Settles O30: a word is carried out as its own equation says, or it is refused, which leaves its NAK among the replies and its entry in
the log. -/
theorem commandWords : Obligations.CommandWords := by
  intro s ha hd
  have hd' : s.hub.passTime.flag WL_STAT_DOWNLINK_OK = true := by rwa [Hub.flag_passTime]
  refine ⟨fun hu => ?_, fun hu => ?_⟩
  · have hu' : s.hub.passTime.linkUp = true := hu
    refine ⟨?_, fun n g hn hg hs hc => ⟨fun hf hb hused => ?_, fun hb => ?_⟩, fun a ha32 h0 h1 ho hh => ?_, fun n hn ho hr => ?_,
      fun n h0 hn hs hf ho => ?_⟩
    · refine completes_onHub rfl ha (Framed.timed ?_)
      rw [Hub.wordCmd_done hd' hu' rfl]
      exact framed_refl _
    · refine completes_onHub rfl ha ?_
      rw [Hub.wordCmd_done hd' hu' (Hub.creditWord_granted (h := s.hub.passTime) hn hs (by rwa [Hub.fld_passTime]) hf hb)]
      obtain ⟨hgrant, hshown, hframed⟩ := s.hub.passTime.credit_done n hused hb
      refine ⟨?_, by rw [Hub.fld_wrapTime]; exact hshown, fun m hm => ?_, hframed.timed⟩
      · rw [Hub.wrapTime_wl, hgrant, SMap.get_set_self]
      · rw [Hub.wrapTime_wl, hgrant, SMap.get_set_ne _ _ _ hm, Hub.passTime_wl]
    · refine completes_onHub rfl ha ?_
      have hr := Hub.wordCmd_refused (op := 1) hd' hu' (Hub.creditWord_back (h := s.hub.passTime) hn hs (by rwa [Hub.fld_passTime]) hb) n
      exact ⟨hr.timed.grant, hr.timed.answered, hr.timed.framed⟩
    · refine completes_onHub rfl ha ?_
      rw [Hub.wordCmd_done hd' hu' (Hub.ackWord_eq (h := s.hub.passTime) rfl h0 h1 ho)]
      obtain ⟨hwl, hshown, hp⟩ := Hub.ackWord_acked (h := s.hub.passTime) ha32 hh
      refine ⟨?_, by rw [Hub.fld_wrapTime]; exact hshown, ?_, fun n hn => by rw [Hub.ring_wrapTime, hp n hn, Hub.ring_passTime, Hub.passTime_wl]⟩
      · rw [Hub.wrapTime_wl, hwl, Hub.ackedLink]
      · rw [Hub.wrapTime_wl, hwl, Hub.ackedLink, Hub.passTime_wl]
    · obtain ⟨d, he⟩ := Hub.retxWord_eq (h := s.hub.passTime) ho hr
      refine completes_onHub rfl ha ?_
      rw [Hub.wordCmd_done hd' hu' he]
      obtain ⟨hres, hdone, hone, hf⟩ := s.hub.passTime.retx_done n d
      exact ⟨hres, hdone, Hub.oneMore_timed hone, hf.timed⟩
    · obtain ⟨hring, hstream⟩ := s.hub.passTime.flushWaits_done n
      refine completes_onHub rfl ha ?_
      have hw := Hub.requestFlush_waits (h := s.hub.passTime) h0.ne' hn hs (by simpa using hf) (by simpa using ho)
      rw [Hub.wordCmd_done hd' hu' (by rw [Hub.flushWord, hw])]
      exact ⟨by rw [Hub.ring_wrapTime, hring, Hub.ring_passTime], hstream.timed.framed⟩
  · refine completes_onHub rfl ha ?_
    have hr := Hub.wordCmd_badState (op := 0) (detail := 0) (f := fun h => ({}, h)) hd' (show s.hub.passTime.linkUp = false from hu)
    exact ⟨hr.timed.answered, hr.timed.framed⟩

end Sys2Proof.Machine
end

section
/-!
PROOFS. DATA frames beside INTERLOCK copies (R286-R288): what refutes O32.
-/

namespace Sys2Proof.Machine

/-- An armed hub whose link works on lanes 0 to 3, with a packet ready in INTERLOCK stream 5 and frame 7 waiting to be resent. Its LT
stands at 2^65, and lanes 0 and 1 took copies at an LT of 2^64: they are past, until LT is taken modulo 2^64 again (log 3). -/
def lateCopies : State :=
  let h := (({} : Hub).put DEV_STATE_STEP 6).put WL_STAT_STATE 4
  let h := (h.setReg WL_LANE_MAP (BitVec.ofNat 32 (4 * 4096 + 3 * 512 + 2 * 64 + 8))).put (CIS_STREAM_CFG_CLASS 5) 0
  let h := h.setRing 5 { packets := [{ stream := 5, body := [1, 2, 3, 4] }] }
  { hub := { h with lt := 2 ^ 65, wl := { resend := [7], inner := [(0, [{ lt := 2 ^ 64 }]), (1, [{ lt := 2 ^ 64 }])] } } }

/-- Before the command no lane carries a copy, and the next copies are for lanes 0 and 1. -/
theorem copyLanes_lateCopies : lateCopies.hub.copyLanes = [0, 1] := by decide

/-- Once time has passed lanes 0 and 1 carry their copies, and the next ones are for lanes 2 and 3. -/
theorem copyLanes_lateCopies_passTime : lateCopies.hub.passTime.copyLanes = [2, 3] := by
  have hlt := lateCopies.hub.passTime_lt_lt
  have hcopy (k : Nat) : lateCopies.hub.passTime.carriesCopy k = decide (k < 2) := by
    have hin : lateCopies.hub.passTime.wl.inner = [(0, [{ lt := 2 ^ 64 }]), (1, [{ lt := 2 ^ 64 }])] := rfl
    have hnew : 32 * lateCopies.hub.passTime.lt < 32 * 2 ^ 64 + ({ lt := 2 ^ 64 } : SentFrame).span := by omega
    rw [Hub.carriesCopy, hin]
    match k with
    | 0 | 1 => simpa [SMap.get, SMap.find?] using hnew
    | _ + 2 => simp [SMap.get, SMap.find?]
  have hlanes : lateCopies.hub.passTime.activeLanes = [0, 1, 2, 3] := by decide
  have hlog : ∀ l < 4, lateCopies.hub.passTime.logOf l = l := by decide
  rw [Hub.copyLanes, hlanes]
  simp [hcopy, hlog]

/-- A lane that an INTERLOCK packet waits for takes no DATA frame. -/
theorem dataFrame_of_copyLane {h : Hub} {l : Nat} (hi : h.interlockReady.isSome = true) (hl : l ∈ h.copyLanes) : h.dataFrame l = h := by
  simp [Hub.dataFrame, hi, hl]

/-- Refutes O32: the lanes an INTERLOCK packet waits for are taken before the command's time passes, and LT is not bounded by its 64 bits.
In `lateCopies` lane 2 is free of INTERLOCK frames before; once LT has wrapped lanes 0 and 1 carry copies, the packet waits for lanes 2
and 3, and frame 7 is not resent on lane 2. -/
theorem not_framesLeave : ¬ Obligations.FramesLeave := by
  intro h
  have ha : lateCopies.hub.awake := by decide
  have hl : 2 ∉ lateCopies.hub.copyLanes := by rw [copyLanes_lateCopies]; decide
  obtain ⟨hresend, -⟩ := (h lateCopies 2 ha (by decide) (by decide) (by decide)).1 (Or.inr hl)
  obtain ⟨hnone, -⟩ := (completes_onHub_iff rfl ha).1 (hresend 7 [] rfl)
  rw [dataFrame_of_copyLane (by decide) (by rw [copyLanes_lateCopies_passTime]; decide), Hub.wrapTime_wl, Hub.passTime_wl] at hnone
  cases hnone

end Sys2Proof.Machine
end

section
/-!
PROOFS. Takeovers (R250, R432-R436): what refutes O51.
-/

namespace Sys2Proof.Machine

namespace Hub

/-! ### What of a takeover leaves TWN.STAT alone -/

theorem reg_driveCmp (h : Hub) {c : Nat} (hc : c < 512) : (h.driveCmp c).reg TWN_STAT = h.reg TWN_STAT :=
  (framed_driveCmpAt h c 0).1 _ (by simp only [AFE_CELL_STAT, TWN_STAT]; omega)

theorem reg_put_before (h : Hub) {f : Fld} (hf : f.addr < TWN_STAT) (v : Nat) : (h.put f v).reg TWN_STAT = h.reg TWN_STAT :=
  reg_put_ne _ _ _ hf.ne'

theorem reg_showCoef (h : Hub) {n : Nat} (hn : n < 544) : (h.showCoef n).reg TWN_STAT = h.reg TWN_STAT := by
  have ho : (CAL_COEF_OFFSET n).addr < TWN_STAT := by simp only [CAL_COEF_OFFSET, CAL_COEF_W0, TWN_STAT]; omega
  have hg : (CAL_COEF_GAIN n).addr < TWN_STAT := by simp only [CAL_COEF_GAIN, CAL_COEF_W1, TWN_STAT]; omega
  have hq : (CAL_COEF_Q_R n).addr < TWN_STAT := by simp only [CAL_COEF_Q_R, CAL_COEF_W2, TWN_STAT]; omega
  rw [showCoef, reg_put_before _ hq, reg_put_before _ hg, sput, reg_put_before _ ho]

theorem reg_setTap (h : Hub) {n : Nat} (hn : n < 544) : (h.setTap n).reg TWN_STAT = h.reg TWN_STAT := by
  have ht : CNV_APT_TAP n < TWN_STAT := by simp only [CNV_APT_TAP, TWN_STAT]; omega
  have hput (e b : Nat) : ((h.put (CNV_APT_TAP_TAP n) e).put (CNV_APT_TAP_CLAMPED n) b).reg TWN_STAT = h.reg TWN_STAT := by
    rw [reg_put_before _ ht, reg_put_before _ ht]
  rw [setTap]
  exact iteInduction (motive := fun k : Hub => k.reg TWN_STAT = h.reg TWN_STAT) (fun _ => (reg_raise ..).trans (hput ..)) fun _ => hput ..

theorem reg_joinSpare (h : Hub) {c : Nat} (hc : c < 512) (reason : Nat) : (h.joinSpare c reason).reg TWN_STAT = h.reg TWN_STAT := by
  have hs : CNV_SPARE_STAT (c / 16) < TWN_STAT := by simp only [CNV_SPARE_STAT, TWN_STAT]; omega
  have hn : 17 * (c / 16) + 16 < 544 := by omega
  rw [joinSpare, reg_setTap _ hn, reg_showCoef _ hn, (framed_setGroup ..).1 _ not_false, reg_put_before _ hs, reg_put_before _ hs,
    reg_put_before _ hs]

theorem reg_refreshRotation (h : Hub) {g : Nat} (hg : g < 32) : (h.refreshRotation g).reg TWN_STAT = h.reg TWN_STAT := by
  have hs : CAL_GRP_STAT g < TWN_STAT := by simp only [CAL_GRP_STAT, TWN_STAT]; omega
  have hok (v : Nat) : (h.put (CAL_GRP_STAT_SPARE_OK g) v).reg TWN_STAT = h.reg TWN_STAT := reg_put_before _ hs _
  have hst (v w : Nat) : ((h.put (CAL_GRP_STAT_SPARE_OK g) v).put (CAL_GRP_STAT_STATE g) w).reg TWN_STAT = h.reg TWN_STAT :=
    (reg_put_before _ hs _).trans (hok v)
  rw [refreshRotation]
  split_ifs
  · exact hok _
  · exact hst ..
  · exact hst ..
  · exact hst ..

theorem reg_startInputs (h : Hub) : h.startInputs.reg TWN_STAT = h.reg TWN_STAT := by
  rw [startInputs]
  refine List.foldlRecOn (motive := fun k : Hub => k.reg TWN_STAT = h.reg TWN_STAT) _ _
    (List.foldlRecOn (motive := fun k : Hub => k.reg TWN_STAT = h.reg TWN_STAT) _ _ rfl fun k hk c hc => ?_) fun k hk g hg => ?_
  · exact iteInduction (motive := fun k : Hub => k.reg TWN_STAT = h.reg TWN_STAT)
      (fun _ => (reg_driveCmp k (List.mem_range.mp hc)).trans hk) fun _ => hk
  · have hg32 := List.mem_range.mp hg
    have hi := k.fld_lt (CNV_SPARE_FIX_INPUT g)
    refine (reg_refreshRotation _ hg32).trans (iteInduction (motive := fun k : Hub => k.reg TWN_STAT = h.reg TWN_STAT)
      (fun _ => (reg_joinSpare k ?_ 2).trans hk) fun _ => hk)
    simp only [CNV_SPARE_FIX_INPUT] at hi ⊢
    omega

theorem fld_withTwn (h : Hub) (w : Twin) (f : Fld) : ({ h with twn := w } : Hub).fld f = h.fld f := rfl

theorem reg_startAges (h : Hub) (a : Nat) : h.startAges.reg a = h.reg a := rfl

/-- Where the role powers nothing and no domain is on, none is switched. -/
theorem settleDomains_dark {h : Hub} (hr : h.rolePowers = false) (h0 : h.reg PWR_DOM_STAT_W0 = 0) (h1 : h.reg PWR_DOM_STAT_W1 = 0)
    (cause : DomainCause) : h.settleDomains cause = h := by
  have hafe : h.fld PWR_DOM_STAT_AFE = 0 := by rw [fld, PWR_DOM_STAT_AFE, h0]; rfl
  have heng : h.fld PWR_DOM_STAT_ENG = 0 := by rw [fld, PWR_DOM_STAT_ENG, h1]; rfl
  have hfia : h.fld PWR_DOM_STAT_FIA = 0 := by rw [fld, PWR_DOM_STAT_FIA, h1]; rfl
  have hoff (code : Nat) : h.domainOn code = false := by
    rw [domainOn, afePowered, fiaOn, flag, hafe, heng, hfia]
    split_ifs <;> simp [bit]
  refine List.foldlRecOn (motive := fun k : Hub => k = h) _ _ rfl fun k hk code _ => ?_
  subst hk
  simp [setDomain, wanted, hr, hoff]

/-- The cut-offs of the Timetable write no register but the period of the series that runs. -/
theorem reg_cutEntries (h : Hub) (frames rest : Int) {a : Nat} (ha : a ≠ CNV_FRAME_PERIOD) : (h.cutEntries frames rest).reg a = h.reg a := by
  have hentry (k : Hub) (i : Nat) (cut : Int) : (k.cutEntry i cut).regs = k.regs := by
    rw [cutEntry]
    exact iteInduction (motive := fun l : Hub => l.regs = k.regs) (fun _ => rfl) fun _ =>
      iteInduction (motive := fun l : Hub => l.regs = k.regs) (fun _ => (raise_regs ..).trans (setEntry_regs ..)) fun _ =>
      iteInduction (motive := fun l : Hub => l.regs = k.regs) (fun _ => rfl) fun _ => (raise_regs ..).trans (setEntry_regs ..)
  have hall : (h.tt.entries.foldl (fun (h : Hub) (p : Nat × TtEntry) => h.cutEntry p.1 (if p.2.type = 1 then frames else rest)) h).regs = h.regs :=
    List.foldlRecOn (motive := fun k : Hub => k.regs = h.regs) _ _ rfl fun k hk p _ => (hentry k ..).trans hk
  rw [cutEntries]
  split
  · exact (reg_put_ne _ _ _ ha).trans (reg_congr hall a)
  · exact reg_congr hall a

end Hub

/-- The word of TWN.STAT with ROLE STANDBY. -/
def standbyWord : Word := BitVec.ofNat 32 (2 * 2 ^ TWN_STAT_ROLE.lo)

/-- The last checkpoint of `misled`: among its shared registers it names TWN.STAT, with ROLE STANDBY, and the domains, all off. -/
def strayCkpt : Ckpt := { shared := [(TWN_STAT, standbyWord), (PWR_DOM_STAT_W0, 0), (PWR_DOM_STAT_W1, 0)] }

/-- An armed standby whose mirror is CURRENT with `strayCkpt`, without heartbeats, and whose ALIVE_IN is about to be lost. -/
def misled : State :=
  let h := ((({ twn := { mirror := some strayCkpt } } : Hub).put DEV_STATE_STEP 6).put TWN_CFG_EN 1).put TWN_STAT_ROLE 2
  { hub := (h.put TWN_STAT_MIRROR 2).put TWN_STAT_ALIVE_OK 1 }

/-- What `strayCkpt` makes of the role and of the domains, whatever they were. -/
theorem applyCkpt_stray (h : Hub) (frames rest : Int) :
    (h.applyCkpt strayCkpt frames rest).reg TWN_STAT = standbyWord ∧ (h.applyCkpt strayCkpt frames rest).reg PWR_DOM_STAT_W0 = 0 ∧
      (h.applyCkpt strayCkpt frames rest).reg PWR_DOM_STAT_W1 = 0 := by
  have hstate (k : Hub) : ∃ l : Hub, k.applyState strayCkpt =
      ((l.setReg TWN_STAT standbyWord).setReg PWR_DOM_STAT_W0 0).setReg PWR_DOM_STAT_W1 0 := ⟨_, rfl⟩
  obtain ⟨l, hl⟩ := hstate ((h.applySettings strayCkpt.settings).applyTimetable strayCkpt)
  simp only [Hub.applyCkpt, hl]
  refine ⟨?_, ?_, ?_⟩
  · rw [Hub.reg_cutEntries _ _ _ (by decide), Hub.reg_setReg_ne _ _ (by decide), Hub.reg_setReg_ne _ _ (by decide), Hub.reg_setReg_self]
  · rw [Hub.reg_cutEntries _ _ _ (by decide), Hub.reg_setReg_ne _ _ (by decide), Hub.reg_setReg_self]
  · rw [Hub.reg_cutEntries _ _ _ (by decide), Hub.reg_setReg_self]

/-- Where its mirror is CURRENT a standby that takes over applies the checkpoint it holds, and settles domains and inputs by what that left. -/
theorem pairTakeOver_current {h : Hub} {P : Hub → Prop} (hr : h.role = .standby) (ha : h.flag TWN_STAT_ALIVE_OK = false)
    (hb : h.heartbeats = false) (hm : h.fld TWN_STAT_MIRROR = 2)
    (hP : ∀ (k : Hub) (frames rest : Int) (w : Twin),
      P { ((((k.applyCkpt (h.twn.mirror.getD {}) frames rest).settleDomains .role).startAges).startInputs) with twn := w }) : P h.pairTakeOver := by
  have hgo : ¬ (h.role ≠ .standby ∨ h.flag TWN_STAT_ALIVE_OK = true ∨ h.heartbeats = true) := by simp [hr, ha, hb]
  have hcur : (h.fld TWN_STAT_MIRROR == 2) = true := by rw [hm]; rfl
  rw [Hub.pairTakeOver, if_neg hgo]
  dsimp only
  rw [if_neg (by rw [hm]; decide)]
  simp only [hcur, if_true]
  exact hP ..

/-- A takeover that applies `strayCkpt` leaves the hub with the role of a standby. -/
theorem role_pairTakeOver {h : Hub} (hr : h.role = .standby) (ha : h.flag TWN_STAT_ALIVE_OK = false) (hb : h.heartbeats = false)
    (hm : h.fld TWN_STAT_MIRROR = 2) (hc : h.twn.mirror = some strayCkpt) : h.pairTakeOver.fld TWN_STAT_ROLE = 2 := by
  refine pairTakeOver_current (P := fun k => k.fld TWN_STAT_ROLE = 2) hr ha hb hm fun k frames rest w => ?_
  rw [hc, Option.getD_some]
  obtain ⟨hstat, h0, h1⟩ := applyCkpt_stray k frames rest
  have hdark : (k.applyCkpt strayCkpt frames rest).rolePowers = false := by
    simp only [Hub.rolePowers, Hub.fld, TWN_STAT_ROLE, hstat]
    decide
  refine (Hub.fld_withTwn _ w _).trans ?_
  rw [Hub.settleDomains_dark hdark h0 h1, Hub.fld, TWN_STAT_ROLE, Hub.reg_startInputs, Hub.reg_startAges, hstat]
  decide

/-- Refutes O51: the mirror may hold any checkpoint. That of `misled` names TWN.STAT among the shared registers it carries, so that applying
it takes the role back to STANDBY, where R433 has the hub in TAKING_OVER until R. -/
theorem not_takeovers : ¬ Obligations.Takeovers := by
  intro h
  have ha : misled.hub.awake := by decide
  obtain ⟨hlost, -⟩ := h misled ha (by decide)
  obtain ⟨hrole, -⟩ := (completes_onHub_iff rfl ha).1 ((hlost (by decide) (by decide) (by decide)).1 (by decide))
  have htake : misled.hub.passTime.aliveLost.fld TWN_STAT_ROLE = 2 := by
    rw [Hub.aliveLost, if_neg (by decide)]
    exact role_pairTakeOver (by decide) (by decide) (by decide) (by decide) rfl
  rw [Hub.fld_wrapTime, htake] at hrole
  exact absurd hrole (by decide)

end Sys2Proof.Machine
end
